-- ==== Sys2Proof/Word.lean ====
section
/-!
DEFINITION. The byte, the one word every frame, reply and image of the hub is made of (R198).
-/

namespace Sys2Proof

/-- One byte of a frame, a reply or the flash image. -/
abbrev Byte := BitVec 8

/-- One of the four floors, 0 to 3 (R1, R70). -/
abbrev Floor := Fin 4

end Sys2Proof
end

