-- ==== Sys2Proof/Syntax.lean ====
section
/-!
DEFINITION. The commands of the hub: one constructor of `Instr` for each row of spec/opcode_table.json, with
the operands the rule of its row gives it.
-/

namespace Sys2Proof

/-- The two attention ports (00_scope.md, section 1). -/
inductive Port where
  | plan
  | power
  deriving DecidableEq, Repr

/-- Left or right: an eye, a wheel or a bumper. Encoded by position (R198): left 0, right 1. -/
inductive Side where
  | left
  | right
  deriving DecidableEq, Repr

/-- The pile classes of a rug, in the order of R1. -/
inductive Pile where
  | low
  | medium
  | high
  deriving DecidableEq, Repr

/-- One off sample and one on sample of a cliff receiver, each 0..1023 (R30). -/
structure SamplePair where
  off : BitVec 10
  on : BitVec 10
  deriving DecidableEq, Repr

/-- The pairs of one channel in one scan. Normal mode reads the first alone, averaged mode all four (R30). -/
structure ChannelSamples where
  first : SamplePair
  second : SamplePair
  third : SamplePair
  fourth : SamplePair
  deriving DecidableEq, Repr

/-- The four cliff channels (R29). Encoded by position: FL 0, FR 1, SL 2, SR 3. -/
inductive Channel where
  | fl
  | fr
  | sl
  | sr
  deriving DecidableEq, Repr

/-- One thing for each cliff channel, in the order FL, FR, SL, SR. -/
structure PerChannel (α : Type) where
  fl : α
  fr : α
  sl : α
  sr : α
  deriving DecidableEq, Repr

/-- One thing for each switch line of the Line Monitor (R37). -/
structure PerLine (α : Type) where
  bmpL : α
  bmpR : α
  wdpL : α
  wdpR : α
  deriving DecidableEq, Repr

/-- What the receivers and the motor rail give at one scan (R30). -/
structure ScanReading where
  channels : PerChannel ChannelSamples
  rail : BitVec 10
  deriving DecidableEq, Repr

/-- The fields of an ASK frame, as its characters carry them (R198). -/
structure AskFrame where
  seq : Byte
  speed : BitVec 16
  turn : BitVec 16
  horizon : Byte
  intent : Byte
  leftTicks : BitVec 16
  rightTicks : BitVec 16
  deriving DecidableEq, Repr

/-- The frames the drive controller sends (R187). -/
inductive LinkFrame where
  | ask
  | event
  deriving DecidableEq, Repr

/-- A character of the Drive link after its start bit: the data byte, the mark bit, and whether the stop bit is high
(R187). -/
structure LinkChar where
  data : Byte
  mark : Bool
  stop : Bool
  deriving DecidableEq, Repr

/-- What the flash link gives when a read of the hub completes: the flash's content as the hub's own commands
left it, or whatever bytes the data line carried (R169; log 20). -/
inductive FlashAnswer where
  | content
  | line (bytes : List Byte)
  deriving DecidableEq, Repr

/-- The commands: one constructor for each row of spec/opcode_table.json. A request carries the body of its
frame, byte for byte (R198), and its port where both ports have it. A good frame of the Drive link is given by its
fields, a bad one by the characters received since the event before it, the last of which makes it bad (R187, R188;
log 19). -/
inductive Instr where
  -- reset and time
  | coldStart (vddMv : Nat) (nrstHigh : Bool)
  | millisecondEnd
  | scan (reading : ScanReading)
  | lineSample (levels : PerLine Bool)
  | liftTimerExpiry
  | setDownTimerExpiry
  | permitExpiry
  | stopTimerExpiry
  | leaseTimerExpiry
  | sagClearExpiry
  | dockingTimerExpiry
  | sightingFreshnessExpiry (eye : Side)
  -- Drive link
  | ask (frame : AskFrame)
  | driveFrameSent
  | stopDone
  | brushLoad (pile : Pile)
  | climb
  | driveBadFrame (chars : List LinkChar)
  | dlRxHeldLow (chars : List LinkChar)
  -- grants of the slot arbiter
  | checkSweepClaim
  | recheckClaim
  | applyItem
  | plannedRugRead
  | evictionSearchRead
  | evict
  | centreTileLookupDone
  | passOverLookupDone (wheel : Side)
  -- Beacon Receiver
  | beaconFrame (eye : Side) (payload : BitVec 16)
  | beaconShadowFrame (eye : Side) (payload : BitVec 16)
  -- transactions of the ports
  | planReplyRead (clocked : Nat)
  | flagPeek (clocked : Nat)
  | planOtherCommand (command : Byte) (clocked : Nat)
  | powerReplyRead (clocked : Nat)
  | frameError (port : Port) (frame : List Byte)
  | unknownRequest (port : Port) (code : Byte) (body : List Byte)
  -- requests
  | status (port : Port) (body : List Byte)
  | takeFlags (port : Port) (body : List Byte)
  | setMask (body : List Byte)
  | counters (body : List Byte)
  | setLimits (body : List Byte)
  | setSensors (body : List Byte)
  | mapPut (body : List Byte)
  | mapPutWrite
  | mapDelete (body : List Byte)
  | mapDeleteWrite
  | mapConfirm (body : List Byte)
  | mapConfirmWrite
  | mapQuery (body : List Byte)
  | mapQueryRead
  | mapClear (body : List Byte)
  | mapClearClaim
  | setFloor (body : List Byte)
  | setPose (body : List Byte)
  | setDock (body : List Byte)
  | routeAppend (body : List Byte)
  | routeFlush (body : List Byte)
  | routeRead (body : List Byte)
  | hold (port : Port) (body : List Byte)
  | release (port : Port) (body : List Byte)
  | releaseInhibit (body : List Byte)
  | trailRead (body : List Byte)
  | trailClear (body : List Byte)
  | returnStart (port : Port) (body : List Byte)
  | returnCancel (port : Port) (body : List Byte)
  | beaconSlot (body : List Byte)
  | mapSave (body : List Byte)
  | mapLoad (body : List Byte)
  | storeStatus (body : List Byte)
  | warmRestart (body : List Byte)
  | loadMode (body : List Byte)
  | docked (body : List Byte)
  | undocked (body : List Byte)
  -- flash link and Map Store
  | flashStatusRead (statusByte : Byte)
  | saveSlotRead
  | flashReadDone (answer : FlashAnswer)
  | loadRemovalClaim
  | loadInsertWrite
  | coldStartResetEnd (vddMv : Nat) (nrstHigh : Bool)
  | beaconElement (eye : Side) (lineHigh : Bool) (periods : Nat)
  deriving DecidableEq, Repr

end Sys2Proof
end

