-- ==== Sys2Proof/Config.lean ====
section
/-!
DEFINITION. The free values: what the spec leaves open and nothing in the model may fix.
-/

namespace Sys2Proof

/-- What the byte at an address of the external flash holds after the supply fell while the flash carried
out an erase or a program of its sector or page (R181: "may leave its sector or page partly written").
The first argument is the number of the draw. Free value, log 21. -/
opaque Config.freeFlashByte : Nat → Nat → Byte

end Sys2Proof
end

