-- ==== Sys2Proof/Machine/State.lean ====
section
/-!
DEFINITION. The state of the hub: every piece of state the spec gives a block, as plain data, one structure for
each block of 00_scope.md section 2, and the state after reset. Views the spec names beside the state that holds
them (the sensed index, the counts, the lines) are computed in Machine/Ops.lean and the files beside it (log 25).
-/

namespace Sys2Proof

/-- The thing of one channel. -/
def PerChannel.get {α : Type} (p : PerChannel α) : Channel → α
  | .fl => p.fl
  | .fr => p.fr
  | .sl => p.sl
  | .sr => p.sr

end Sys2Proof

namespace Sys2Proof.Machine

/-! ## Time Base and timers -/

/-- A running timer: the millisecond count at its start and its period (R28). -/
structure Running where
  start : Nat
  period : Nat
  deriving DecidableEq, Repr

/-- A timer of the hub, running or stopped (R28). -/
abbrev Timer := Option Running

/-- The Time Base (R26, R27). -/
structure TimeBase where
  /-- the millisecond count, 32 bits, wrapping -/
  ms : Nat
  /-- the dither position, 0..124 -/
  dither : Nat
  /-- the reference periods counted in the current millisecond -/
  refs : Nat
  /-- the seconds count, 16 bits, saturating -/
  secs : Nat
  deriving DecidableEq, Repr

/-! ## Hazard Table -/

/-- A tile of floor, 50 mm square (00_scope.md section 5.3). -/
structure Tile where
  x : Int
  y : Int
  deriving DecidableEq, Repr

/-- The hazard classes, in the order of R1. -/
inductive HazardClass where
  | cliff
  | dropSuspect
  | obstacle
  | threshold
  | rug
  | nogo
  | dockZone
  deriving DecidableEq, Repr

/-- Where an entry came from (R1). -/
inductive Origin where
  | sensed
  | planned
  deriving DecidableEq, Repr

/-- The rug attributes of R1, present exactly for class RUG. -/
structure RugAttrs where
  pile : Pile
  dark : Bool
  brushLift : Bool
  deriving DecidableEq, Repr

/-- A hazard entry (R1). -/
structure Entry where
  floor : Floor
  cls : HazardClass
  origin : Origin
  x0 : Int
  y0 : Int
  width : Nat
  height : Nat
  confidence : Nat
  pinned : Bool
  rug : Option RugAttrs
  zone : Option Nat
  stamp : Nat
  deriving DecidableEq, Repr

/-- The occupied slots with their entries, slot numbers strictly rising; a slot not listed is free (R1). -/
abbrev SlotMap := List (Nat × Entry)

/-- The two claimants that share the arbiter's second place (R15). -/
inductive SecondPlace where
  | updater
  | odometry
  deriving DecidableEq, Repr

/-- The claimants of the arbiter (R15). -/
inductive Claimant where
  | check
  | recheck
  | updater
  | odometry
  | plan
  | store
  deriving DecidableEq, Repr

/-- The Hazard Table with the memory of its arbiter (R7, R10 to R16). -/
structure Table where
  slots : SlotMap
  /-- the map generation count, 16 bits, wrapping -/
  generation : Nat
  /-- the eviction count, 16 bits, saturating -/
  evictions : Nat
  /-- who was granted last at the shared second place -/
  lastSecond : Option SecondPlace
  /-- whether both have waited there at once since cold start -/
  metBefore : Bool
  /-- the unit granted last, while it still has a claim to make: one other claimant may be granted before that claim;
  the model's own field, log 36 -/
  resting : Option Claimant
  deriving DecidableEq, Repr

/-! ## Floor Scanner and Line Monitor -/

/-- Offsets of a cliff channel in mm: forward, and lateral to the robot's left (R29). -/
structure Offset where
  forward : Int
  lateral : Int
  deriving DecidableEq, Repr

/-- The settings of SET_SENSORS (R43). -/
structure Sensors where
  floorT : Nat
  darkT : Nat
  sagT : Nat
  offsets : PerChannel Offset
  activeHigh : PerLine Bool
  tickLength : Nat
  wheelBase : Nat
  deriving DecidableEq, Repr

/-- The counts of one channel in a block (R32). -/
structure ChannelCount where
  nLow : Nat
  nNone : Nat
  least : Nat
  deriving DecidableEq, Repr

/-- The block accumulator (R32). -/
structure Block where
  k : Nat
  counts : PerChannel ChannelCount
  nSag : Nat
  floorT : Nat
  darkT : Nat
  sagT : Nat
  offsets : PerChannel Offset
  posting : Bool
  deriving DecidableEq, Repr

/-- The Floor Scanner (R31 to R33). -/
structure Scanner where
  averaged : Bool
  pendingAveraged : Bool
  timer : Timer
  block : Block
  lastClear : PerChannel (Option (Floor × Tile))
  deriving DecidableEq, Repr

/-- The Line Monitor (R37, R41, R42). -/
structure Lines where
  timer : Timer
  asserted : PerLine Bool
  lastSample : PerLine Bool
  lift : Timer
  setDown : Timer
  deriving DecidableEq, Repr

/-! ## Evidence Queue and Map Updater -/

/-- The kinds of evidence, in the order of R46. -/
inductive EvidenceKind where
  | lowReflect
  | noReturn
  | floorClear
  | wheelDrop
  | bump
  | passOver
  | climb
  | brushLoad
  deriving DecidableEq, Repr

/-- The sources of evidence, in the order of R46. -/
inductive Source where
  | floorScanner
  | lineMonitor
  | odometryUnit
  | driveLink
  deriving DecidableEq, Repr

/-- One item of a record, with the contents R47 gives its kind. -/
inductive Item where
  | lowReflect (channel : Channel) (tile : Tile) (least fire : Nat)
  | noReturn (channel : Channel) (tile : Tile) (least fire : Nat)
  | floorClear (channel : Channel) (tile : Tile)
  | wheelDrop (side : Side) (tile : Tile)
  | bump (side : Side) (tile : Tile)
  | passOver (side : Side) (tile : Tile)
  | climb (tile : Tile)
  | brushLoad (pile : Pile)
  deriving DecidableEq, Repr

/-- An evidence record (R46). -/
structure Record where
  kind : EvidenceKind
  floor : Floor
  stamp : Nat
  source : Source
  items : List Item
  deriving DecidableEq, Repr

/-- The Evidence Queue, oldest record first (R49, R50, R53, R56). -/
structure EvidenceQueue where
  records : List Record
  lost : Nat
  stale : Nat
  backlog : Bool
  deriving DecidableEq, Repr

/-- The best victim an eviction search has read so far (R11). -/
structure Victim where
  slot : Nat
  confidence : Nat
  stamp : Nat
  deriving DecidableEq, Repr

/-- Which claim of the item under way waits at the arbiter (R57, R64, R66). -/
inductive ApplyPhase where
  /-- a read of the PLANNED entry in `slot`; `covered` tells whether a dark rug read so far covers the tile -/
  | plannedRead (slot : Nat) (covered : Bool)
  /-- the apply write -/
  | write
  /-- the BRUSH_LOAD write to `slot`, for the centre tile `tile` -/
  | brushWrite (slot : Nat) (tile : Tile)
  /-- the victim search's read of `slot` -/
  | search (slot : Nat) (best : Option Victim)
  /-- the eviction write to `victim` -/
  | evict (victim : Nat)
  deriving DecidableEq, Repr

/-- The application of the head record: the item under way first, then those to come (R55). -/
structure Work where
  items : List Item
  phase : ApplyPhase
  deriving DecidableEq, Repr

/-- The Map Updater (R55, R63, R64). -/
structure Updater where
  work : Option Work
  pile : Pile
  conflicts : Nat
  deriving DecidableEq, Repr

/-! ## Odometry Unit -/

/-- Why the pose was lost, in the order of R70. -/
inductive LossCause where
  | start
  | lift
  | range
  | odometry
  deriving DecidableEq, Repr

/-- The pose state, the cause present while LOST (R70). -/
inductive PoseState where
  | tracking
  | lifted
  | lost (cause : LossCause)
  deriving DecidableEq, Repr

/-- A wheel's contact tile and noted tile (R83). -/
structure WheelTrack where
  contact : Option Tile
  noted : Option Tile
  deriving DecidableEq, Repr

/-- What a lookup of the Odometry Unit is for: the robot centre (R75) or a wheel's contact tile (R83). -/
inductive LookupFor where
  | centre
  | wheel (side : Side)
  deriving DecidableEq, Repr

/-- The reads of a centre-tile lookup after its first grant: the floor it was granted on (R6), the PLANNED slot its
next claim names (R16), and the highest pile of the rugs read so far (R75). -/
structure TileRead where
  floor : Floor
  slot : Nat
  pile : Option Pile
  deriving DecidableEq, Repr

/-- A lookup in progress. -/
structure Lookup where
  what : LookupFor
  tile : Tile
  /-- its result will be discarded -/
  discard : Bool
  /-- none until its first claim is granted -/
  reading : Option TileRead
  deriving DecidableEq, Repr

/-- The Odometry Unit (R70, R75, R83). -/
structure Odometry where
  /-- position in micrometres -/
  x : Int
  y : Int
  heading : Nat
  rangeSet : Bool
  pose : PoseState
  floor : Floor
  slip : Option Pile
  left : WheelTrack
  right : WheelTrack
  lookups : List Lookup
  centreAgain : Bool
  deriving DecidableEq, Repr

/-! ## Permit Controller -/

/-- The permit states, in the order of R86. -/
inductive PermitState where
  | still
  | moving
  | probing
  | stopping
  | inhibited
  deriving DecidableEq, Repr

/-- The hold set (R86, R114). -/
structure Holds where
  plan : Bool
  power : Bool
  lease : Bool
  route : Bool
  deriving DecidableEq, Repr

/-- The stop triggers, in the order of R104. -/
inductive StopCause where
  | lapsed
  | hold
  | poseLost
  | cliffSeen
  | wheelDrop
  | bump
  | recheck
  | restart
  | link
  deriving DecidableEq, Repr

/-- The refusal reasons, in the order of R193. -/
inductive Reason where
  | held
  | noPose
  | stopping
  | inhibited
  | loading
  | cliffAhead
  | dropAhead
  | nogoAhead
  | obstacleAhead
  | dockZone
  | stale
  | lapsed
  | superseded
  | malformed
  deriving DecidableEq, Repr

/-- The outcomes of a PERMIT reply, in the order of R90. -/
inductive PermitOutcome where
  | grant
  | clip
  | probe
  | refuse
  deriving DecidableEq, Repr

/-- The path of a check or a recheck: a constant-curvature arc from a pose, driven at `speed` mm/s while turning
`turn` degrees/s, `lenNum / lenDen` micrometres long (R93, R117). -/
structure Path where
  x : Int
  y : Int
  heading : Nat
  speed : Int
  turn : Int
  lenNum : Nat
  lenDen : Nat
  deriving DecidableEq, Repr

/-- The kinds of permit, in the order of R87. -/
inductive PermitKind where
  | normal
  | probe
  deriving DecidableEq, Repr

/-- The permit record (R87). Curvature and direction of the swept path are given by the speed and the turn rate
the check limited the ask to. `travelled` counts 1/131072 mm, the exact unit of R73's travel. -/
structure PermitRecord where
  kind : PermitKind
  speed : Int
  turn : Int
  expiry : Nat
  sweptSpeed : Int
  sweptTurn : Int
  lenNum : Nat
  lenDen : Nat
  radius : Nat
  margin : Nat
  dockException : Bool
  travelled : Nat
  deriving DecidableEq, Repr

/-- A tile of a footprint: its first-contact distance in units of 2^-40 micrometre, and whether it is a contact
tile, approached, or off the world (R94). -/
structure FootTile where
  tile : Tile
  dist : Nat
  contact : Bool
  approached : Bool
  offWorld : Bool
  deriving DecidableEq, Repr

/-- An examined footprint tile with its tile view (R8, R95). -/
structure Seen where
  foot : FootTile
  view : List Entry
  deriving DecidableEq, Repr

/-- The claim a sweep waits with: a PLANNED slot, or the SENSED slot of the first tile still to examine (R100). -/
inductive SweepClaim where
  | planned (slot : Nat)
  | sensed (slot : Nat)
  deriving DecidableEq, Repr

/-- A sweep in progress: the PLANNED entries read, the tiles to examine, the tiles examined, the first blocking
tile, and the claim that waits (R100). No claim waiting means the sweep has ended. -/
structure Sweep where
  planned : List Entry
  toExamine : List FootTile
  seen : List Seen
  firstBlocking : Option Seen
  claim : Option SweepClaim
  deriving DecidableEq, Repr

/-- What a check latches at its start (R91), with the ceiling formed from it (R92). `route` is the route head's
PROBE_ALLOWED and tag. -/
structure Latch where
  x : Int
  y : Int
  heading : Nat
  ceiling : Nat
  radius : Nat
  margin : Nat
  decel : Nat
  probe : Bool
  route : Option (Bool × Nat)
  sighting : Bool
  deriving DecidableEq, Repr

/-- A check in flight (R91 to R99). `speed` and `turn` are the ask's, limited to the ceiling (R92). -/
structure Check where
  ask : AskFrame
  latch : Latch
  speed : Int
  turn : Int
  sweep : Sweep
  stale : Bool
  restarted : Bool
  deriving DecidableEq, Repr

/-- Whose claim the Permit Controller makes next when a check and a recheck both have one (R100). -/
inductive FirstPlace where
  | check
  | recheck
  deriving DecidableEq, Repr

/-- The Permit Controller (R86). -/
structure PermitCtl where
  state : PermitState
  active : Option PermitRecord
  holds : Holds
  check : Option Check
  recheck : Option Sweep
  recheckPending : Bool
  recheckTurn : FirstPlace
  expiry : Timer
  stopTimer : Timer
  driveStopped : Bool
  lastStop : Option StopCause
  /-- whether the start-up load has ended (R111) -/
  startUpEnded : Bool
  stopTimeouts : Nat
  deriving DecidableEq, Repr

/-! ## Route Queue, Trail Unit, Dock Tracker -/

/-- A waypoint (R122). -/
structure Waypoint where
  x : Int
  y : Int
  floor : Floor
  radius : Nat
  cap : Nat
  tag : Nat
  stopAt : Bool
  probeAllowed : Bool
  deriving DecidableEq, Repr

/-- The lease states, in the order of R131. -/
inductive LeaseState where
  | notStarted
  | running
  | lapsed
  | off
  deriving DecidableEq, Repr

/-- The Route Queue, head first, with the Plan lease (R123, R131). -/
structure Route where
  waypoints : List Waypoint
  advances : Nat
  lease : LeaseState
  leaseTimer : Timer
  deriving DecidableEq, Repr

/-- The settings of SET_LIMITS (R195). -/
structure Limits where
  planCeiling : Nat
  radius : Nat
  margin : Nat
  decel : Nat
  probe : Bool
  leasePeriod : Nat
  returnOnLapse : Bool
  countT : Nat
  byteT : Nat
  deriving DecidableEq, Repr

/-- A crumb (R136). -/
structure Crumb where
  x : Int
  y : Int
  heading : Nat
  floor : Floor
  number : Nat
  deriving DecidableEq, Repr

/-- The Trail Unit, oldest crumb first (R136). -/
structure Trail where
  crumbs : List Crumb
  pushCounter : Nat
  deriving DecidableEq, Repr

/-- The dock record (R142). -/
structure DockRecord where
  valid : Bool
  x : Int
  y : Int
  heading : Nat
  floor : Floor
  deriving DecidableEq, Repr

/-- The return states, in the order of R143. -/
inductive ReturnState where
  | idle
  | trail
  | approach
  | docking
  | docked
  | failed
  deriving DecidableEq, Repr

/-- The Dock Tracker (R142, R143). -/
structure Dock where
  record : DockRecord
  state : ReturnState
  fallbacks : Nat
  timer : Timer
  deriving DecidableEq, Repr

/-! ## Guidance and the frames to the drive controller -/

/-- The target kinds of a guidance item, in the order of R129. -/
inductive TargetKind where
  | none
  | waypoint
  | crumb
  | approach
  | beacon
  deriving DecidableEq, Repr

/-- The steer hints, in the order of R129. -/
inductive SteerHint where
  | ahead
  | turnLeft
  | turnRight
  | slideLeft
  | slideRight
  | search
  | none
  deriving DecidableEq, Repr

/-- A guidance item (R129). -/
structure Guidance where
  target : TargetKind
  bearing : Int
  distance : Nat
  hint : SteerHint
  near : Bool
  deriving DecidableEq, Repr

/-- A PERMIT reply (R90). -/
structure PermitReply where
  seq : Byte
  outcome : PermitOutcome
  reason : Option Reason
  holds : Holds
  speed : Int
  turn : Int
  horizon : Nat
  brushLift : Bool
  guidance : Guidance
  deriving DecidableEq, Repr

/-- A frame of the hub to the drive controller (R190). -/
inductive DriveFrame where
  | permit (reply : PermitReply)
  | stop (cause : StopCause)
  deriving DecidableEq, Repr

/-- The Drive receiver (R187): hunting, `run` telling whether the run of unmarked characters it stands in has been
counted, or in a frame with the data bytes received so far, the type first. -/
inductive DriveRx where
  | hunting (run : Bool)
  | inFrame (frame : LinkFrame) (got : List Byte)
  deriving DecidableEq, Repr

/-- The Drive link (R187 to R190). -/
structure DriveLink where
  up : Bool
  rx : DriveRx
  badRun : Nat
  errors : Nat
  sending : Option DriveFrame
  waiting : List DriveFrame
  /-- the levels of DL_TX over the last frame sent whole, one for each bit time; log 24 -/
  sent : List Bool
  deriving DecidableEq, Repr

/-! ## Beacon Receiver and Load Supervisor -/

/-- A decoder of an eye: hunting, or in a frame with the bits taken so far, expecting a space or the bit mark that
ends the bit `bit` (R155). -/
inductive Decoder where
  | hunting
  | space (bits : List Bool)
  | mark (bits : List Bool) (bit : Bool)
  deriving DecidableEq, Repr

/-- The field codes of a valid payload, in the order of R156. -/
inductive FieldCode where
  | leftFan
  | rightFan
  | centre
  | halo
  deriving DecidableEq, Repr

/-- A sighting (R157). -/
structure Sighting where
  slot : Nat
  field : FieldCode
  stamp : Nat
  deriving DecidableEq, Repr

/-- One eye of the Beacon Receiver (R155 to R158). -/
structure Eye where
  inverted : Bool
  inversions : Nat
  primary : Decoder
  shadow : Decoder
  /-- whether the primary decoder has completed a valid frame since the shadow decoder found its start mark -/
  uprightSince : Bool
  sighting : Option Sighting
  fresh : Timer
  deriving DecidableEq, Repr

/-- A match slot (R157). -/
structure MatchSlot where
  pattern : BitVec 16
  mask : BitVec 16
  enabled : Bool
  deriving DecidableEq, Repr

/-- The Beacon Receiver (R157, R158). -/
structure Beacon where
  left : Eye
  right : Eye
  slot0 : MatchSlot
  slot1 : MatchSlot
  slot2 : MatchSlot
  flips : Nat
  foreign : Nat
  deriving DecidableEq, Repr

/-- The Load Supervisor: the cause set and the sag-clear timer (R161). -/
structure LoadSup where
  power : Bool
  rug : Bool
  sag : Bool
  sagTimer : Timer
  deriving DecidableEq, Repr

/-! ## Map Store and flash -/

/-- The content of a memory: bytes by address, addresses strictly rising, no byte equal to what an unlisted
address reads as. -/
abbrev Memory := List Host.Cell

/-- The header of an image, as its bytes give it (R170, R198). -/
structure ImageHeader where
  mask : BitVec 4
  home : Nat
  dockValid : Bool
  count : Nat
  dockX : Int
  dockY : Int
  dockHeading : Nat
  dockFloor : Nat
  crc : BitVec 16
  deriving DecidableEq, Repr

/-- Where a save stands (R172 to R174). -/
inductive SaveStep where
  /-- the opening busy wait, in ERASE -/
  | opening
  /-- the busy wait after the erase of a sector was sent, in ERASE -/
  | erased (sector : Nat)
  /-- a read claim on a slot waits, in WRITE -/
  | reading (slot : Nat)
  /-- the busy wait after a page program, in WRITE: of a full page, with the slot whose entry filled it, or of the
  last, shorter page -/
  | programmed (slot : Option Nat)
  /-- the busy wait after the header's first program, in HEADER -/
  | headerSent
  /-- the busy wait after the marker's program, in HEADER -/
  | markerSent
  deriving DecidableEq, Repr

/-- A save in progress. -/
structure SaveOp where
  mask : BitVec 4
  home : Floor
  step : SaveStep
  position : Nat
  buffer : List Entry
  written : Nat
  crc : BitVec 16
  waitFrom : Option Nat
  deriving DecidableEq, Repr

/-- Where a load stands (R175 to R178). -/
inductive LoadStep where
  /-- the opening busy wait -/
  | opening
  /-- the read of the header -/
  | header
  /-- the first pass's read of an image entry -/
  | judge (index : Nat)
  /-- a removal read of a slot waits -/
  | removeRead (slot : Nat)
  /-- a removal write of a slot waits -/
  | removeWrite (slot : Nat)
  /-- the second pass's read of an image entry -/
  | fetch (index : Nat)
  /-- the insertion write of the image entry waits -/
  | insert (index : Nat) (entry : Entry)
  deriving DecidableEq, Repr

/-- A load in progress. -/
structure LoadOp where
  mask : BitVec 4
  startUp : Bool
  header : Option ImageHeader
  step : LoadStep
  waitFrom : Option Nat
  crc : BitVec 16
  bad : Bool
  inserted : Nat
  dropped : Nat
  skipped : Nat
  deriving DecidableEq, Repr

/-- What the Map Store is doing (R171). -/
inductive StorePhase where
  | idle
  | save (op : SaveOp)
  | load (op : LoadOp)
  deriving DecidableEq, Repr

/-- The operations of R171. -/
inductive StoreOp where
  | save
  | load
  deriving DecidableEq, Repr

/-- The results, in the order of R171. -/
inductive StoreResult where
  | done
  | noImage
  | badCheck
  | flashTimeout
  | aborted
  | tooMany
  deriving DecidableEq, Repr

/-- A command of the hub on the flash link (R169). -/
inductive FlashCommand where
  | read (address : Nat)
  | writeEnable
  | pageProgram (address : Nat) (data : List Byte)
  | sectorErase (address : Nat)
  | readStatus
  deriving DecidableEq, Repr

/-- The Map Store (R171, R182). -/
structure Store where
  phase : StorePhase
  lastOp : Option StoreOp
  lastResult : Option StoreResult
  entryCount : Nat
  dropped : Nat
  skipped : Nat
  /-- the erase or program sent and not yet seen complete (R169, R180, R181) -/
  underWay : Option FlashCommand
  /-- the transactions the last step sent on the flash link, each with the bytes it shifted out; log 24 -/
  linkOut : List (List Byte)
  deriving DecidableEq, Repr

/-! ## Ports and Attention Unit -/

/-- The reply statuses, in the order of R198. -/
inductive Status where
  | done
  | started
  | notReady
  | frameError
  | unknownRequest
  | badField
  | tableFull
  | notFound
  | changed
  | busy
  | inMotion
  | lifted
  | returning
  | wrongFloor
  | queueFull
  | notInhibited
  | linkDown
  | notStopped
  | wheelDrop
  | atDock
  | noPose
  | noDock
  deriving DecidableEq, Repr

/-- A reply: status, echo of the request's code, body (R185, R198). -/
structure Reply where
  status : Status
  echo : Byte
  body : List Byte
  deriving DecidableEq, Repr

/-- The table request in service, with all it holds until its reply is formed (R19 to R23, R185). -/
inductive Service where
  | put (entry : Entry)
  | delete (slot : Nat) (guard : Option Nat)
  | confirm (floor : Floor) (tile : Tile) (pin : Bool)
  | query (floor : Floor) (x0 y0 : Int) (width height : Nat) (slot : Nat) (found : List (Nat × Entry))
  /-- `last`: the map generation after the last removal, none while nothing has been removed -/
  | clear (floor : Floor) (slot : Nat) (removing : Bool) (removed : Nat) (last : Option Nat)
  deriving DecidableEq, Repr

/-- The Plan reply slot (R184). -/
inductive PlanSlot where
  | empty
  | inService (service : Service)
  | ready (reply : Reply)
  deriving DecidableEq, Repr

/-- The Plan port. -/
structure PlanPort where
  slot : PlanSlot
  /-- what the last transaction shifted out (PL_SDO); log 24 -/
  out : List Byte
  deriving DecidableEq, Repr

/-- The Power port: its reply slot, EMPTY or READY (R186). -/
structure PowerPort where
  slot : Option Reply
  /-- what the last read returned; log 24 -/
  out : List Byte
  deriving DecidableEq, Repr

/-- The flag sets, masks and refusal counts (R191, R193). A mask bit of 1 is enabled. -/
structure Attention where
  planFlags : BitVec 17
  planMask : BitVec 17
  powerFlags : BitVec 6
  powerMask : BitVec 6
  refusals : List Nat
  deriving DecidableEq, Repr

/-! ## The hub and the state -/

/-- All the blocks of the hub (00_scope.md section 2). -/
structure Hub where
  time : TimeBase
  table : Table
  scanner : Scanner
  lines : Lines
  sensors : Sensors
  queue : EvidenceQueue
  updater : Updater
  odo : Odometry
  permit : PermitCtl
  route : Route
  limits : Limits
  trail : Trail
  dock : Dock
  beacon : Beacon
  load : LoadSup
  store : Store
  flash : Memory
  plan : PlanPort
  power : PowerPort
  drive : DriveLink
  att : Attention
  /-- whether the hub is held in cold-start reset (R167) -/
  inReset : Bool
  /-- how many draws of free values have been made; log 21 -/
  freeDraws : Nat
  deriving DecidableEq, Repr

/-- The state: the hub, and the commands that wait, first in first out. -/
structure State where
  hub : Hub
  pending : List Instr
  deriving DecidableEq, Repr

/-- The reasons the hub stops. The spec gives none: every command has an effect, a refusal reply or no effect. No
constructor, so no step answers a fault; that is safe. -/
inductive Fault where
  deriving DecidableEq, Repr

/-- The reasons a command has no meaning. -/
inductive Refusal where
  /-- Raised by `exec` for a command that has no meaning yet, with its mnemonic; safe, and raised by no arm now. -/
  | notModelled (mnemonic : String)
  deriving DecidableEq, Repr

/-! ## Reset -/

/-- The settings of SET_SENSORS at cold start (R29, R43). -/
def Sensors.default : Sensors where
  floorT := 320
  darkT := 90
  sagT := 600
  offsets := { fl := ⟨150, 60⟩, fr := ⟨150, -60⟩, sl := ⟨60, 150⟩, sr := ⟨60, -150⟩ }
  activeHigh := { bmpL := false, bmpR := false, wdpL := false, wdpR := false }
  tickLength := 1024
  wheelBase := 235

/-- The settings of SET_LIMITS at cold start (R195). -/
def Limits.default : Limits where
  planCeiling := 400
  radius := 170
  margin := 20
  decel := 1500
  probe := false
  leasePeriod := 1000
  returnOnLapse := false
  countT := 16
  byteT := 6

/-- A fresh block with the settings of cold start, posting no: the pose is LOST (R32, R44). -/
def Block.cold : Block where
  k := 0
  counts := { fl := ⟨0, 0, 1023⟩, fr := ⟨0, 0, 1023⟩, sl := ⟨0, 0, 1023⟩, sr := ⟨0, 0, 1023⟩ }
  nSag := 0
  floorT := Sensors.default.floorT
  darkT := Sensors.default.darkT
  sagT := Sensors.default.sagT
  offsets := Sensors.default.offsets
  posting := false

/-- An eye at cold start (R160). -/
def Eye.cold : Eye where
  inverted := false
  inversions := 0
  primary := .hunting
  shadow := .hunting
  uprightSince := false
  sighting := none
  fresh := none

/-- The cold-start state of every block, the Map Store idle (R24, R26, R44, R45, R68, R69, R85, R119, R134, R135,
R160, R168, R181, R195, R197). The flash and the draw counter are not the hub's to reset. -/
def Hub.cold (flash : Memory) (freeDraws : Nat) : Hub where
  time := { ms := 0, dither := 0, refs := 0, secs := 0 }
  table := { slots := [], generation := 0, evictions := 0, lastSecond := none, metBefore := false, resting := none }
  scanner :=
    { averaged := false, pendingAveraged := false, timer := some ⟨0, 2⟩, block := .cold
      lastClear := { fl := none, fr := none, sl := none, sr := none } }
  lines :=
    { timer := some ⟨0, 1⟩
      asserted := { bmpL := false, bmpR := false, wdpL := false, wdpR := false }
      lastSample := { bmpL := false, bmpR := false, wdpL := false, wdpR := false }
      lift := none, setDown := none }
  sensors := .default
  queue := { records := [], lost := 0, stale := 0, backlog := false }
  updater := { work := none, pile := .low, conflicts := 0 }
  odo :=
    { x := 0, y := 0, heading := 0, rangeSet := false, pose := .lost .start, floor := 0, slip := none
      left := ⟨none, none⟩, right := ⟨none, none⟩, lookups := [], centreAgain := false }
  permit :=
    { state := .still, active := none
      holds := { plan := false, power := false, lease := false, route := false }
      check := none, recheck := none, recheckPending := false, recheckTurn := .recheck
      expiry := none, stopTimer := none, driveStopped := false, lastStop := none
      startUpEnded := false, stopTimeouts := 0 }
  route := { waypoints := [], advances := 0, lease := .notStarted, leaseTimer := none }
  limits := .default
  trail := { crumbs := [], pushCounter := 0 }
  dock :=
    { record := { valid := false, x := 0, y := 0, heading := 0, floor := 0 }
      state := .idle, fallbacks := 0, timer := none }
  beacon :=
    { left := .cold, right := .cold
      slot0 := ⟨0, 0, false⟩, slot1 := ⟨0, 0, false⟩, slot2 := ⟨0, 0, false⟩, flips := 0, foreign := 0 }
  load := { power := false, rug := false, sag := false, sagTimer := none }
  store :=
    { phase := .idle, lastOp := none, lastResult := none, entryCount := 0, dropped := 0, skipped := 0
      underWay := none, linkOut := [] }
  flash := flash
  plan := { slot := .empty, out := [] }
  power := { slot := none, out := [] }
  drive := { up := true, rx := .hunting false, badRun := 0, errors := 0, sending := none, waiting := [], sent := [] }
  att :=
    { planFlags := 0, planMask := 1, powerFlags := 0, powerMask := 1
      refusals := [0, 0, 0, 0, 0, 0, 0, 0, 0, 0, 0, 0, 0, 0] }
  inReset := false
  freeDraws := freeDraws

/-- The start-up load in its opening busy wait: all four floors (R179). -/
def LoadOp.startUpLoad : LoadOp where
  mask := 0xF#4
  startUp := true
  header := none
  step := .opening
  waitFrom := none
  crc := 0xFFFF#16
  bad := false
  inserted := 0
  dropped := 0
  skipped := 0

/-- The hub when the cold-start reset ends: every block in its cold-start state and the start-up load begun with
its busy wait (R167, R169, R179). -/
def Hub.started (flash : Memory) (freeDraws : Nat) : Hub :=
  { Hub.cold flash freeDraws with
    store := { (Hub.cold flash freeDraws).store with phase := .load .startUpLoad, linkOut := [[0x05#8]] } }

/-- The machine right after reset: the cold-start reset has just ended, nothing waits, and the external flash
holds nothing the hub has written (log 4, log 20). -/
def State.reset : State where
  hub := Hub.started [] 0
  pending := []

end Sys2Proof.Machine
end

