-- ==== Sys2Proof/Machine/Numbers.lean ====
section
/-!
DEFINITION. The arithmetic of the hub's geometry, on integers alone: rounding, square root, sine, cosine and
direction in fixed point with 160 binary places (log 5).
-/

namespace Sys2Proof.Machine

/-- The fixed-point scale: 160 binary places. -/
def fixOne : Nat := 2 ^ 160

/-- Half a turn, pi, in fixed point, rounded down. -/
def fixPi : Nat := 4591442807048218921384805199743311128454155024418

/-- A whole turn, in fixed point. -/
def fixTurn : Nat := 2 * fixPi

/-- `n / d` rounded to the nearest integer, halves away from zero (R71, R73, R82). -/
def roundDiv (n : Int) (d : Nat) : Int :=
  if 0 ≤ n then (2 * n + d) / (2 * d) else -((2 * -n + d) / (2 * d))

/-- `n / d` rounded toward zero (R92). -/
def truncDiv (n : Int) (d : Nat) : Int :=
  if 0 ≤ n then n / d else -(-n / d)

/-- Newton's steps toward the square root of `n`, from above. -/
def sqrtSteps (n : Nat) : Nat → Nat → Nat
  | 0, x => x
  | fuel + 1, x =>
    let y := (x + n / x) / 2
    if y < x then sqrtSteps n fuel y else x

/-- The square root of `n`, rounded down. -/
def natSqrt (n : Nat) : Nat :=
  if n = 0 then 0 else sqrtSteps n 40 (2 ^ (n.log2 / 2 + 1))

/-- The sums of the positive and of the negative terms of a power series with alternating signs: `term` is the next
term, `k` the exponent it belongs to, and each step multiplies by `sq` and divides by `(k + 1) (k + 2)`. -/
def altSeries (sq : Nat) : Nat → Nat → Nat → Nat × Nat
  | 0, _, _ => (0, 0)
  | fuel + 1, term, k =>
    let rest := altSeries sq fuel (term * sq / fixOne / ((k + 1) * (k + 2))) (k + 2)
    (term + rest.2, rest.1)

/-- The sine of a fixed-point angle of at most an eighth of a turn. -/
def sinSmall (a : Nat) : Nat :=
  let s := altSeries (a * a / fixOne) 24 a 1
  s.1 - s.2

/-- The cosine of a fixed-point angle of at most an eighth of a turn. -/
def cosSmall (a : Nat) : Nat :=
  let s := altSeries (a * a / fixOne) 24 fixOne 0
  s.1 - s.2

/-- A direction as a unit vector in fixed point. -/
structure Unit2 where
  cos : Int
  sin : Int
  deriving DecidableEq, Repr

/-- A unit vector turned by `q` quarter turns. -/
def Unit2.quarters (u : Unit2) (q : Nat) : Unit2 :=
  match q % 4 with
  | 0 => u
  | 1 => ⟨-u.sin, u.cos⟩
  | 2 => ⟨-u.cos, -u.sin⟩
  | _ => ⟨u.sin, -u.cos⟩

/-- The sum of two angles, as unit vectors. -/
def Unit2.add (u w : Unit2) : Unit2 where
  cos := (u.cos * w.cos - u.sin * w.sin) / fixOne
  sin := (u.sin * w.cos + u.cos * w.sin) / fixOne

/-- The opposite angle. -/
def Unit2.neg (u : Unit2) : Unit2 := ⟨u.cos, -u.sin⟩

/-- The opposite direction. -/
def Unit2.back (u : Unit2) : Unit2 := ⟨-u.cos, -u.sin⟩

/-- The unit vector of a heading in 1/65536 turn (R70): exact at the four axes, with equal parts at the diagonals. -/
def headingUnit (heading : Nat) : Unit2 :=
  let h := heading % 65536
  let r := h % 16384
  let part : Unit2 :=
    if r < 8192 then ⟨cosSmall (r * fixTurn / 65536), sinSmall (r * fixTurn / 65536)⟩
    else if r = 8192 then ⟨natSqrt (fixOne * fixOne / 2), natSqrt (fixOne * fixOne / 2)⟩
    else ⟨sinSmall ((16384 - r) * fixTurn / 65536), cosSmall ((16384 - r) * fixTurn / 65536)⟩
  part.quarters (h / 16384)

/-- The unit vector of a fixed-point angle in radians. -/
def radianUnit (a : Nat) : Unit2 :=
  let b := a % fixTurn
  let quarter := fixTurn / 4
  let r := b % quarter
  let part : Unit2 :=
    if 2 * r ≤ quarter then ⟨cosSmall r, sinSmall r⟩ else ⟨sinSmall (quarter - r), cosSmall (quarter - r)⟩
  part.quarters (b / quarter)

/-- The unit vector of `num / den` radians. -/
def ratioUnit (num : Int) (den : Nat) : Unit2 :=
  let u := radianUnit (num.natAbs * fixOne / den)
  if 0 ≤ num then u else u.neg

/-- The terms of the arc tangent's series: `power` is the next odd power of the argument, `k` its exponent. -/
def atanSeries (sq : Nat) : Nat → Nat → Nat → Nat × Nat
  | 0, _, _ => (0, 0)
  | fuel + 1, power, k =>
    let rest := atanSeries sq fuel (power * sq / fixOne) (k + 2)
    (power / k + rest.2, rest.1)

/-- The tangent of half the angle whose tangent is `t`. -/
def halfTan (t : Nat) : Nat :=
  t * fixOne / (fixOne + natSqrt (fixOne * fixOne + t * t))

/-- The arc tangent of `num / den`, at most 1, in fixed point: three halvings, then the series. -/
def atanRatio (num den : Nat) : Nat :=
  let t := halfTan (halfTan (halfTan (num * fixOne / den)))
  let s := atanSeries (t * t / fixOne) 30 t 1
  8 * (s.1 - s.2)

/-- The direction of `(x, y)` in fixed-point radians, from 0 up to a whole turn; 0 for the zero vector. The
multiples of an eighth of a turn are exact to the last place of `fixTurn`. -/
def direction (x y : Int) : Nat :=
  let ax := x.natAbs
  let ay := y.natAbs
  let first :=
    if ax = 0 ∧ ay = 0 then 0
    else if ax = ay then fixTurn / 8
    else if ay < ax then atanRatio ay ax
    else fixTurn / 4 - atanRatio ax ay
  if 0 ≤ x then (if 0 ≤ y then first else (fixTurn - first) % fixTurn)
  else (if 0 ≤ y then fixTurn / 2 - first else fixTurn / 2 + first)

/-- The direction of `(x, y)` in 1/65536 turn, rounded to the nearest unit, halves away from zero, modulo a whole
turn (R129). -/
def directionUnits (x y : Int) : Nat :=
  ((2 * direction x y * 65536 + fixTurn) / (2 * fixTurn)) % 65536

end Sys2Proof.Machine
end

