-- ==== Sys2Proof/Machine/Geometry.lean ====
section
/-!
DEFINITION. Tiles, body points and the footprint of a path (R82, R93, R94). Points are in micrometres.
-/

namespace Sys2Proof.Machine

/-- A point of the world, in micrometres. -/
structure Point where
  x : Int
  y : Int
  deriving DecidableEq, Repr

/-- A pose. -/
structure Pose where
  x : Int
  y : Int
  heading : Nat
  deriving DecidableEq, Repr

/-- Whether a tile lies within −512..511 on both axes (00_scope.md section 5.3). -/
def Tile.onWorld (t : Tile) : Bool :=
  decide (-512 ≤ t.x ∧ t.x ≤ 511 ∧ -512 ≤ t.y ∧ t.y ≤ 511)

/-- The tile of a point (R82). -/
def Point.tile (p : Point) : Tile := ⟨p.x / 50000, p.y / 50000⟩

/-- The tile of a point, none outside the world (R82). -/
def Point.worldTile (p : Point) : Option Tile :=
  if p.tile.onWorld then some p.tile else none

/-- The centre of a tile. -/
def Tile.centre (t : Tile) : Point := ⟨50000 * t.x + 25000, 50000 * t.y + 25000⟩

/-- The point at `forward` and `lateral` micrometres from a pose, along and to the left of the heading turned by
`turned` (R82). -/
def Pose.point (p : Pose) (turned : Nat) (forward lateral : Int) : Point :=
  let u := headingUnit (p.heading + turned)
  ⟨roundDiv (p.x * fixOne + forward * u.cos - lateral * u.sin) fixOne,
   roundDiv (p.y * fixOne + forward * u.sin + lateral * u.cos) fixOne⟩

/-- The tile of a cliff channel's spot (R29, R82). -/
def Pose.channelTile (p : Pose) (o : Offset) : Option Tile :=
  (p.point 0 (1000 * o.forward) (1000 * o.lateral)).worldTile

/-- The tile of a wheel's contact point, half the wheel base to its side (R40, R82). -/
def Pose.contactTile (p : Pose) (wheelBase : Nat) : Side → Option Tile
  | .left => (p.point 0 0 (500 * wheelBase)).worldTile
  | .right => (p.point 0 0 (-(500 * wheelBase))).worldTile

/-- The tile of a bumper point, the radius plus 25 mm from the centre at 45 degrees to its side (R38, R82). -/
def Pose.bumperTile (p : Pose) (radius : Nat) : Side → Option Tile
  | .left => (p.point 8192 (1000 * (radius + 25)) 0).worldTile
  | .right => (p.point 57344 (1000 * (radius + 25)) 0).worldTile

/-- The tile of the front point, the radius straight ahead (R48, R82). -/
def Pose.frontTile (p : Pose) (radius : Nat) : Option Tile :=
  (p.point 0 (1000 * radius) 0).worldTile

/-- The tile of the robot centre (R75, R82). -/
def Pose.centreTile (p : Pose) : Option Tile := (Point.mk p.x p.y).worldTile

/-- The square of the distance from a pose's centre to a point. -/
def Pose.distSq (p : Pose) (q : Point) : Int := (q.x - p.x) ^ 2 + (q.y - p.y) ^ 2

/-- A position in millimetres as a point. -/
def mmPoint (x y : Int) : Point := ⟨1000 * x, 1000 * y⟩

/-- A coordinate in millimetres, halves away from zero, limited to −25,599..25,599 (R136). -/
def worldMm (um : Int) : Int := max (-25599) (min 25599 (roundDiv um 1000))

/-- Whether an area holds a tile. -/
def Entry.covers (e : Entry) (t : Tile) : Bool :=
  decide (e.x0 ≤ t.x ∧ t.x < e.x0 + e.width ∧ e.y0 ≤ t.y ∧ t.y < e.y0 + e.height)

/-- Whether an area shares a tile with a rectangle (R22). -/
def Entry.meets (e : Entry) (x0 y0 : Int) (width height : Nat) : Bool :=
  decide (e.x0 < x0 + width ∧ x0 < e.x0 + e.width ∧ e.y0 < y0 + height ∧ y0 < e.y0 + e.height)

/-! ## The footprint -/

/-- The unit of a first-contact distance: 2^-40 micrometre (log 5). -/
def distUnit : Nat := 2 ^ 40

/-- The first contact of a straight path with a tile's centre at `w` from its start: the distance, whether it is a
contact tile, whether approached. `dir` is the direction of travel, `d` the reach in micrometres (R94). -/
def straightContact (dir : Unit2) (p : Path) (d : Nat) (w : Point) : Option (Nat × Bool × Bool) :=
  let along := w.x * dir.cos + w.y * dir.sin
  if w.x ^ 2 + w.y ^ 2 ≤ (d : Int) ^ 2 then
    some (0, true, decide (0 < along ∧ 0 < p.lenNum))
  else
    let perp := w.x * dir.sin - w.y * dir.cos
    let room : Int := (d * fixOne : Nat) ^ 2 - perp ^ 2
    if room < 0 ∨ along ≤ 0 then none
    else
      let s := along - natSqrt room.toNat
      if s * p.lenDen ≤ p.lenNum * fixOne then some (s.toNat * distUnit / fixOne, false, true) else none

/-- The scale of the arc's lengths: 64 binary places. -/
def arcOne : Nat := 2 ^ 64

/-- The radius of a path's arc, in micrometres at the scale of `arcOne`: |v| over |ω| in radians per second (R93). -/
def Path.radius (p : Path) : Nat :=
  p.speed.natAbs * 180000 * arcOne * fixOne / (p.turn.natAbs * fixPi)

/-- The first contact of a curved path with a tile's centre at `w` from its start. The arc is
O + ρ (cos φ e1 + sin φ e2): e1 leads from the arc's centre O to the start, e2 = `dir` is the direction of travel,
and the tile's centre stands at (a, b) in these axes. It is within reach when cos (φ − φc) is at least
(ρ² + r² − D²) / (2 ρ r), so first at φc − α (R94). -/
def arcContact (e1 dir : Unit2) (p : Path) (d : Nat) (w : Point) : Option (Nat × Bool × Bool) :=
  let rho : Int := p.radius
  let a := (w.x * e1.cos + w.y * e1.sin) * arcOne / fixOne + rho
  let b := (w.x * dir.cos + w.y * dir.sin) * arcOne / fixOne
  let toCentre := direction a b
  /- whether the path's end lies beyond the angle `angle` -/
  let beyond (angle : Nat) : Bool :=
    decide (rho.toNat * angle * p.lenDen < p.lenNum * arcOne * fixOne)
  if w.x ^ 2 + w.y ^ 2 ≤ (d : Int) ^ 2 then
    let approached :=
      if 0 < b then decide (0 < p.lenNum)
      else if b = 0 then decide (a < 0 ∧ 0 < p.lenNum)
      else beyond (2 * toCentre - fixTurn)
    some (0, true, approached)
  else
    let r2 := a ^ 2 + b ^ 2
    let c := rho ^ 2 + r2 - ((d * arcOne : Nat) : Int) ^ 2
    let room := 4 * rho ^ 2 * r2 - c ^ 2
    if room < 0 then none
    else
      let angle := (toCentre + fixTurn - direction c (natSqrt room.toNat)) % fixTurn
      let s := rho.toNat * angle
      if s * p.lenDen ≤ p.lenNum * arcOne * fixOne then
        some (s * distUnit / (arcOne * fixOne), false, true)
      else none

/-- The first contact of a path with a tile, none when the tile is not of the footprint: a single point for speed 0,
straight for turn rate 0, an arc otherwise (R93, R94). -/
def Path.contact (p : Path) (d : Nat) (u : Unit2) (t : Tile) : Option FootTile :=
  let w : Point := ⟨t.centre.x - p.x, t.centre.y - p.y⟩
  let dir := if p.speed < 0 then u.back else u
  let found :=
    if p.speed = 0 then
      if w.x ^ 2 + w.y ^ 2 ≤ (d : Int) ^ 2 then some (0, true, false) else none
    else if p.turn = 0 then straightContact dir p d w
    else
      /- the centre of the arc lies to the left of the heading when speed and turn rate have the same sign -/
      let toLeft : Unit2 := ⟨-u.sin, u.cos⟩
      arcContact (if decide (0 < p.speed) = decide (0 < p.turn) then toLeft.back else toLeft) dir p d w
  found.map fun (dist, contact, approached) => ⟨t, dist, contact, approached, !t.onWorld⟩

/-- Puts a tile into a list in order of first contact, after those at the same distance. -/
def FootTile.insert (f : FootTile) : List FootTile → List FootTile
  | [] => [f]
  | g :: rest => if g.dist ≤ f.dist then g :: f.insert rest else f :: g :: rest

/-- The whole numbers from `lo`, `n` of them. -/
def intsFrom (lo : Int) (n : Nat) : List Int := (List.range n).map (lo + ·)

/-- The tiles that can lie in the footprint, by rising y and then rising x. -/
def Path.candidates (p : Path) (d : Nat) : List Tile :=
  let reach : Int := d + p.lenNum / p.lenDen + 1
  let side (c : Int) : List Int :=
    intsFrom ((c - reach) / 50000) ((c + reach) / 50000 - (c - reach) / 50000 + 1).toNat
  (side p.y).flatMap fun y => (side p.x).map fun x => ⟨x, y⟩

/-- The footprint of a path for a robot of the given radius and margin in mm, in the order of examination of R94. -/
def Path.footprint (p : Path) (radius margin : Nat) : List FootTile :=
  let d := 1000 * (radius + margin)
  let u := headingUnit p.heading
  ((p.candidates d).filterMap (p.contact d u)).foldl (fun l f => f.insert l) []

end Sys2Proof.Machine
end

