-- ==== Sys2Proof/Machine/Operands.lean ====
section
/-!
DEFINITION. The byte forms of R198: numbers in and out of bytes, the two checks, and the layouts of frames, settings,
entries and the image header. An enumerated value's code is its position in its list, which is the order of its
constructors.
-/

namespace Sys2Proof.Machine

/-! ## Numbers and bytes, most significant byte first -/

/-- One byte of a number, modulo 256. -/
def byte (n : Nat) : Byte := BitVec.ofNat 8 n

/-- Yes is 1. -/
def flagByte (b : Bool) : Byte := byte b.toNat

/-- Two bytes. -/
def be16 (n : Nat) : List Byte := [byte (n / 256), byte n]

/-- Three bytes. -/
def be24 (n : Nat) : List Byte := byte (n / 65536) :: be16 n

/-- Four bytes. -/
def be32 (n : Nat) : List Byte := be16 (n / 65536) ++ be16 n

/-- A signed number in two bytes, two's complement. -/
def be16s (i : Int) : List Byte := be16 (i % 65536).toNat

/-- A signed number in four bytes, two's complement. -/
def be32s (i : Int) : List Byte := be32 (i % 4294967296).toNat

/-- The byte of a body at an offset; 0 beyond its end. -/
def u8 (body : List Byte) (i : Nat) : Nat := (body.getD i 0).toNat

/-- The two-byte number of a body at an offset. -/
def u16 (body : List Byte) (i : Nat) : Nat := 256 * u8 body i + u8 body (i + 1)

/-- The three-byte number of a body at an offset. -/
def u24 (body : List Byte) (i : Nat) : Nat := 65536 * u8 body i + u16 body (i + 1)

/-- A 16-bit number read as two's complement. -/
def signed16 (n : Nat) : Int := if n < 32768 then n else (n : Int) - 65536

/-- The signed two-byte number of a body at an offset. -/
def s16 (body : List Byte) (i : Nat) : Int := signed16 (u16 body i)

/-- One bit of a byte of a body. -/
def bitAt (body : List Byte) (i bit : Nat) : Bool := (u8 body i).testBit bit

/-- Yes and no bits packed from bit 0 upward. -/
def packBits : List Bool → Nat
  | [] => 0
  | b :: rest => b.toNat + 2 * packBits rest

/-! ## The checks -/

/-- One bit of a division by the generator, most significant bit first. -/
def crcShift {w : Nat} (poly c : BitVec w) : BitVec w :=
  if c.msb then (c <<< 1) ^^^ poly else c <<< 1

/-- Eight bits of a division. -/
def crcByteShift {w : Nat} (poly c : BitVec w) : BitVec w :=
  crcShift poly (crcShift poly (crcShift poly (crcShift poly
    (crcShift poly (crcShift poly (crcShift poly (crcShift poly c)))))))

/-- CRC-8, generator 0x07, initial value 0x00. -/
def crc8 (bytes : List Byte) : Byte :=
  bytes.foldl (fun c b => crcByteShift 0x07#8 (c ^^^ b)) 0x00#8

/-- CRC-16, generator 0x1021, continued over further bytes. -/
def crc16 (start : BitVec 16) (bytes : List Byte) : BitVec 16 :=
  bytes.foldl (fun c b => crcByteShift 0x1021#16 (c ^^^ (BitVec.ofNat 16 (256 * b.toNat)))) start

/-! ## Codes -/

/-- The two-bit code of a pile class. -/
def Pile.ofCode : Nat → Option Pile
  | 0 => some .low
  | 1 => some .medium
  | 2 => some .high
  | _ => none

/-- The class a code names, none out of range. -/
def HazardClass.ofCode : Nat → Option HazardClass
  | 0 => some .cliff
  | 1 => some .dropSuspect
  | 2 => some .obstacle
  | 3 => some .threshold
  | 4 => some .rug
  | 5 => some .nogo
  | 6 => some .dockZone
  | _ => none

/-- The floor a number names, none out of range. -/
def floorOf (n : Nat) : Option Floor := if h : n < 4 then some ⟨n, h⟩ else none

/-- A hold set in bits 0..3. -/
def Holds.bits (h : Holds) : Nat := packBits [h.plan, h.power, h.lease, h.route]

/-- Whether a floor mask selects a floor. -/
def masks (mask : BitVec 4) (f : Floor) : Bool := mask.getLsbD f.val

/-! ## Hazard entries and the image -/

/-- A hazard entry in its sixteen bytes. -/
def Entry.encode (e : Entry) : List Byte :=
  let dark := (e.rug.map (·.dark)).getD false
  let lift := (e.rug.map (·.brushLift)).getD false
  [byte e.cls.ctorIdx,
   byte (e.floor.val + 4 * packBits [e.origin = .planned, e.pinned, e.rug.isSome, dark, lift, e.zone.isSome])]
  ++ be16s e.x0 ++ be16s e.y0
  ++ [byte e.width, byte e.height, byte e.confidence,
      byte ((e.rug.map (·.pile.ctorIdx)).getD 0), byte (e.zone.getD 0)]
  ++ be16 e.stamp ++ [0xFF#8, 0xFF#8, 0xFF#8]

/-- Whether an entry satisfies the table of R1. -/
def Entry.legal (e : Entry) : Bool :=
  decide (1 ≤ e.width ∧ e.width ≤ 64 ∧ 1 ≤ e.height ∧ e.height ≤ 64)
  && decide (-512 ≤ e.x0 ∧ e.x0 + e.width ≤ 512 ∧ -512 ≤ e.y0 ∧ e.y0 + e.height ≤ 512)
  && decide (1 ≤ e.confidence ∧ e.confidence ≤ 15)
  && decide (e.stamp ≤ 65535)
  && (e.rug.isSome == decide (e.cls = .rug))
  && (match e.rug with
      | some r => (!decide (r.pile = .high) || r.brushLift)
        && (decide (e.origin = .planned) || r.brushLift == decide (r.pile = .high))
      | none => true)
  && (match e.zone with
      | some z => decide (z ≤ 63 ∧ e.origin = .planned)
      | none => true)
  && (match e.origin with
      | .sensed => decide (e.width = 1 ∧ e.height = 1 ∧ e.cls ≠ .nogo ∧ e.cls ≠ .dockZone)
      | .planned => decide (e.confidence = 15) && e.pinned)

/-- The rug indications of an entry's bytes: dark, brush lift and pile, when present and in range. -/
def rugOf (present dark lift : Bool) (pile : Nat) : Option (Option RugAttrs) :=
  if present then (Pile.ofCode pile).map fun p => some ⟨p, dark, lift⟩ else some none

/-- The image entry at an offset of some bytes, none when it fails the test of R1 (R176). -/
def Entry.decode (body : List Byte) : Option Entry := do
  let cls ← HazardClass.ofCode (u8 body 0)
  let floor ← floorOf (u8 body 1 % 4)
  let rug ← rugOf (bitAt body 1 4) (bitAt body 1 5) (bitAt body 1 6) (u8 body 9)
  let e : Entry :=
    { floor, cls
      origin := if bitAt body 1 2 then .planned else .sensed
      x0 := s16 body 2, y0 := s16 body 4, width := u8 body 6, height := u8 body 7
      confidence := u8 body 8, pinned := bitAt body 1 3, rug
      zone := if bitAt body 1 7 then some (u8 body 10) else none
      stamp := u16 body 11 }
  if e.legal then some e else none

/-- The dock record in its eight bytes. -/
def DockRecord.encode (d : DockRecord) : List Byte :=
  flagByte d.valid :: be16s d.x ++ be16s d.y ++ be16 d.heading ++ [byte d.floor.val]

/-- The marker of a valid image. -/
def imageMarker : List Byte := [0x5A#8, 0xC3#8, 0x41#8, 0x20#8]

/-- The header of an image without its marker: bytes 4 to 63 (R174). -/
def headerTail (mask : BitVec 4) (home : Floor) (dock : DockRecord) (count : Nat) (crc : BitVec 16) : List Byte :=
  [0x03#8, byte mask.toNat, byte home.val, flagByte dock.valid] ++ be16 count
  ++ be16s dock.x ++ be16s dock.y ++ be16 dock.heading ++ [byte dock.floor.val] ++ be16 crc.toNat
  ++ List.replicate 45 0xFF#8

/-- The fields of a header's bytes, none when the marker or the format number is wrong (R176). -/
def ImageHeader.decode (body : List Byte) : Option ImageHeader :=
  if body.take 4 = imageMarker ∧ u8 body 4 = 3 then
    some
      { mask := BitVec.ofNat 4 (u8 body 5), home := u8 body 6, dockValid := bitAt body 7 0, count := u16 body 8
        dockX := s16 body 10, dockY := s16 body 12, dockHeading := u16 body 14, dockFloor := u8 body 16
        crc := BitVec.ofNat 16 (u16 body 17) }
  else none

/-- Whether a position lies within −25,599..25,599 mm. -/
def mmInWorld (v : Int) : Bool := decide (-25599 ≤ v ∧ v ≤ 25599)

/-- The tests R176 makes on a header's fields. -/
def ImageHeader.legal (h : ImageHeader) : Bool :=
  decide (h.count ≤ 1024 ∧ h.mask ≠ 0 ∧ h.home < 4)
  && (!h.dockValid || (mmInWorld h.dockX && mmInWorld h.dockY && decide (h.dockFloor < 4)))

/-! ## Settings -/

/-- The settings a SET_LIMITS body carries, none when one is out of range (R195). -/
def Limits.parse (b : List Byte) : Option Limits :=
  let l : Limits :=
    { planCeiling := u16 b 0, radius := u8 b 2, margin := u8 b 3, decel := u16 b 4, probe := bitAt b 6 0
      leasePeriod := u16 b 7, returnOnLapse := bitAt b 9 0, countT := u8 b 10, byteT := u8 b 11 }
  if 50 ≤ l.planCeiling ∧ l.planCeiling ≤ 500 ∧ 100 ≤ l.radius ∧ l.radius ≤ 250 ∧ l.margin ≤ 100
    ∧ 500 ≤ l.decel ∧ l.decel ≤ 4000 ∧ (l.leasePeriod = 0 ∨ 100 ≤ l.leasePeriod ∧ l.leasePeriod ≤ 5000)
    ∧ 1 ≤ l.countT ∧ l.countT ≤ 40 ∧ 1 ≤ l.byteT ∧ l.byteT ≤ 10 then some l else none

/-- The settings of SET_LIMITS in its twelve bytes. -/
def Limits.encode (l : Limits) : List Byte :=
  be16 l.planCeiling ++ [byte l.radius, byte l.margin] ++ be16 l.decel ++ [flagByte l.probe]
  ++ be16 l.leasePeriod ++ [flagByte l.returnOnLapse, byte l.countT, byte l.byteT]

/-- Whether a channel offset is in range. -/
def Offset.legal (o : Offset) : Bool :=
  decide (-300 ≤ o.forward ∧ o.forward ≤ 300 ∧ -300 ≤ o.lateral ∧ o.lateral ≤ 300)

/-- The settings a SET_SENSORS body carries, none when one is out of range or D is not less than F (R43). -/
def Sensors.parse (b : List Byte) : Option Sensors :=
  let s : Sensors :=
    { floorT := u16 b 0, darkT := u16 b 2, sagT := u16 b 4
      offsets :=
        { fl := ⟨s16 b 6, s16 b 8⟩, fr := ⟨s16 b 10, s16 b 12⟩
          sl := ⟨s16 b 14, s16 b 16⟩, sr := ⟨s16 b 18, s16 b 20⟩ }
      activeHigh := { bmpL := bitAt b 22 0, bmpR := bitAt b 22 1, wdpL := bitAt b 22 2, wdpR := bitAt b 22 3 }
      tickLength := u16 b 23, wheelBase := u16 b 25 }
  if 1 ≤ s.floorT ∧ s.floorT ≤ 1023 ∧ s.darkT < s.floorT ∧ s.sagT ≤ 1023
    ∧ s.offsets.fl.legal ∧ s.offsets.fr.legal ∧ s.offsets.sl.legal ∧ s.offsets.sr.legal
    ∧ 64 ≤ s.tickLength ∧ s.tickLength ≤ 4095 ∧ 150 ≤ s.wheelBase ∧ s.wheelBase ≤ 350 then some s else none

/-- The waypoint a ROUTE_APPEND body carries, none when a field is out of range (R122). -/
def Waypoint.parse (b : List Byte) : Option Waypoint := do
  let floor ← floorOf (u8 b 4)
  let w : Waypoint :=
    { x := s16 b 0, y := s16 b 2, floor, radius := u16 b 5, cap := u16 b 7, tag := u8 b 9
      stopAt := bitAt b 10 0, probeAllowed := bitAt b 10 1 }
  if mmInWorld w.x && mmInWorld w.y && decide (20 ≤ w.radius ∧ w.radius ≤ 500 ∧ 50 ≤ w.cap ∧ w.cap ≤ 500) then
    some w
  else none

/-- A waypoint in its eleven bytes. -/
def Waypoint.encode (w : Waypoint) : List Byte :=
  be16s w.x ++ be16s w.y ++ [byte w.floor.val] ++ be16 w.radius ++ be16 w.cap
  ++ [byte w.tag, byte (packBits [w.stopAt, w.probeAllowed])]

/-- The entry a MAP_PUT body asks for, stamped, none when a field is out of range or inconsistent (R19). -/
def Entry.parsePut (b : List Byte) (stamp : Nat) : Option Entry := do
  let floor ← floorOf (u8 b 0)
  let cls ← HazardClass.ofCode (u8 b 1)
  let rug ← rugOf (bitAt b 8 0) (bitAt b 8 1) (bitAt b 8 2) (u8 b 9)
  let e : Entry :=
    { floor, cls, origin := .planned, x0 := s16 b 2, y0 := s16 b 4, width := u8 b 6, height := u8 b 7
      confidence := 15, pinned := true, rug
      zone := if bitAt b 8 3 then some (u8 b 10) else none
      stamp }
  if e.legal then some e else none

/-- Whether a rectangle with sides 1..1024 lies within −512..511 (R22). -/
def rectLegal (x0 y0 : Int) (width height : Nat) : Bool :=
  decide (1 ≤ width ∧ width ≤ 1024 ∧ 1 ≤ height ∧ height ≤ 1024
    ∧ -512 ≤ x0 ∧ x0 + width ≤ 512 ∧ -512 ≤ y0 ∧ y0 + height ≤ 512)

/-! ## Frames -/

/-- A reply as it stands on the link (R198). -/
def Reply.encode (r : Reply) : List Byte :=
  let data := byte r.status.ctorIdx :: r.echo :: byte r.body.length :: r.body
  data ++ [crc8 data]

/-- The NOT_READY frame. -/
def Reply.notReady : Reply := ⟨.notReady, 0x00#8, []⟩

/-- Whether the bytes after the command byte, or after the address, form a good frame (R183, R186). -/
def goodFrame (frame : List Byte) : Bool :=
  decide (3 ≤ frame.length ∧ u8 frame 1 ≤ 60 ∧ frame.length = u8 frame 1 + 3)
  && decide (frame.getLast? = some (crc8 frame.dropLast))

/-- A refusal reason's code, counting from 1. -/
def reasonCode : Option Reason → Nat
  | none => 0
  | some r => r.ctorIdx + 1

/-- A stop cause's code, counting from 1. -/
def causeCode : Option StopCause → Nat
  | none => 0
  | some c => c.ctorIdx + 1

/-- A frame to the drive controller as its characters (R198). -/
def DriveFrame.encode : DriveFrame → List Byte
  | .permit r =>
    let data :=
      [0xB1#8, r.seq, byte r.outcome.ctorIdx, byte (reasonCode r.reason), byte r.holds.bits]
      ++ be16s r.speed ++ be16s r.turn
      ++ [byte r.horizon, byte (packBits [r.brushLift, r.guidance.near]), byte r.guidance.target.ctorIdx]
      ++ be16s r.guidance.bearing ++ be16 r.guidance.distance ++ [byte r.guidance.hint.ctorIdx]
    data ++ [crc8 data]
  | .stop cause =>
    let data := [0xB2#8, byte (causeCode (some cause))]
    data ++ [crc8 data]

/-- A frame's characters on the Drive link: the first marked, no other, each stop bit high (R187). -/
def linkChars : List Byte → List LinkChar
  | [] => []
  | type :: rest => ⟨type, true, true⟩ :: rest.map fun b => ⟨b, false, true⟩

/-- A command of the flash link in the bytes its transaction shifts out, addresses most significant byte first
(R169). -/
def FlashCommand.encode : FlashCommand → List Byte
  | .read a => 0x03#8 :: be24 a
  | .writeEnable => [0x06#8]
  | .pageProgram a data => 0x02#8 :: be24 a ++ data
  | .sectorErase a => 0x20#8 :: be24 a
  | .readStatus => [0x05#8]

end Sys2Proof.Machine

namespace Sys2Proof

/-- The type byte of a frame (R198). -/
def LinkFrame.type : LinkFrame → Byte
  | .ask => 0xA1#8
  | .event => 0xA2#8

/-- The frame a marked character begins (R187). -/
def LinkFrame.ofType (type : Byte) : Option LinkFrame :=
  if type = LinkFrame.ask.type then some .ask else if type = LinkFrame.event.type then some .event else none

/-- The characters of a frame (R187). -/
def LinkFrame.length : LinkFrame → Nat
  | .ask => 13
  | .event => 4

/-- The fields of an ASK's data bytes, the type first (R198). -/
def AskFrame.ofBytes (b : List Byte) : AskFrame where
  seq := Machine.byte (Machine.u8 b 1)
  speed := BitVec.ofNat 16 (Machine.u16 b 2)
  turn := BitVec.ofNat 16 (Machine.u16 b 4)
  horizon := Machine.byte (Machine.u8 b 6)
  intent := Machine.byte (Machine.u8 b 7)
  leftTicks := BitVec.ofNat 16 (Machine.u16 b 8)
  rightTicks := BitVec.ofNat 16 (Machine.u16 b 10)

/-- An ASK's thirteen data bytes (R198). -/
def AskFrame.encode (a : AskFrame) : List Byte :=
  let data :=
    [LinkFrame.ask.type, a.seq] ++ Machine.be16 a.speed.toNat ++ Machine.be16 a.turn.toNat ++ [a.horizon, a.intent]
    ++ Machine.be16 a.leftTicks.toNat ++ Machine.be16 a.rightTicks.toNat
  data ++ [Machine.crc8 data]

/-- An EVENT's four data bytes (R198). -/
def eventBytes (code argument : Byte) : List Byte :=
  let data := [LinkFrame.event.type, code, argument]
  data ++ [Machine.crc8 data]

/-- A character's eleven bits in the order of the line: the start bit, the data bits least significant first, the mark
bit and the stop bit (R187). -/
def LinkChar.bits (c : LinkChar) : List Bool :=
  false :: (List.range 8).map c.data.getLsbD ++ [c.mark, c.stop]

/-- The asked speed in mm/s. -/
def AskFrame.speedMm (a : AskFrame) : Int := Machine.signed16 a.speed.toNat

/-- The asked turn rate in degrees per second. -/
def AskFrame.turnDeg (a : AskFrame) : Int := Machine.signed16 a.turn.toNat

/-- The asked horizon in milliseconds. -/
def AskFrame.horizonMs (a : AskFrame) : Nat := a.horizon.toNat

/-- PROBE intent. -/
def AskFrame.probeIntent (a : AskFrame) : Bool := a.intent.getLsbD 0

/-- DOCKING intent. -/
def AskFrame.dockingIntent (a : AskFrame) : Bool := a.intent.getLsbD 1

/-- The left tick count. -/
def AskFrame.leftCount (a : AskFrame) : Int := Machine.signed16 a.leftTicks.toNat

/-- The right tick count. -/
def AskFrame.rightCount (a : AskFrame) : Int := Machine.signed16 a.rightTicks.toNat

end Sys2Proof
end

