-- ==== Sys2Proof/Machine/Flags.lean ====
section
/-!
DEFINITION. The Attention Unit's flags, masks and lines (R191, R192), and the counting of saturating and wrapping
counters (00_scope.md section 5.3).
-/

namespace Sys2Proof.Machine

/-- The Plan flags, in bit order from bit 0 (R198). -/
inductive PlanFlag where
  | replyReady
  | replyLost
  | mapChanged
  | mapFull
  | evidenceLost
  | backlog
  | stopIssued
  | inhibited
  | poseLost
  | lifted
  | routeAdvanced
  | routeEmpty
  | returnChanged
  | storeDone
  | leaseLapsed
  | beaconPolarity
  | heavyLoad
  deriving DecidableEq, Repr

/-- The Power flags, in bit order from bit 0 (R198). -/
inductive PowerFlag where
  | replyReady
  | returnChanged
  | dockSighted
  | heavyLoad
  | inhibited
  | lifted
  deriving DecidableEq, Repr

/-- The bit of a Plan flag in the flag set and the mask. -/
def PlanFlag.bit (f : PlanFlag) : BitVec 17 := BitVec.twoPow 17 f.ctorIdx

/-- The bit of a Power flag in the flag set and the mask. -/
def PowerFlag.bit (f : PowerFlag) : BitVec 6 := BitVec.twoPow 6 f.ctorIdx

/-- Whether a Plan flag is set. -/
def Hub.planHas (h : Hub) (f : PlanFlag) : Bool := h.att.planFlags.getLsbD f.ctorIdx

/-- Whether a Power flag is set. -/
def Hub.powerHas (h : Hub) (f : PowerFlag) : Bool := h.att.powerFlags.getLsbD f.ctorIdx

/-- Sets a Plan flag (R191). -/
def Hub.setPlan (f : PlanFlag) (h : Hub) : Hub := { h with att.planFlags := h.att.planFlags ||| f.bit }

/-- Sets a Power flag (R191). -/
def Hub.setPower (f : PowerFlag) (h : Hub) : Hub := { h with att.powerFlags := h.att.powerFlags ||| f.bit }

/-- Clears a Plan flag. -/
def Hub.clearPlan (f : PlanFlag) (h : Hub) : Hub := { h with att.planFlags := h.att.planFlags &&& ~~~f.bit }

/-- Clears a Power flag. -/
def Hub.clearPower (f : PowerFlag) (h : Hub) : Hub := { h with att.powerFlags := h.att.powerFlags &&& ~~~f.bit }

/-- PLAN_ATTN: a Plan flag is set with its mask bit enabled, outside the cold-start reset (R191). -/
def Hub.planAttn (h : Hub) : Bool := !h.inReset && decide (h.att.planFlags &&& h.att.planMask ≠ 0)

/-- PWR_ATTN (R191). -/
def Hub.powerAttn (h : Hub) : Bool := !h.inReset && decide (h.att.powerFlags &&& h.att.powerMask ≠ 0)

/-- An 8-bit saturating counter raised by 1. -/
def sat8 (n : Nat) : Nat := min (n + 1) 255

/-- A 16-bit saturating counter raised by 1. -/
def sat16 (n : Nat) : Nat := min (n + 1) 65535

/-- A 16-bit wrapping counter raised. -/
def wrap16 (n by_ : Nat) : Nat := (n + by_) % 65536

/-- Raises the refusal count of a reason (R90, R193). -/
def Hub.countRefusal (r : Reason) (h : Hub) : Hub :=
  { h with att.refusals := h.att.refusals.modify r.ctorIdx sat8 }

end Sys2Proof.Machine
end

