-- ==== Sys2Proof/Machine/Ops.lean ====
section
/-!
DEFINITION. The shared operations: running a command's effect on the hub, timers, the bytes of the flash, the slots of
the Hazard Table and the slot arbiter.
-/

namespace Sys2Proof.Machine

/-- The answer of a command whose effect on the hub is `f`: the next state. While the hub is held in cold-start
reset its ports do not answer and its timers do not run, so nothing happens (R167). -/
def State.run (s : State) (f : Hub → Hub) : Host.Outcome State Fault Refusal :=
  .next { s with hub := if s.hub.inReset then s.hub else f s.hub }

/-! ## Timers (R28) -/

/-- A timer started now for a period. -/
def Hub.timer (h : Hub) (period : Nat) : Timer := some ⟨h.time.ms, period⟩

/-- Whether the count has come to a timer's period past its start (log 6). -/
def Timer.due (t : Timer) (ms : Nat) : Bool :=
  match t with
  | some r => decide (r.period ≤ (ms + 4294967296 - r.start) % 4294967296)
  | none => false

/-- A reload timer at its expiry: it starts again from the count at which it expired. -/
def Timer.reload (t : Timer) : Timer :=
  t.map fun r => ⟨(r.start + r.period) % 4294967296, r.period⟩

/-- The milliseconds left to a timer's expiry, 0 when stopped. -/
def Timer.left (t : Timer) (ms : Nat) : Nat :=
  match t with
  | some r => r.period - (ms + 4294967296 - r.start) % 4294967296
  | none => 0

/-! ## The flash's bytes -/

/-- What an unlisted address of the flash reads as: the erased byte (R170; log 20). -/
def Memory.blank : Byte := 0xFF#8

/-- The byte at an address. -/
def Memory.read (m : Memory) (address : Nat) : Byte := ((m.find? (·.1 == address)).map (·.2)).getD Memory.blank

/-- The memory with a byte written; writing the erased byte takes the cell out. -/
def Memory.write (m : Memory) (address : Nat) (b : Byte) : Memory :=
  match m with
  | [] => if b = Memory.blank then [] else [(address, b)]
  | cell :: rest =>
    if cell.1 < address then cell :: Memory.write rest address b
    else
      let above := if cell.1 = address then rest else cell :: rest
      if b = Memory.blank then above else (address, b) :: above

/-- The canonical form: addresses strictly rising, no erased byte listed. -/
def Memory.wf (m : Memory) : Bool :=
  decide (m.Pairwise fun a b => a.1 < b.1) && m.all fun c => c.2 != Memory.blank

/-- The memory with bytes written from an address upward. -/
def Memory.writeAll (m : Memory) (address : Nat) : List Byte → Memory
  | [] => m
  | b :: rest => (m.write address b).writeAll (address + 1) rest

/-- The bytes from an address upward. -/
def Memory.bytes (m : Memory) (address count : Nat) : List Byte :=
  (List.range count).map fun i => m.read (address + i)

/-- A sector erase: the 4096 bytes from an address are erased. -/
def Memory.eraseSector (m : Memory) (base : Nat) : Memory :=
  m.filter fun c => !decide (base ≤ c.1 ∧ c.1 < base + 4096)

/-! ## The slots of the Hazard Table -/

/-- The entry in a slot, none when it is free. -/
def SlotMap.entry (m : SlotMap) (slot : Nat) : Option Entry := (m.find? (·.1 == slot)).map (·.2)

/-- The lowest number at or above `next` that the rising slots of the list leave free (R10). -/
def SlotMap.freeFrom (next : Nat) : SlotMap → Nat
  | [] => next
  | (slot, _) :: rest => if slot = next then SlotMap.freeFrom (next + 1) rest else next

/-- The lowest free slot, none when all 1024 are occupied (R10). -/
def SlotMap.free (m : SlotMap) : Option Nat :=
  let slot := m.freeFrom 0
  if slot < 1024 then some slot else none

/-- The slots with an entry in one slot. -/
def SlotMap.put (slot : Nat) (e : Entry) : SlotMap → SlotMap
  | [] => [(slot, e)]
  | (k, old) :: rest =>
    if k < slot then (k, old) :: SlotMap.put slot e rest
    else if k = slot then (slot, e) :: rest
    else (slot, e) :: (k, old) :: rest

/-- The slots with one slot free. -/
def SlotMap.remove (slot : Nat) (m : SlotMap) : SlotMap := m.filter fun p => p.1 != slot

/-- The lowest occupied slot at or above `lo` whose entry meets a test. -/
def SlotMap.next (m : SlotMap) (lo : Nat) (test : Entry → Bool) : Option Nat :=
  (m.find? fun p => decide (lo ≤ p.1) && test p.2).map (·.1)

/-- The lowest occupied slot at or above `lo`. -/
def SlotMap.nextOccupied (m : SlotMap) (lo : Nat) : Option Nat := m.next lo fun _ => true

/-- The lowest slot at or above `lo` on the planned list of a floor (R7). -/
def SlotMap.nextPlanned (m : SlotMap) (f : Floor) (lo : Nat) : Option Nat :=
  m.next lo fun e => decide (e.origin = .planned ∧ e.floor = f)

/-- Whether an entry is the SENSED entry of a floor and tile (R7). -/
def Entry.sensedOn (e : Entry) (f : Floor) (t : Tile) : Bool :=
  decide (e.origin = .sensed ∧ e.floor = f ∧ e.x0 = t.x ∧ e.y0 = t.y)

/-- The sensed index: the slot of the SENSED entry of a floor and tile, or none (R7). -/
def SlotMap.sensedAt (m : SlotMap) (f : Floor) (t : Tile) : Option Nat := m.next 0 (·.sensedOn f t)

/-- The occupied count (R10). -/
def Table.occupied (t : Table) : Nat := t.slots.length

/-- The sensed index (R7). -/
def Table.sensedAt (t : Table) (f : Floor) (tile : Tile) : Option Nat := t.slots.sensedAt f tile

/-- The planned list from a slot upward (R7). -/
def Table.nextPlanned (t : Table) (f : Floor) (lo : Nat) : Option Nat := t.slots.nextPlanned f lo

/-- The rank of a class (R2). NOGO and DOCK_ZONE have none and never come to be compared. -/
def HazardClass.rank : HazardClass → Nat
  | .cliff => 4
  | .dropSuspect => 3
  | .obstacle => 2
  | .threshold => 1
  | .rug => 1
  | .nogo => 5
  | .dockZone => 5

/-- A protected entry: CLIFF of confidence 8 or more (R5). -/
def Entry.isProtected (e : Entry) : Bool := decide (e.cls = .cliff ∧ 8 ≤ e.confidence)

/-- An eviction candidate for a create of class `c` (R11). -/
def Entry.evictable (e : Entry) (c : HazardClass) : Bool :=
  decide (e.origin = .sensed ∧ e.cls.rank ≤ c.rank) && !e.pinned && !e.isProtected

/-- Whether a change of an entry advances the map generation (R13). -/
def Entry.counts (old new : Entry) : Bool :=
  decide (old.cls ≠ new.cls ∨ old.pinned ≠ new.pinned ∨ old.rug ≠ new.rug)

/-- Advances the map generation and sets MAP_CHANGED (R13). -/
def Hub.advance (n : Nat) (h : Hub) : Hub :=
  Hub.setPlan .mapChanged { h with table.generation := wrap16 h.table.generation n }

/-- Puts a new entry into a free slot (R10, R13). -/
def Hub.createIn (slot : Nat) (e : Entry) (h : Hub) : Hub :=
  Hub.advance 1 { h with table.slots := h.table.slots.put slot e }

/-- Removes the entry of an occupied slot (R10, R13). -/
def Hub.removeSlot (slot : Nat) (h : Hub) : Hub :=
  Hub.advance 1 { h with table.slots := h.table.slots.remove slot }

/-- Replaces the entry of a slot by a changed one (R13). -/
def Hub.changeSlot (slot : Nat) (old new : Entry) (h : Hub) : Hub :=
  let h := { h with table.slots := h.table.slots.put slot new }
  if old.counts new then h.advance 1 else h

/-- A SENSED entry made by evidence, unpinned and stamped now (R1, R9). -/
def Hub.sensedEntry (h : Hub) (f : Floor) (t : Tile) (cls : HazardClass) (confidence : Nat) : Entry where
  floor := f
  cls := cls
  origin := .sensed
  x0 := t.x
  y0 := t.y
  width := 1
  height := 1
  confidence := confidence
  pinned := false
  rug := none
  zone := none
  stamp := h.time.secs

/-! ## The arbiter (R14, R15) -/

/-- The floor of motion. -/
abbrev Hub.floor (h : Hub) : Floor := h.odo.floor

/-- The claim a lookup makes next, if any (R16; log 42): the SENSED entry of its tile first, and for the centre then each
PLANNED entry of the floor, in slot order. -/
def Hub.lookupClaim (h : Hub) (l : Lookup) : Option SweepClaim :=
  match l.reading with
  | some r => some (.planned r.slot)
  | none =>
    match h.table.sensedAt h.floor l.tile with
    | some slot => some (.sensed slot)
    | none => if l.what = .centre then (h.table.nextPlanned h.floor 0).map .planned else none

/-- Whether a lookup has a slot to read. -/
def Hub.lookupReads (h : Hub) (l : Lookup) : Bool := (h.lookupClaim l).isSome

/-- The lookup whose claim waits at the arbiter: the earliest started that has a slot to read (R83). -/
def Hub.claimingLookup (h : Hub) : Option Lookup := h.odo.lookups.find? h.lookupReads

/-- Whether the Map Store has a claim waiting. -/
def Store.claims (s : Store) : Bool :=
  match s.phase with
  | .save op => match op.step with
    | .reading _ => true
    | _ => false
  | .load op => match op.step with
    | .removeRead _ => true
    | .removeWrite _ => true
    | .insert _ _ => true
    | _ => false
  | .idle => false

/-- Whether a Plan table request is in service, and so has a claim waiting. -/
def PlanSlot.claims : PlanSlot → Bool
  | .inService _ => true
  | _ => false

/-- Who of the second place is granted when both wait (R15). -/
def Table.secondTurn (t : Table) : SecondPlace :=
  if t.metBefore && decide (t.lastSecond = some .updater) then .odometry else .updater

/-- Whether a claimant has a claim to make. -/
def Hub.hasClaim (h : Hub) : Claimant → Bool
  | .check => (h.permit.check.bind (·.sweep.claim)).isSome
  | .recheck => (h.permit.recheck.bind (·.claim)).isSome
  | .updater => h.updater.work.isSome
  | .odometry => h.claimingLookup.isSome
  | .plan => h.plan.slot.claims
  | .store => h.store.claims

/-- The unit that makes a claimant's claims: a check and a recheck are both the Permit Controller's, which has one
claim waiting at a time (R100); it goes by the name of the check. -/
def Claimant.unit : Claimant → Claimant
  | .recheck => .check
  | c => c

/-- The claimant the arbiter grants among those that wait (R15, R100). -/
def Hub.choice (h : Hub) (waits : Claimant → Bool) : Option Claimant :=
  if waits .check && waits .recheck then
    some (match h.permit.recheckTurn with | .check => .check | .recheck => .recheck)
  else if waits .recheck then some .recheck
  else if waits .check then some .check
  else if waits .updater && waits .odometry then
    some (match h.table.secondTurn with | .updater => .updater | .odometry => .odometry)
  else if waits .updater then some .updater
  else if waits .odometry then some .odometry
  else if waits .plan then some .plan
  else if waits .store then some .store
  else none

/-- Whether a claimant's claim waits while the unit granted last has not yet made its next claim. -/
def Hub.waitsInGap (h : Hub) (c : Claimant) : Bool := h.hasClaim c && decide (h.table.resting ≠ some c.unit)

/-- Whether the arbiter may grant a claimant next: its choice with every claim waiting (R15), or its choice in the gap
between two claims of the unit granted last (R16). Which of the two comes is the outside's to say, and that at most one
other grant falls into a gap is the model's choice (log 36). -/
def Hub.grants (h : Hub) (who : Claimant) : Bool :=
  decide (h.choice h.hasClaim = some who) || decide (h.choice h.waitsInGap = some who)

/-- Notes a grant at the second place (R15): both have met there when both have a claim to make (log 27). -/
def Hub.noteSecond (who : SecondPlace) (h : Hub) : Hub :=
  { h with
    table.lastSecond := some who
    table.metBefore := h.table.metBefore || (h.updater.work.isSome && h.claimingLookup.isSome) }

/-- Whether the unit of a claimant has a claim to make. -/
def Hub.unitHasClaim (h : Hub) : Claimant → Bool
  | .check => h.hasClaim .check || h.hasClaim .recheck
  | .recheck => h.hasClaim .check || h.hasClaim .recheck
  | c => h.hasClaim c

/-- Notes a grant once its claim has had its effect: a unit with a further claim to make rests before it (R16;
log 36). -/
def Hub.afterGrant (who : Claimant) (h : Hub) : Hub :=
  { h with table.resting := if h.unitHasClaim who then some who.unit else none }

/-- The hub after `f` when the arbiter grants `who` the claim the command names, which it waits with; a grant of another
claim does not come (log 1). -/
def Hub.granted (who : Claimant) (waits : Hub → Bool) (f : Hub → Hub) (h : Hub) : Hub :=
  if h.grants who && waits h then (f h).afterGrant who else h

end Sys2Proof.Machine
end

