-- ==== Sys2Proof/Machine/Guidance.lean ====
section
/-!
DEFINITION. Where the robot is told to go: the dock record's use, the fresh sightings, the guidance item, and the
frames sent to the drive controller with it (R90, R129, R130, R142, R152, R154, R190).
-/

namespace Sys2Proof.Machine

/-- Whether the pose may be trusted. -/
def Hub.tracking (h : Hub) : Bool := decide (h.odo.pose = .tracking)

/-- The pose held. -/
def Hub.pose (h : Hub) : Pose := ⟨h.odo.x, h.odo.y, h.odo.heading⟩

/-- A point's distance from the robot centre is at most `mm` millimetres. -/
def Hub.within (h : Hub) (p : Point) (mm : Nat) : Bool :=
  decide (h.pose.distSq p ≤ ((1000 * mm : Nat) : Int) ^ 2)

/-- Whether the dock record is usable: valid and on the active floor (R142). -/
def Hub.dockUsable (h : Hub) : Bool := h.dock.record.valid && decide (h.dock.record.floor = h.floor)

/-- The approach point: 400 mm in front of the dock pose, in whole millimetres (R142). -/
def DockRecord.approach (d : DockRecord) : Point :=
  let u := headingUnit d.heading
  mmPoint (roundDiv (d.x * fixOne + 400 * u.cos) fixOne) (roundDiv (d.y * fixOne + 400 * u.sin) fixOne)

/-- The field code of an eye's fresh sighting (R157). -/
def Eye.freshField (e : Eye) : Option FieldCode := if e.fresh.isSome then e.sighting.map (·.field) else none

/-- Whether a fresh sighting is held on either eye. -/
def Hub.freshSighting (h : Hub) : Bool := h.beacon.left.freshField.isSome || h.beacon.right.freshField.isSome

/-- Whether a fresh sighting of a field is held on either eye. -/
def Hub.freshOf (h : Hub) (f : FieldCode) : Bool :=
  decide (h.beacon.left.freshField = some f ∨ h.beacon.right.freshField = some f)

/-- No guidance (R129). -/
def Guidance.none : Guidance := ⟨.none, 0, 0, .none, false⟩

/-- The bearing and distance of a point from the pose held (R129). -/
def Hub.aim (h : Hub) (p : Point) : Int × Nat :=
  let dx := p.x - h.odo.x
  let dy := p.y - h.odo.y
  if dx = 0 ∧ dy = 0 then (0, 0)
  else
    let turn := (directionUnits dx dy + 65536 - h.odo.heading % 65536) % 65536
    let d := natSqrt (4 * (dx ^ 2 + dy ^ 2).toNat)
    (signed16 turn, min ((d + 1000) / 2000) 65535)

/-- The steer hint by bearing (R130). -/
def hintOf (bearing : Int) : SteerHint :=
  if 1024 < bearing then .turnLeft else if bearing < -1024 then .turnRight else .ahead

/-- The guidance to a point, near within `near` mm. -/
def Hub.guideTo (h : Hub) (kind : TargetKind) (p : Point) (near : Nat) : Guidance :=
  let (bearing, distance) := h.aim p
  ⟨kind, bearing, distance, hintOf bearing, decide (distance ≤ near)⟩

/-- The steer hint from the fresh sightings (R154). -/
def Hub.beaconHint (h : Hub) : SteerHint :=
  let l := h.beacon.left.freshField
  let r := h.beacon.right.freshField
  if l = some .centre ∧ r = some .centre then .ahead
  else if l = some .centre then .turnLeft
  else if r = some .centre then .turnRight
  else
    match h.freshOf .leftFan, h.freshOf .rightFan with
    | true, true => .ahead
    | true, false => .slideRight
    | false, true => .slideLeft
    | false, false => .search

/-- The guidance item of a reply formed now (R130, R152). -/
def Hub.guidance (h : Hub) : Guidance :=
  if !h.tracking then .none
  else
    match h.dock.state with
    | .idle =>
      match h.route.waypoints with
      | [] => .none
      | w :: _ => h.guideTo .waypoint (mmPoint w.x w.y) (2 * w.radius)
    | .trail =>
      match h.trail.crumbs.getLast? with
      | none => .none
      | some c => h.guideTo .crumb (mmPoint c.x c.y) 300
    | .approach => h.guideTo .approach h.dock.record.approach 300
    | .docking =>
      let (bearing, distance) :=
        if h.dockUsable then h.aim (mmPoint h.dock.record.x h.dock.record.y) else (0, 0)
      ⟨.beacon, bearing, distance, h.beaconHint, h.freshOf .halo⟩
    | .docked => .none
    | .failed => .none

/-! ## The transmit side of the Drive link -/

/-- Whether a frame is a PERMIT. -/
def DriveFrame.isPermit : DriveFrame → Bool
  | .permit _ => true
  | .stop _ => false

/-- Whether a frame is a PERMIT whose outcome is REFUSE. -/
def DriveFrame.isRefuse : DriveFrame → Bool
  | .permit r => decide (r.outcome = .refuse)
  | .stop _ => false

/-- The waiting frames with a new one: with four waiting, room is made first (R190). -/
def enqueueFrame (waiting : List DriveFrame) (f : DriveFrame) : List DriveFrame :=
  if waiting.length < 4 then waiting ++ [f]
  else if waiting.any (·.isRefuse) then waiting.eraseP (·.isRefuse) ++ [f]
  else if waiting.any (·.isPermit) then waiting.eraseP (·.isPermit) ++ [f]
  else if f.isPermit then waiting
  else waiting.tail ++ [f]

/-- Forms a frame: it is sent at once, or waits while another is being sent (R190). -/
def Hub.send (f : DriveFrame) (h : Hub) : Hub :=
  match h.drive.sending with
  | none => { h with drive.sending := some f }
  | some _ => { h with drive.waiting := enqueueFrame h.drive.waiting f }

/-- Forms a PERMIT reply that grants nothing, with its reason, and counts it (R90). -/
def Hub.refuse (seq : Byte) (reason : Reason) (brushLift : Bool) (h : Hub) : Hub :=
  Hub.countRefusal reason
    (h.send (.permit
      { seq, outcome := .refuse, reason := some reason, holds := h.permit.holds, speed := 0, turn := 0
        horizon := 0, brushLift, guidance := h.guidance }))

end Sys2Proof.Machine
end

