-- ==== Sys2Proof/Machine/Permit.lean ====
section
/-!
DEFINITION. The Permit Controller's operations: the sweep, the check and its outcome, the recheck, the stop triggers,
the stop sequence and the holds (R86 to R121).
-/

namespace Sys2Proof.Machine

/-- Heavy-load mode: on while the cause set is not empty (R161). -/
def LoadSup.heavy (l : LoadSup) : Bool := l.power || l.rug || l.sag

/-- DRV_INH: asserted while INHIBITED, from cold start until start-up ends, and in the cold-start reset (R111, R167). -/
def Hub.driveInhibit (h : Hub) : Bool :=
  decide (h.permit.state = .inhibited) || !h.permit.startUpEnded || h.inReset

/-- Whether the active permit is a PROBE. -/
def Hub.probing (h : Hub) : Bool := (h.permit.active.map fun p => decide (p.kind = .probe)).getD false

/-! ## What an entry does to a check (R95) -/

/-- The reason for which an entry blocks, if it blocks. -/
def Entry.reason (dockException : Bool) (e : Entry) : Option Reason :=
  match e.cls with
  | .cliff => some .cliffAhead
  | .nogo => some .nogoAhead
  | .dropSuspect => some .dropAhead
  | .obstacle => if 4 ≤ e.confidence then some .obstacleAhead else none
  | .dockZone => if dockException then none else some .dockZone
  | .rug => none
  | .threshold => none

/-- The cap an entry puts on the speed, if any. -/
def Entry.cap (e : Entry) : Option Nat :=
  match e.cls with
  | .obstacle => if 4 ≤ e.confidence then none else some 150
  | .threshold => some 200
  | .rug =>
    match e.rug with
    | some ⟨.high, _, _⟩ => some 250
    | some ⟨.medium, _, _⟩ => some 350
    | _ => none
  | _ => none

/-- The reason of a tile with several blocking entries: the first of them in the order of R95. -/
def firstReason (l : List Reason) : Option Reason :=
  [Reason.cliffAhead, .nogoAhead, .dropAhead, .obstacleAhead, .dockZone].find? (l.contains ·)

/-- Whether a tile is an unapproached contact tile, which never blocks (R94). -/
def FootTile.passive (f : FootTile) : Bool := f.contact && !f.approached

/-- The reasons of a tile's blocking entries that meet a test; off the world blocks as a NOGO (R94). -/
def Seen.reasons (s : Seen) (dockException : Bool) (test : Entry → Bool) : List Reason :=
  (if s.foot.offWorld then [.nogoAhead] else []) ++ (s.view.filter test).filterMap (·.reason dockException)

/-- The reason for which a tile blocks, if it blocks, looking only at the entries that meet a test. -/
def Seen.blockedBy (s : Seen) (dockException : Bool) (test : Entry → Bool) : Option Reason :=
  if s.foot.passive then none else firstReason (s.reasons dockException test)

/-- The least of some numbers. -/
def least : List Nat → Option Nat
  | [] => none
  | n :: rest => some ((least rest).elim n (min n))

/-- The least cap of some examined tiles. -/
def capOf (tiles : List Seen) : Option Nat := least (tiles.flatMap fun s => s.view.filterMap (·.cap))

/-- Whether a rug with brush lift lies in some examined tiles. -/
def liftOf (tiles : List Seen) : Bool :=
  tiles.any fun s => s.view.any fun e => (e.rug.map (·.brushLift)).getD false

/-! ## The sweep (R94, R100) -/

/-- A sweep with one more tile examined. -/
def Sweep.see (sw : Sweep) (blocks : Seen → Bool) (s : Seen) : Sweep :=
  { sw with
    seen := sw.seen ++ [s]
    firstBlocking := if sw.firstBlocking.isNone && blocks s then some s else sw.firstBlocking }

/-- The PLANNED entries read that cover a tile. -/
def Sweep.plannedView (sw : Sweep) (f : FootTile) : List Entry :=
  if f.offWorld then [] else sw.planned.filter (·.covers f.tile)

/-- Examines tiles until one has a SENSED entry to read, or the sweep ends (R100). -/
def Hub.examine (h : Hub) (stop : Sweep → FootTile → Bool) (blocks : Seen → Bool) :
    List FootTile → Sweep → Sweep
  | [], sw => { sw with toExamine := [], claim := none }
  | f :: rest, sw =>
    if stop sw f then { sw with toExamine := [], claim := none }
    else
      match if f.offWorld then none else h.table.sensedAt h.floor f.tile with
      | some slot => { sw with toExamine := f :: rest, claim := some (.sensed slot) }
      | none => h.examine stop blocks rest (sw.see blocks ⟨f, sw.plannedView f⟩)

/-- A sweep begins: the planned list of the active floor, then the tiles (R100). -/
def Hub.beginSweep (h : Hub) (stop : Sweep → FootTile → Bool) (blocks : Seen → Bool) (tiles : List FootTile) :
    Sweep :=
  let sw : Sweep := { planned := [], toExamine := tiles, seen := [], firstBlocking := none, claim := none }
  match h.table.nextPlanned h.floor 0 with
  | some slot => { sw with claim := some (.planned slot) }
  | none => h.examine stop blocks tiles sw

/-- A sweep with its waiting claim granted. A slot that no longer holds the entry the claim was made for bears on
nothing (log 9). -/
def Hub.sweepClaim (h : Hub) (stop : Sweep → FootTile → Bool) (blocks : Seen → Bool) (sw : Sweep) : Sweep :=
  match sw.claim, sw.toExamine with
  | some (.planned slot), tiles =>
    let read := ((h.table.slots.entry slot).filter fun e => decide (e.origin = .planned ∧ e.floor = h.floor)).toList
    let sw := { sw with planned := sw.planned ++ read }
    match h.table.nextPlanned h.floor (slot + 1) with
    | some next => { sw with claim := some (.planned next) }
    | none => h.examine stop blocks tiles sw
  | some (.sensed slot), f :: rest =>
    let read := ((h.table.slots.entry slot).filter (·.sensedOn h.floor f.tile)).toList
    h.examine stop blocks rest (sw.see blocks ⟨f, read ++ sw.plannedView f⟩)
  | _, _ => { sw with claim := none }

/-! ## The check (R91 to R98) -/

/-- A speed and turn rate scaled to a lower speed, the turn rate rounded toward zero (R92). -/
def scaled (speed turn : Int) (down : Nat) : Int × Int :=
  (if speed < 0 then -down else down, truncDiv (turn * down) speed.natAbs)

/-- The ceiling of a check that starts now (R92). -/
def Hub.ceiling (h : Hub) (speed : Int) : Nat :=
  let c := h.limits.planCeiling
  let c := if h.load.heavy then min c 300 else c
  let c := if h.queue.backlog then min c 200 else c
  let c := h.route.waypoints.head?.elim c fun w => min c w.cap
  if speed < 0 then min c 100 else c

/-- What a check latches now (R91). -/
def Hub.latch (h : Hub) (ask : AskFrame) : Latch where
  x := h.odo.x
  y := h.odo.y
  heading := h.odo.heading
  ceiling := h.ceiling ask.speedMm
  radius := h.limits.radius
  margin := h.limits.margin
  decel := h.limits.decel
  probe := h.limits.probe
  route := h.route.waypoints.head?.map fun w => (w.probeAllowed, w.tag)
  sighting := ask.dockingIntent && h.freshSighting

/-- The asked speed and turn rate limited to the ceiling (R92). -/
def limited (ceiling : Nat) (speed turn : Int) : Int × Int :=
  if ceiling < speed.natAbs then scaled speed turn ceiling else (speed, turn)

/-- The numerator of a length over the deceleration `a`: travel in the horizon, stopping distance and margin, in
micrometres (R93). -/
def lengthNum (speed horizon margin a : Nat) : Nat := (speed * horizon + 1000 * margin) * a + 500 * speed ^ 2

/-- The path of a check (R93). -/
def Check.path (c : Check) : Path where
  x := c.latch.x
  y := c.latch.y
  heading := c.latch.heading
  speed := c.speed
  turn := c.turn
  lenNum := lengthNum c.speed.natAbs c.ask.horizonMs c.latch.margin c.latch.decel
  lenDen := c.latch.decel

/-- Whether DOCK_ZONE entries have no effect on a check (R95). -/
def Check.dockException (c : Check) : Bool := c.ask.dockingIntent && c.latch.sighting

/-- Why an examined tile blocks a check. -/
def Check.blocked (c : Check) (s : Seen) : Option Reason := s.blockedBy c.dockException fun _ => true

/-- The examined tiles whose caps apply: those met before the first blocking tile, or all (R95). -/
def Check.capped (sw : Sweep) : List Seen :=
  match sw.firstBlocking with
  | none => sw.seen
  | some b => sw.seen.filter fun s => decide (s.foot.dist < b.foot.dist)

/-- Whether probing is permitted at a tile (R96). -/
def Check.probeAllowed (c : Check) (s : Seen) : Bool :=
  c.latch.probe
  || match c.latch.route with
    | some (true, tag) =>
      decide (64 ≤ tag) || s.view.any fun e => decide (e.origin = .planned ∧ e.zone = some tag)
    | _ => false

/-- What a probe of R98 may do: its speed, turn rate, horizon, and the length of its path over the deceleration. -/
structure Probe where
  speed : Nat
  turn : Int
  horizon : Nat
  lenNum : Nat
  deriving DecidableEq, Repr

/-- The probe in which a check with a first blocking tile may end, if it may (R96, R98). `running` tells whether the
active permit is a PROBE: it goes on across a tile whose DROP_SUSPECT has become an unprotected CLIFF (R60; log 41). -/
def Check.probe (c : Check) (running : Bool) (sw : Sweep) : Option Probe :=
  match sw.firstBlocking with
  | none => none
  | some b =>
    let passes (e : Entry) : Bool :=
      decide (e.cls = .dropSuspect) || (running && decide (e.cls = .cliff) && !e.isProtected)
    if c.ask.probeIntent && decide (0 < c.speed) && c.probeAllowed b
      && b.view.any passes && (b.reasons c.dockException fun e => !passes e).isEmpty then
      let v := min (min 60 c.speed.toNat) ((capOf (Check.capped sw)).getD 60)
      let horizon := min c.ask.horizonMs (30000 / v)
      some ⟨v, (scaled c.speed c.turn v).2, horizon, lengthNum v horizon c.latch.margin c.latch.decel⟩
    else none

/-- Whether a tile lies in the footprint of a probe (R98). -/
def Probe.reaches (p : Probe) (decel : Nat) (f : FootTile) : Bool := decide (f.dist * decel ≤ p.lenNum * distUnit)

/-- Whether a check reads no further: a tile blocks and no probe reaches the next tile (R100). -/
def Check.stops (c : Check) (running : Bool) (sw : Sweep) (f : FootTile) : Bool :=
  sw.firstBlocking.isSome && (c.probe running sw).elim true fun p => !p.reaches c.latch.decel f

/-- The answer a completed check gives (R95 to R98). -/
structure Verdict where
  outcome : PermitOutcome
  reason : Option Reason
  speed : Int
  turn : Int
  horizon : Nat
  brushLift : Bool
  deriving DecidableEq, Repr

/-- A refusal. -/
def Verdict.refuse (r : Reason) (brushLift : Bool) : Verdict := ⟨.refuse, some r, 0, 0, 0, brushLift⟩

/-- The largest whole speed up to `v` from which the robot, driving for the horizon, stops within `room` of the
first-contact distance's unit (R97). -/
def largestSpeed (horizon decel : Nat) (room : Int) : Nat → Nat
  | 0 => 0
  | v + 1 =>
    if ((v + 1) * horizon * decel + 500 * (v + 1) ^ 2) * distUnit ≤ room * decel then v + 1
    else largestSpeed horizon decel room v

/-- The outcome of a check that ends in no probe (R97). -/
def Check.normalVerdict (c : Check) : Verdict :=
  let capped := Check.capped c.sweep
  let lift := liftOf capped
  let v := c.speed.natAbs
  let top := min v ((capOf capped).getD v)
  match c.sweep.firstBlocking with
  | none =>
    if top = v then
      let same := decide (c.speed = c.ask.speedMm ∧ c.turn = c.ask.turnDeg)
      ⟨if same then .grant else .clip, none, c.speed, c.turn, c.ask.horizonMs, lift⟩
    else
      let (speed, turn) := scaled c.speed c.turn top
      ⟨.clip, none, speed, turn, c.ask.horizonMs, lift⟩
  | some b =>
    let reason := (c.blocked b).getD .cliffAhead
    if b.foot.dist < 10000 * distUnit then .refuse reason lift
    else
      let room : Int := b.foot.dist - (1000 * c.latch.margin * distUnit : Nat)
      let best := largestSpeed c.ask.horizonMs c.latch.decel room top
      if best < 10 then .refuse reason lift
      else
        let (speed, turn) := scaled c.speed c.turn best
        ⟨.clip, none, speed, turn, c.ask.horizonMs, lift⟩

/-- The outcome of a check that ends in a probe (R98). -/
def Check.probeVerdict (c : Check) (p : Probe) : Verdict :=
  let tiles := c.sweep.seen.filter fun s => p.reaches c.latch.decel s.foot
  let passes (e : Entry) : Bool :=
    decide (e.cls = .dropSuspect) || (decide (e.cls = .cliff) && !e.isProtected)
  let lift := liftOf tiles
  match tiles.findSome? fun s => s.blockedBy c.dockException fun e => !passes e with
  | some reason => .refuse reason lift
  | none => ⟨.probe, none, p.speed, p.turn, p.horizon, lift⟩

/-- The outcome of a check whose sweep has ended. -/
def Check.verdict (c : Check) (running : Bool) : Verdict :=
  match c.probe running c.sweep with
  | some p => c.probeVerdict p
  | none => c.normalVerdict

/-! ## Replies and grants -/

/-- The permit record a granting check makes (R87; log 15). -/
def Check.record (c : Check) (v : Verdict) (ms : Nat) : PermitRecord where
  kind := if v.outcome = .probe then .probe else .normal
  speed := v.speed
  turn := v.turn
  expiry := (ms + v.horizon) % 4294967296
  sweptSpeed := c.speed
  sweptTurn := c.turn
  lenNum := c.path.lenNum
  lenDen := c.path.lenDen
  radius := c.latch.radius
  margin := c.latch.margin
  dockException := c.dockException
  travelled := 0

/-- A grant, in the order of R102. -/
def Hub.grant (c : Check) (v : Verdict) (h : Hub) : Hub :=
  let h := h.send (.permit
    { seq := c.ask.seq, outcome := v.outcome, reason := none, holds := h.permit.holds, speed := v.speed
      turn := v.turn, horizon := v.horizon, brushLift := v.brushLift, guidance := h.guidance })
  { h with
    permit.active := some (c.record v h.time.ms)
    permit.expiry := h.timer v.horizon
    permit.state := if v.outcome = .probe then .probing else .moving
    permit.recheck := none
    permit.recheckPending := false }

/-- A check completes with its outcome (R97, R102). -/
def Hub.concludeCheck (c : Check) (h : Hub) : Hub :=
  let v := c.verdict h.probing
  let h := { h with permit.check := none }
  match v.reason with
  | some r => h.refuse c.ask.seq r v.brushLift
  | none => h.grant c v

/-- A check that starts or restarts now, with its first claim or its whole sweep made (R91, R92, R99). -/
def Hub.newCheck (h : Hub) (ask : AskFrame) (restarted : Bool) : Check :=
  let latch := h.latch ask
  let (speed, turn) := limited latch.ceiling ask.speedMm ask.turnDeg
  let c : Check :=
    { ask, latch, speed, turn, stale := false, restarted
      sweep := { planned := [], toExamine := [], seen := [], firstBlocking := none, claim := none } }
  { c with
    sweep := h.beginSweep (c.stops h.probing) (fun s => (c.blocked s).isSome)
      (c.path.footprint latch.radius latch.margin) }

/-- A check in flight with a claim waiting; a check whose sweep has ended restarts once if it is stale, and else
concludes (R99). -/
def Hub.settleCheck (c : Check) (h : Hub) : Hub :=
  if c.sweep.claim.isSome then { h with permit.check := some c }
  else if c.stale then
    let again := h.newCheck c.ask true
    if again.sweep.claim.isSome then { h with permit.check := some again } else h.concludeCheck again
  else h.concludeCheck c

/-- A check starts (R88 test 8). -/
def Hub.startCheck (ask : AskFrame) (h : Hub) : Hub :=
  Hub.settleCheck (h.newCheck ask false) { h with permit.recheckTurn := .recheck }

/-- Abandons a check in flight with a reason (R101). -/
def Hub.abandonCheck (r : Reason) (h : Hub) : Hub :=
  match h.permit.check with
  | none => h
  | some c => { h with permit.check := none }.refuse c.ask.seq r false

/-! ## Stop triggers (R104, R105, R110, R120) -/

/-- Sends a STOP frame (R106). -/
def Hub.sendStop (cause : StopCause) (h : Hub) : Hub :=
  { h.send (.stop cause) with permit.lastStop := some cause }

/-- The permit ends: its record, its expiry timer and its recheck (R104 step 1, R118). -/
def Hub.endPermit (h : Hub) : Hub :=
  { h with permit.active := none, permit.expiry := none, permit.recheck := none, permit.recheckPending := false }

/-- The reason an abandoned check is answered with when a trigger ends the permit or the check (R101). -/
def StopCause.reason : StopCause → Reason
  | .lapsed => .lapsed
  | .hold => .held
  | .poseLost => .noPose
  | .restart => .held
  | .link => .inhibited
  | .cliffSeen => .stopping
  | .wheelDrop => .stopping
  | .bump => .stopping
  | .recheck => .stopping

/-- The stop sequence, in the order of R104. -/
def Hub.stopSequence (cause : StopCause) (h : Hub) : Hub :=
  let h := (h.endPermit.abandonCheck cause.reason).sendStop cause
  let h := h.setPlan .stopIssued
  { h with permit.stopTimer := h.timer 250, permit.state := .stopping }

/-- Entry into INHIBITED (R109). -/
def Hub.inhibit (h : Hub) : Hub := { h with permit.state := .inhibited, permit.driveStopped := false }

/-- Marks a check in flight stale; one that has restarted is abandoned at that moment (R99). -/
def Hub.markStale (h : Hub) : Hub :=
  match h.permit.check with
  | none => h
  | some c => if c.restarted then h.abandonCheck .stale else { h with permit.check := some { c with stale := true } }

/-- The trigger LINK (R110). -/
def Hub.linkTrigger (h : Hub) : Hub :=
  match h.permit.state with
  | .inhibited => h
  | .still => ((h.abandonCheck .inhibited).inhibit.setPlan .inhibited).setPower .inhibited
  | .moving | .probing | .stopping =>
    let h := (h.endPermit.abandonCheck .inhibited).sendStop .link
    let h := { h with permit.stopTimer := none }.setPlan .stopIssued
    (h.inhibit.setPlan .inhibited).setPower .inhibited

/-- The trigger RESTART: the hold set becomes {PLAN}, a check is answered HELD, and a permit or a stop in progress ends
in INHIBITED (R120; log 14). -/
def Hub.restartTrigger (h : Hub) : Hub :=
  let h := { h with permit.holds := { plan := true, power := false, lease := false, route := false } }
  let h := h.endPermit.abandonCheck .held
  match h.permit.state with
  | .moving | .probing | .stopping => { (h.sendStop .restart).inhibit with permit.stopTimer := none }
  | .still | .inhibited => h

/-- A stop trigger reaches the Permit Controller (R104, R105). -/
def Hub.trigger (cause : StopCause) (h : Hub) : Hub :=
  match cause with
  | .link => h.linkTrigger
  | .restart => h.restartTrigger
  | .lapsed | .hold | .poseLost | .cliffSeen | .wheelDrop | .bump | .recheck =>
    match h.permit.state with
    | .moving | .probing => h.stopSequence cause
    | .still =>
      match cause with
      | .hold => h.abandonCheck .held
      | .poseLost => h.abandonCheck .noPose
      | .wheelDrop => h.markStale
      | _ => h
    | .stopping | .inhibited => h

/-! ## Holds (R114, R115) -/

/-- The four holds. -/
inductive Hold where
  | plan
  | power
  | lease
  | route
  deriving DecidableEq, Repr

/-- Whether a hold is in the set. -/
def Holds.has (s : Holds) : Hold → Bool
  | .plan => s.plan
  | .power => s.power
  | .lease => s.lease
  | .route => s.route

/-- The set with a hold in it or not. -/
def Holds.set (s : Holds) (k : Hold) (b : Bool) : Holds :=
  match k with
  | .plan => { s with plan := b }
  | .power => { s with power := b }
  | .lease => { s with lease := b }
  | .route => { s with route := b }

/-- Whether the set is empty. -/
def Holds.empty (s : Holds) : Bool := !(s.plan || s.power || s.lease || s.route)

/-- Places a hold; one already present changes nothing (R115). -/
def Hub.placeHold (k : Hold) (h : Hub) : Hub :=
  if h.permit.holds.has k then h
  else Hub.trigger .hold { h with permit.holds := h.permit.holds.set k true }

/-- Removes a hold. -/
def Hub.removeHold (k : Hold) (h : Hub) : Hub := { h with permit.holds := h.permit.holds.set k false }

/-! ## The recheck (R116 to R118) -/

/-- The path a recheck of a permit sweeps now: from the pose held, the length stored less the distance travelled
(R117). -/
def Hub.remainingPath (h : Hub) (p : PermitRecord) : Path where
  x := h.odo.x
  y := h.odo.y
  heading := h.odo.heading
  speed := p.sweptSpeed
  turn := p.sweptTurn
  lenNum := p.lenNum * 131072 - p.travelled * 1000 * p.lenDen
  lenDen := p.lenDen * 131072

/-- Whether a tile triggers a recheck of a permit (R117). -/
def PermitRecord.triggers (p : PermitRecord) (s : Seen) : Bool :=
  (s.blockedBy p.dockException fun e =>
    decide (p.kind = .normal) || (decide (e.cls ≠ .cliff ∧ e.cls ≠ .dropSuspect))).isSome

/-- A recheck ends at the first tile that triggers (R117). -/
def recheckStops (sw : Sweep) (_ : FootTile) : Bool := sw.firstBlocking.isSome

/-- A recheck that starts now. -/
def Hub.newRecheck (h : Hub) (p : PermitRecord) : Sweep :=
  h.beginSweep recheckStops p.triggers ((h.remainingPath p).footprint p.radius p.margin)

/-- A recheck with its claim waiting, or ended: with the trigger, or with no effect (R117). -/
def Hub.settleRecheck (sw : Sweep) (h : Hub) : Hub :=
  if sw.claim.isSome then { h with permit.recheck := some sw }
  else
    let h := { h with permit.recheck := none }
    if sw.firstBlocking.isSome then h.trigger .recheck else h

/-- Starts a recheck of the active permit. -/
def Hub.startRecheck (h : Hub) : Hub :=
  match h.permit.active with
  | none => h
  | some p => Hub.settleRecheck (h.newRecheck p) { h with permit.recheckTurn := .recheck }

/-- A recheck that has ended gives its place to one pending (R116). -/
def Hub.startPending (h : Hub) : Hub :=
  if h.permit.recheck.isNone && h.permit.recheckPending then
    let turn := h.permit.recheckTurn
    let h := { h with permit.recheckPending := false }.startRecheck
    { h with permit.recheckTurn := turn }
  else h

/-- A recheck is asked for: it starts, or becomes pending, or is already pending (R116). -/
def Hub.recheckAsked (h : Hub) : Hub :=
  match h.permit.state with
  | .moving | .probing =>
    match h.permit.recheck with
    | none => h.startRecheck
    | some _ => { h with permit.recheckPending := true }
  | .still | .stopping | .inhibited => h

/-- A notification reaches the Permit Controller (R17, R99, R116). -/
def Hub.notify (h : Hub) : Hub := h.markStale.recheckAsked

/-- Whether an entry as it now stands blocks a NORMAL permit by the classes of R17. -/
def Entry.alarming (e : Entry) : Bool :=
  decide (e.cls = .cliff ∨ e.cls = .dropSuspect ∨ (e.cls = .obstacle ∧ 4 ≤ e.confidence))

/-- Whether a write of a SENSED entry notifies: a create, a class change or a rise of an alarming entry on the active
floor (R17, R67). -/
def Hub.reports (h : Hub) (old : Option Entry) (new : Entry) : Bool :=
  decide (new.floor = h.floor) && new.alarming
  && old.elim true fun o => decide (o.cls ≠ new.cls ∨ o.confidence < new.confidence)

end Sys2Proof.Machine
end

