-- ==== Sys2Proof/Machine/Evidence.lean ====
section
/-!
DEFINITION. The Load Supervisor's cause set, the Evidence Queue and the Map Updater (R46 to R67, R161 to R165).
-/

namespace Sys2Proof.Machine

/-! ## The cause set (R161) -/

/-- The cause set becomes what it is given; an entry into or exit from heavy-load mode is handed on (R161, R165). -/
def Hub.setCauses (l : LoadSup) (h : Hub) : Hub :=
  if l.heavy = h.load.heavy then { h with load := l }
  else Hub.setPower .heavyLoad (Hub.setPlan .heavyLoad { h with load := l, scanner.pendingAveraged := l.heavy })

/-- The Odometry Unit reports whether the slip pile is HIGH (R163). -/
def Hub.reportRug (high : Bool) (h : Hub) : Hub := h.setCauses { h.load with rug := high }

/-- The Floor Scanner reports a sag block (R164). -/
def Hub.reportSag (h : Hub) : Hub := h.setCauses { h.load with sag := true, sagTimer := h.timer 2000 }

/-! ## The queue -/

/-- The size of a record in bytes (R46). -/
def Record.size (r : Record) : Nat := 8 + 6 * r.items.length

/-- The record count (R49). -/
def EvidenceQueue.count (q : EvidenceQueue) : Nat := q.records.length

/-- The byte count (R49). -/
def EvidenceQueue.bytes (q : EvidenceQueue) : Nat := (q.records.map (·.size)).sum

/-- The backlog condition the counts and thresholds give, from the condition held (R53). -/
def backlogAfter (was : Bool) (count bytes countT byteT : Nat) : Bool :=
  if was then !decide (2 * count < countT ∧ 2 * bytes < 64 * byteT)
  else decide (countT ≤ count ∨ 64 * byteT ≤ bytes)

/-- The backlog test (R53). -/
def Hub.testBacklog (h : Hub) : Hub :=
  let now := backlogAfter h.queue.backlog h.queue.count h.queue.bytes h.limits.countT h.limits.byteT
  if now = h.queue.backlog then h else { h with queue.backlog := now }.setPlan .backlog

/-- Whether the Map Store is in state LOAD. -/
def Hub.loading (h : Hub) : Bool :=
  match h.store.phase with
  | .load _ => true
  | _ => false

/-- The head record leaves the queue (R52). -/
def Hub.dropHead (h : Hub) : Hub := { h with queue.records := h.queue.records.tail }.testBacklog

/-- A record's items begin in turn, each when the one before has completed: the answer is whether the record is still
under way, waiting with a claim, or done with. Before each item the record's floor is compared with the active floor
(R55, R56, R57, R64). -/
def Hub.beginItems (floor : Floor) : List Item → Hub → Hub × Bool
  | [], h => (h, false)
  | item :: rest, h =>
    if floor ≠ h.floor then ({ h with queue.stale := sat16 h.queue.stale }, false)
    else
      let wait (p : ApplyPhase) : Hub × Bool := ({ h with updater.work := some ⟨item :: rest, p⟩ }, true)
      match item with
      | .lowReflect _ _ _ _ | .noReturn _ _ _ _ =>
        match h.table.nextPlanned h.floor 0 with
        | some slot => wait (.plannedRead slot false)
        | none => wait .write
      | .brushLoad pile =>
        let h := { h with updater.pile := pile }
        let centre := if h.tracking then h.pose.centreTile else none
        match centre.bind fun t => (h.table.sensedAt floor t).map fun slot => (slot, t) with
        | some (slot, t) => ({ h with updater.work := some ⟨item :: rest, .brushWrite slot t⟩ }, true)
        | none => Hub.beginItems floor rest h
      | .floorClear _ _ | .wheelDrop _ _ | .bump _ _ | .passOver _ _ | .climb _ => wait .write

/-- The Map Updater takes records from the head on, until one waits with a claim or none is left (R55). The list is
the queue's records as they stand. -/
def Hub.takeRecords : List Record → Hub → Hub
  | [], h => { h with updater.work := none }
  | r :: rest, h =>
    let (h, waiting) := Hub.beginItems r.floor r.items h
    if waiting then h else Hub.takeRecords rest h.dropHead

/-- An idle Map Updater takes the head record when there is one and the Map Store is not in LOAD (R55, R58). -/
def Hub.kickUpdater (h : Hub) : Hub :=
  if h.updater.work.isSome || h.loading then h else h.takeRecords h.queue.records

/-- The item under way has completed: the next item begins, or the record is removed and the next one taken, while the
Map Store is not in LOAD (R55, R58). -/
def Hub.itemDone (h : Hub) : Hub :=
  match h.updater.work, h.queue.records with
  | some w, r :: rest =>
    let (h, waiting) := Hub.beginItems r.floor w.items.tail h
    if waiting then h
    else
      let h := { h with updater.work := none }.dropHead
      if h.loading then h else h.takeRecords rest
  | _, _ => { h with updater.work := none }

/-- A record is offered: the lifting test, the capacity test, the backlog test, and an idle Map Updater takes it
(R49, R50, R51, R55). -/
def Hub.offer (r : Record) (h : Hub) : Hub :=
  if h.odo.pose = .lifted ∧ r.source ≠ .driveLink then h
  else if h.queue.count + 1 ≤ 40 ∧ h.queue.bytes + r.size ≤ 640 then
    ({ h with queue.records := h.queue.records ++ [r] }.testBacklog).kickUpdater
  else { h with queue.lost := sat16 h.queue.lost }.setPlan .evidenceLost

/-- Makes a record now and offers it; no items, no record. -/
def Hub.post (kind : EvidenceKind) (source : Source) (items : List Item) (h : Hub) : Hub :=
  if items.isEmpty then h else h.offer ⟨kind, h.floor, h.time.ms, source, items⟩

/-! ## What an item does to the SENSED entry at its tile (R59 to R65) -/

/-- What an item does. -/
inductive Effect where
  | unchanged
  | create (cls : HazardClass) (confidence : Nat)
  | change (cls : HazardClass) (confidence : Nat) (rug : Option RugAttrs)
  | remove
  | conflict
  deriving DecidableEq, Repr

/-- A confidence raised, limited to 15 (R3). -/
def raised (e : Entry) (n : Nat) : Effect := .change e.cls (min 15 (e.confidence + n)) e.rug

/-- The rug attributes of a SENSED entry: brush lift follows the pile (R1). -/
def RugAttrs.sensed (pile : Pile) (dark : Bool) : RugAttrs := ⟨pile, dark, decide (pile = .high)⟩

/-- The effect of an item on the SENSED entry at its tile, `pile` being the current pile class (R59 to R65). -/
def Item.effect (pile : Pile) : Item → Option Entry → Effect
  | .lowReflect _ _ _ _, none => .create .dropSuspect 4
  | .lowReflect _ _ _ _, some e =>
    match e.cls, e.rug with
    | .cliff, _ => raised e 1
    | .dropSuspect, _ => raised e 3
    | .rug, some r => if r.dark then .unchanged else .change e.cls e.confidence (some { r with dark := true })
    | _, _ => .unchanged
  | .noReturn _ _ _ _, none => .create .cliff 6
  | .noReturn _ _ _ _, some e =>
    match e.cls, e.rug with
    | .cliff, _ => raised e 3
    | .dropSuspect, _ => .change .cliff (max e.confidence 6) none
    | .rug, some r => if r.dark then .unchanged else .change .cliff 6 none
    | .obstacle, _ => .change .cliff 6 none
    | .threshold, _ => .change .cliff 6 none
    | _, _ => .unchanged
  | .floorClear _ _, none => .unchanged
  | .floorClear _ _, some e =>
    if e.pinned || e.isProtected || decide (e.cls = .rug) then .unchanged
    else if e.confidence ≤ 1 then .remove
    else .change e.cls (e.confidence - 1) e.rug
  | .wheelDrop _ _, none => .create .cliff 15
  | .wheelDrop _ _, some _ => .change .cliff 15 none
  | .passOver _ _, none => .unchanged
  | .passOver _ _, some e =>
    match e.cls with
    | .dropSuspect => .change .rug 8 (some (.sensed pile true))
    | .cliff => if e.isProtected then .conflict else .change .rug 8 (some (.sensed pile true))
    | .obstacle => .remove
    | _ => .unchanged
  | .bump _ _, none => .create .obstacle 5
  | .bump _ _, some e =>
    match e.cls with
    | .obstacle => raised e 3
    | .threshold => .change .obstacle 5 none
    | .rug => .change .obstacle 5 none
    | _ => .unchanged
  | .climb _, none => .create .threshold 6
  | .climb _, some e => if e.cls = .threshold then raised e 3 else .unchanged
  | .brushLoad _, none => .unchanged
  | .brushLoad p, some e =>
    match e.cls, e.rug with
    | .rug, some r => .change .rug e.confidence (some (.sensed p r.dark))
    | _, _ => .unchanged

/-- The tile of an item; a BRUSH_LOAD item has none (R47). -/
def Item.tile : Item → Option Tile
  | .lowReflect _ t _ _ => some t
  | .noReturn _ t _ _ => some t
  | .floorClear _ t => some t
  | .wheelDrop _ t => some t
  | .bump _ t => some t
  | .passOver _ t => some t
  | .climb t => some t
  | .brushLoad _ => none

/-- The class an item creates (R66). -/
def Item.creates (i : Item) : HazardClass :=
  match i.effect .low none with
  | .create c _ => c
  | _ => .rug

/-- An entry as a change makes it; one that changes in any way is stamped now (R9, R57). -/
def Entry.changed (e : Entry) (secs : Nat) (cls : HazardClass) (confidence : Nat) (rug : Option RugAttrs) : Entry :=
  let new := { e with cls, confidence, rug }
  if new = e then e else { new with stamp := secs }

/-- The write of an effect other than a create on the entry of a slot, with its notification (R57, R67). -/
def Hub.writeEffect (slot : Nat) (e : Entry) (effect : Effect) (h : Hub) : Hub :=
  match effect with
  | .unchanged => h
  | .create _ _ => h
  | .change cls confidence rug =>
    let new := e.changed h.time.secs cls confidence rug
    let h := h.changeSlot slot e new
    if h.reports (some e) new then h.notify else h
  | .remove => h.removeSlot slot
  | .conflict => { h with updater.conflicts := sat8 h.updater.conflicts }

/-- A create in a slot, with its notification (R10, R67). -/
def Hub.writeCreate (slot : Nat) (e : Entry) (h : Hub) : Hub :=
  let h := h.createIn slot e
  if h.reports none e then h.notify else h

/-- The Map Updater's work takes a phase. -/
def Hub.setPhase (p : ApplyPhase) (h : Hub) : Hub :=
  { h with updater.work := h.updater.work.map fun w => { w with phase := p } }

/-- The victim search runs from slot 0 (R11, R12); with no occupied slot the create is dropped. -/
def Hub.beginSearch (h : Hub) : Hub :=
  match h.table.slots.nextOccupied 0 with
  | some slot => h.setPhase (.search slot none)
  | none => (h.setPlan .mapFull).itemDone

/-- The apply write of an item at a tile of the record's floor (R57, R66). -/
def Hub.applyWrite (item : Item) (floor : Floor) (t : Tile) (h : Hub) : Hub :=
  match h.table.sensedAt floor t with
  | some slot =>
    match h.table.slots.entry slot with
    | some e => (h.writeEffect slot e (item.effect h.updater.pile (some e))).itemDone
    | none => h.itemDone
  | none =>
    match item.effect h.updater.pile none with
    | .create cls confidence =>
      match h.table.slots.free with
      | some slot => (h.writeCreate slot (h.sensedEntry floor t cls confidence)).itemDone
      | none => h.beginSearch
    | _ => h.itemDone

/-- The BRUSH_LOAD write: the slot's entry, when it is still the SENSED one of the tile (R64). -/
def Hub.brushWrite (item : Item) (floor : Floor) (slot : Nat) (t : Tile) (h : Hub) : Hub :=
  match (h.table.slots.entry slot).filter (·.sensedOn floor t) with
  | some e => (h.writeEffect slot e (item.effect h.updater.pile (some e))).itemDone
  | none => h.itemDone

/-- A grant of the apply write or the BRUSH_LOAD write (R57, R64). -/
def Hub.applyGrant (h : Hub) : Hub :=
  match h.updater.work, h.queue.records with
  | some ⟨item :: _, phase⟩, r :: _ =>
    match phase, item.tile with
    | .write, some t => (h.noteSecond .updater).applyWrite item r.floor t
    | .brushWrite slot t, _ => (h.noteSecond .updater).brushWrite item r.floor slot t
    | _, _ => h
  | _, _ => h

/-- A grant of a planned read of the dark-rug screen (R57; log 9). -/
def Hub.plannedGrant (h : Hub) : Hub :=
  match h.updater.work, h.queue.records with
  | some ⟨item :: _, .plannedRead slot covered⟩, r :: _ =>
    let h := h.noteSecond .updater
    let dark (e : Entry) : Bool :=
      decide (e.origin = .planned ∧ e.floor = r.floor ∧ e.cls = .rug) && (e.rug.map (·.dark)).getD false
      && item.tile.elim false e.covers
    let covered := covered || (h.table.slots.entry slot).elim false dark
    match h.table.nextPlanned r.floor (slot + 1) with
    | some next => h.setPhase (.plannedRead next covered)
    | none => if covered then h.itemDone else h.setPhase .write
  | _, _ => h

/-- The better victim: the lower confidence, then the older stamp, then the slot read first (R11). -/
def Victim.better (best : Option Victim) (v : Victim) : Victim :=
  match best with
  | none => v
  | some b => if v.confidence < b.confidence ∨ (v.confidence = b.confidence ∧ v.stamp < b.stamp) then v else b

/-- A grant of a read of the victim search (R11, R12; log 42). -/
def Hub.searchGrant (h : Hub) : Hub :=
  match h.updater.work with
  | some ⟨item :: _, .search slot best⟩ =>
    let h := h.noteSecond .updater
    let best :=
      match (h.table.slots.entry slot).filter (·.evictable item.creates) with
      | some e => some (Victim.better best ⟨slot, e.confidence, e.stamp⟩)
      | none => best
    match h.table.slots.nextOccupied (slot + 1), best with
    | some next, _ => h.setPhase (.search next best)
    | none, some v => h.setPhase (.evict v.slot)
    | none, none => (h.setPlan .mapFull).itemDone
  | _ => h

/-- The eviction itself: the victim removed and the new entry created in its slot, in one write (R12). -/
def Hub.replaceVictim (victim : Nat) (e : Entry) (h : Hub) : Hub :=
  let h := { h with table.slots := h.table.slots.put victim e, table.evictions := sat16 h.table.evictions }
  let h := h.advance 2
  if h.reports none e then h.notify else h

/-- A grant of the eviction write (R12, R66). The victim is the slot chosen, whatever SENSED entry it now holds (log
43). -/
def Hub.evictGrant (h : Hub) : Hub :=
  match h.updater.work, h.queue.records with
  | some ⟨item :: _, .evict victim⟩, r :: _ =>
    let h := h.noteSecond .updater
    match item.tile, item.effect h.updater.pile none with
    | some t, .create cls confidence =>
      if (h.table.sensedAt r.floor t).isSome || h.table.slots.free.isSome then h.applyWrite item r.floor t
      else if (h.table.slots.entry victim).elim false (·.evictable cls) then
        (h.replaceVictim victim (h.sensedEntry r.floor t cls confidence)).itemDone
      else h.beginSearch
    | _, _ => h.itemDone
  | _, _ => h

end Sys2Proof.Machine
end

