-- ==== Sys2Proof/Machine/Return.lean ====
section
/-!
DEFINITION. The Trail Unit, the Dock Tracker and the Route Queue's flush and arrival (R122 to R153).
-/

namespace Sys2Proof.Machine

/-! ## The trail -/

/-- The position of a crumb. -/
def Crumb.point (c : Crumb) : Point := mmPoint c.x c.y

/-- Thinning: the crumbs without every second of the first 64, the first of all kept (R138). -/
def thinned (l : List Crumb) : List Crumb :=
  ((l.take 64).zipIdx.filter fun p => p.2 % 2 = 0).map (·.1) ++ l.drop 64

/-- Pushes a crumb at the pose held, thinning a full trail first (R136, R137, R138). -/
def Hub.pushCrumb (h : Hub) : Hub :=
  let crumbs := if 128 ≤ h.trail.crumbs.length then thinned h.trail.crumbs else h.trail.crumbs
  let c : Crumb := ⟨worldMm h.odo.x, worldMm h.odo.y, h.odo.heading, h.floor, h.trail.pushCounter⟩
  { h with trail := { crumbs := crumbs ++ [c], pushCounter := wrap16 h.trail.pushCounter 1 } }

/-- The push test (R137): in TRACKING and IDLE, on an empty trail or 400 mm or more from the newest crumb. -/
def Hub.pushTest (h : Hub) : Hub :=
  if h.tracking && decide (h.dock.state = .idle) then
    match h.trail.crumbs.getLast? with
    | none => h.pushCrumb
    | some c => if (400000 : Int) ^ 2 ≤ h.pose.distSq c.point then h.pushCrumb else h
  else h

/-- Whether a crumb lies within 150 mm of the robot centre. -/
def Hub.nearCrumb (h : Hub) (c : Crumb) : Bool := h.within c.point 150

/-- The trail up to the oldest near crumb that is not among the four newest, none when there is no such crumb
(R139). -/
def Hub.prunedTrail (h : Hub) : Option (List Crumb) :=
  (h.trail.crumbs.dropLast.dropLast.dropLast.dropLast.findIdx? h.nearCrumb).map fun i =>
    h.trail.crumbs.take (i + 1)

/-- The Trail Unit at a pose update: pruning, or else the push test (R137, R139). -/
def Hub.trailUpdate (h : Hub) : Hub :=
  if h.tracking && decide (h.dock.state = .idle) then
    match h.prunedTrail with
    | some crumbs => { h with trail.crumbs := crumbs }
    | none => h.pushTest
  else h

/-- The trail emptied, the push counter kept (R140). -/
def Hub.emptyTrail (h : Hub) : Hub := { h with trail.crumbs := [] }

/-! ## The return state -/

/-- The docking timer as R147 has it on entry into DOCKING and while no sighting is fresh. -/
def Hub.dockingTimer (h : Hub) : Hub :=
  { h with dock.timer := if h.freshSighting then none else h.timer 10000 }

/-- The return state becomes what it is given; a change sets RETURN_CHANGED on both ports, and the docking timer runs
in DOCKING alone (R143, R147). -/
def Hub.setReturn (st : ReturnState) (h : Hub) : Hub :=
  if st = h.dock.state then h
  else
    let h := Hub.setPower .returnChanged (Hub.setPlan .returnChanged { h with dock.state := st, dock.timer := none })
    if st = .docking then h.dockingTimer else h

/-- The tests of APPROACH: an unusable record, a reached approach point or a fresh CENTRE makes it DOCKING (R146). -/
def Hub.approachTests (h : Hub) : Hub :=
  if h.dock.state = .approach
    ∧ (h.dockUsable = false ∨ (h.tracking = true ∧ h.within h.dock.record.approach 150 = true)
      ∨ h.freshOf .centre = true) then h.setReturn .docking
  else h

/-- The state after the trail has become empty in TRAIL (R145). -/
def Hub.trailDone (h : Hub) : Hub :=
  if h.dockUsable then (h.setReturn .approach).approachTests else h.setReturn .docking

/-- The Dock Tracker at a pose update in TRACKING (R145, R146). -/
def Hub.dockUpdate (h : Hub) : Hub :=
  match h.dock.state with
  | .trail =>
    let kept := (h.trail.crumbs.reverse.dropWhile h.nearCrumb).reverse
    let h := { h with trail.crumbs := kept }
    if kept.isEmpty then h.trailDone else h
  | .approach => h.approachTests
  | .idle | .docking | .docked | .failed => h

/-- The Dock Tracker at a change of the active floor, the trail being empty (R151). -/
def Hub.dockFloorChange (h : Hub) : Hub :=
  match h.dock.state with
  | .trail => h.trailDone
  | .approach => h.approachTests
  | .idle | .docking | .docked | .failed => h

/-- The dock record written; a return in APPROACH judges it at once (R142, R146). -/
def Hub.writeDock (d : DockRecord) (h : Hub) : Hub := { h with dock.record := d }.approachTests

/-- A flush of the route (R125). -/
def Hub.flushRoute (h : Hub) : Hub := { h with route.waypoints := [] }.setPlan .routeEmpty

/-- The answer to a return start (R144). -/
def Hub.returnStatus (h : Hub) : Status :=
  match h.dock.state with
  | .docked => .atDock
  | .trail | .approach | .docking => .done
  | .idle | .failed =>
    if !h.tracking then .noPose
    else if h.dock.record.valid && decide (h.dock.record.floor ≠ h.floor) then .wrongFloor
    else if !h.dock.record.valid && h.trail.crumbs.isEmpty then .noDock
    else .done

/-- A return start is offered: an accepted one begins the return (R144). -/
def Hub.returnStart (h : Hub) : Hub :=
  if h.returnStatus = .done ∧ (h.dock.state = .idle ∨ h.dock.state = .failed) then
    let h := { h.flushRoute with dock.fallbacks := 0 }
    if h.trail.crumbs.isEmpty then (h.setReturn .approach).approachTests else h.setReturn .trail
  else h

/-- A new sighting reaches the Dock Tracker (R146, R147). -/
def Hub.sightingTaken (h : Hub) : Hub :=
  match h.dock.state with
  | .approach => h.approachTests
  | .docking => { h with dock.timer := none }
  | .idle | .trail | .docked | .failed => h

/-- A sighting's freshness has ended (R147). -/
def Hub.freshnessEnded (h : Hub) : Hub :=
  if h.dock.state = .docking ∧ h.freshSighting = false then h.dockingTimer else h

/-- The docking timer has expired, in DOCKING alone (R148). -/
def Hub.dockingExpired (h : Hub) : Hub :=
  let n := min (h.dock.fallbacks + 1) 3
  let h := { h with dock.timer := none }
  if h.dock.state ≠ .docking then h
  else
    let h := { h with dock.fallbacks := n }
    if n = 3 then h.setReturn .failed
    else if h.dockUsable then (h.setReturn .approach).approachTests
    else { h with dock.timer := h.timer 10000 }

/-! ## The route -/

/-- The head of the route is removed at an arrival (R127). -/
def Hub.advanceRoute (rest : List Waypoint) (h : Hub) : Hub :=
  { h with route.waypoints := rest, route.advances := wrap16 h.route.advances 1 }.setPlan .routeAdvanced

/-- ROUTE_EMPTY is set when an arrival has emptied the queue (R127). -/
def Hub.noteRouteEmpty (rest : List Waypoint) (h : Hub) : Hub := if rest.isEmpty then h.setPlan .routeEmpty else h

/-- The arrival test, head after head, until one is not reached or had STOP_AT (R127, R128). -/
def Hub.arrive : List Waypoint → Hub → Hub
  | [], h => h
  | w :: rest, h =>
    if h.within (mmPoint w.x w.y) w.radius then
      let h := h.advanceRoute rest
      if w.stopAt then Hub.noteRouteEmpty rest (h.placeHold .route)
      else Hub.arrive rest (h.noteRouteEmpty rest)
    else h

end Sys2Proof.Machine
end

