-- ==== Sys2Proof/Machine/Travel.lean ====
section
/-!
DEFINITION. The Odometry Unit's operations: ticks, pose updates and what follows them, pose loss, the change of the
active floor, lookups and wheel tracking (R70 to R85).
-/

namespace Sys2Proof.Machine

/-- The slip factor in 1/256 (R75). -/
def slipFactor : Option Pile → Nat
  | none => 256
  | some .low => 248
  | some .medium => 236
  | some .high => 224

/-- One side's track. -/
def Odometry.wheel (o : Odometry) : Side → WheelTrack
  | .left => o.left
  | .right => o.right

/-- The unit with one side's track. -/
def Odometry.setWheel (o : Odometry) (side : Side) (w : WheelTrack) : Odometry :=
  match side with
  | .left => { o with left := w }
  | .right => { o with right := w }

/-- Whether a wheel's wheel-drop line is asserted (R37). -/
def Hub.dropped (h : Hub) : Side → Bool
  | .left => h.lines.asserted.wdpL
  | .right => h.lines.asserted.wdpR

/-- The lookups with the results of those that meet a test to be discarded. -/
def discarding (test : LookupFor → Bool) (l : List Lookup) : List Lookup :=
  l.map fun k => if test k.what then { k with discard := true } else k

/-- Whether a lookup is a pass-over lookup. -/
def LookupFor.isWheel : LookupFor → Bool
  | .wheel _ => true
  | .centre => false

/-- Cancels both wheels' noted tiles and pass-over lookups (R84). -/
def Hub.cancelPassOver (h : Hub) : Hub :=
  { h with
    odo.left.noted := none
    odo.right.noted := none
    odo.lookups := discarding (·.isWheel) h.odo.lookups }

/-- Contact tracking restarts: each contact tile is taken as none (R84). -/
def Hub.restartTracking (h : Hub) : Hub :=
  { h.cancelPassOver with odo.left.contact := none, odo.right.contact := none }

/-- Starts a centre-tile lookup for the pose held; one that runs is not stopped, its result is discarded and another
follows it (R75; after a SET_FLOOR, which is no pose update, this is log 44). -/
def Hub.startCentreLookup (h : Hub) : Hub :=
  match h.pose.centreTile with
  | none => h
  | some t =>
    if h.odo.lookups.any fun l => decide (l.what = .centre) then
      { h with odo.lookups := discarding (fun w => decide (w = LookupFor.centre)) h.odo.lookups, odo.centreAgain := true }
    else { h with odo.lookups := h.odo.lookups ++ [⟨.centre, t, false, none⟩] }

/-- A wheel's contact tile at a pose update, with the PASS_OVER item it makes (R83, R84). A lookup of the wheel that
still waits behind an earlier one stays in the list too: it makes its claim, and its result is discarded (log 35). -/
def Hub.trackWheel (side : Side) (h : Hub) : Hub × List Item :=
  let w := h.odo.wheel side
  let t := h.pose.contactTile h.sensors.wheelBase side
  if t = w.contact then (h, [])
  else
    let old := discarding (fun k => decide (k = .wheel side)) h.odo.lookups
    let lookups :=
      match t with
      | some tile => if h.dropped side then old else old ++ [⟨.wheel side, tile, false, none⟩]
      | none => old
    ({ h with odo := { (h.odo.setWheel side ⟨t, none⟩) with lookups } },
     w.noted.elim [] fun n => [.passOver side n])

/-- Both wheels at a pose update, their items in one record, the left item first (R84). -/
def Hub.trackWheels (h : Hub) : Hub :=
  let (h, left) := h.trackWheel .left
  let (h, right) := h.trackWheel .right
  h.post .passOver .odometryUnit (left ++ right)

/-- What follows a pose update in TRACKING (R70; the order is log 13). -/
def Hub.poseUpdated (h : Hub) : Hub :=
  let h := Hub.arrive h.route.waypoints h
  h.trailUpdate.dockUpdate.startCentreLookup.trackWheels

/-- What every entry into LOST or LIFTED does beside its flags (R32, R76, R77, R84). -/
def Hub.poseEntry (st : PoseState) (h : Hub) : Hub :=
  let h := Hub.restartTracking { h with odo.pose := st, scanner.block.posting := false }
  let h :=
    { h with
      odo.lookups := discarding (fun w => decide (w = LookupFor.centre)) h.odo.lookups
      odo.centreAgain := false
      odo.slip := none }
  (h.trigger .poseLost).reportRug false

/-- Entry into LOST (R77). -/
def Hub.enterLost (cause : LossCause) (h : Hub) : Hub := (h.poseEntry (.lost cause)).setPlan .poseLost

/-- Entry into LIFTED (R41, R77). -/
def Hub.enterLifted (h : Hub) : Hub := ((h.poseEntry .lifted).setPlan .lifted).setPower .lifted

/-- A number limited to a signed 32-bit accumulator (R74). -/
def limit32 (v : Int) : Int := max (-2147483648) (min 2147483647 v)

/-- The pose after the ticks of one ASK (R73, R74; log 5). -/
def Hub.movedPose (h : Hub) (left right : Int) : Pose :=
  let factor : Int := h.sensors.tickLength * slipFactor h.odo.slip
  let turn := (right - left) * factor
  let travel := (left + right) * factor * 1000
  let mid := (headingUnit h.odo.heading).add (ratioUnit turn (131072 * h.sensors.wheelBase))
  { x := limit32 (h.odo.x + roundDiv (travel * mid.cos) (131072 * fixOne))
    y := limit32 (h.odo.y + roundDiv (travel * mid.sin) (131072 * fixOne))
    heading :=
      ((h.odo.heading + roundDiv (turn * fixOne) (h.sensors.wheelBase * fixTurn)) % 65536).toNat }

/-- The travel of one ASK's ticks in 1/131072 mm, without its sign (R73, R87). -/
def Hub.ticksTravel (h : Hub) (left right : Int) : Nat :=
  ((left + right) * h.sensors.tickLength * slipFactor h.odo.slip).natAbs

/-- A permit record with further travel added (R87). -/
def PermitRecord.travel (n : Nat) (p : PermitRecord) : PermitRecord := { p with travelled := p.travelled + n }

/-- The pose held becomes what it is given. -/
def Hub.loadPose (p : Pose) (h : Hub) : Hub := { h with odo.x := p.x, odo.y := p.y, odo.heading := p.heading }

/-- Whether a coordinate lies in the valid range (R70). -/
def inRange (um : Int) : Bool := decide (-25599999 ≤ um ∧ um ≤ 25599999)

/-- The ticks of one ASK applied in TRACKING (R73, R74). An update that leaves the valid range enters LOST and is
followed by none of the tests of R70 (log 39). -/
def Hub.applyTicks (left right : Int) (h : Hub) : Hub :=
  let travel := h.ticksTravel left right
  let h := h.loadPose (h.movedPose left right)
  let h := { h with permit.active := h.permit.active.map (PermitRecord.travel travel) }
  if inRange h.odo.x && inRange h.odo.y then h.poseUpdated
  else { h with odo.rangeSet := true }.enterLost .range

/-- The active floor changes (R81, R125, R140, R151). -/
def Hub.changeFloor (f : Floor) (h : Hub) : Hub :=
  if f = h.floor then h
  else
    let h := { h with odo.floor := f }.emptyTrail.pushTest
    h.flushRoute.dockFloorChange

/-- The robot is placed at a pose: TRACKING, the range indication cleared, tracking restarted, the block no longer
posting (R78, R80). -/
def Hub.place (p : Pose) (h : Hub) : Hub :=
  { (h.loadPose p).restartTracking with
    odo.rangeSet := false, odo.pose := .tracking, scanner.block.posting := false }

/-- The DOCKED correction, not made while LIFTED (R80, R99, R116). -/
def Hub.dockedCorrection (h : Hub) : Hub :=
  if h.odo.pose = .lifted then h
  else
    let d := h.dock.record
    (h.place ⟨1000 * d.x, 1000 * d.y, d.heading⟩).markStale.recheckAsked.poseUpdated

/-- A tile view of the active floor (R8). -/
def Hub.tileView (h : Hub) (t : Tile) : List Entry :=
  (h.table.slots.map (·.2)).filter fun e =>
    e.sensedOn h.floor t || (decide (e.origin = .planned ∧ e.floor = h.floor) && e.covers t)

/-- The floor a lookup names: the active floor until its first claim is granted, and that floor from then on (R6). -/
def Hub.lookupFloor (h : Hub) (l : Lookup) : Floor := (l.reading.map (·.floor)).getD h.floor

/-- The higher of two slip piles. -/
def maxPile : Option Pile → Option Pile → Option Pile
  | none, q => q
  | p, none => p
  | some p, some q => some (if p.ctorIdx < q.ctorIdx then q else p)

/-- The pile of the rug a granted claim of a centre-tile lookup reads: the SENSED entry of the tile, or a PLANNED
entry of the floor that covers it. A slot that no longer holds such an entry bears on nothing (R75; log 9). -/
def Hub.pileRead (h : Hub) (f : Floor) (t : Tile) (claim : SweepClaim) : Option Pile :=
  let read : Option Entry :=
    match claim with
    | .sensed slot => (h.table.slots.entry slot).filter (·.sensedOn f t)
    | .planned slot =>
      (h.table.slots.entry slot).filter fun e => decide (e.origin = .planned ∧ e.floor = f) && e.covers t
  read.bind fun e => e.rug.map fun r => r.pile

/-- The highest pile a centre-tile lookup has read once a claim of it is granted (R75). -/
def Hub.pileAfter (h : Hub) (l : Lookup) (claim : SweepClaim) : Option Pile :=
  maxPile (l.reading.bind (·.pile)) (h.pileRead (h.lookupFloor l) l.tile claim)

/-- The PLANNED slot a centre-tile lookup reads after a claim, none when that claim is its last (R16). -/
def Hub.nextRead (h : Hub) (l : Lookup) (claim : SweepClaim) : Option Nat :=
  h.table.nextPlanned (h.lookupFloor l)
    (match claim with
      | .sensed _ => 0
      | .planned slot => slot + 1)

/-- The centre-tile lookup in progress goes on with a further read. -/
def Hub.readOn (r : TileRead) (h : Hub) : Hub :=
  { h with
    odo.lookups := h.odo.lookups.map fun k => if k.what = .centre then { k with reading := some r } else k }

/-- The lookups without the first that meets a test. -/
def Hub.endLookup (what : LookupFor) (h : Hub) : Hub :=
  { h with odo.lookups := h.odo.lookups.eraseP fun l => decide (l.what = what) }

/-- The first lookup of a kind, when it may complete: it has nothing to read, or the arbiter grants its claim (R83;
log 8). -/
def Hub.completing (h : Hub) (what : LookupFor) : Option Lookup :=
  match h.odo.lookups.find? fun l => decide (l.what = what) with
  | none => none
  | some l =>
    if !h.lookupReads l then some l
    else if h.grants .odometry ∧ h.claimingLookup = some l then some l
    else none

/-- The hub after `f` of a lookup's grant, the grant noted at the second place before and as the last one after. -/
def Hub.lookupGranted (f : Hub → Hub) (h : Hub) : Hub := (f (h.noteSecond .odometry)).afterGrant .odometry

/-- A centre-tile lookup ends with the highest pile read: its result is taken unless it is to be discarded, and the
one that waited for it starts (R75, R76). -/
def Hub.centreEnd (discard : Bool) (slip : Option Pile) (h : Hub) : Hub :=
  let h := h.endLookup .centre
  let h := if discard then h else { h with odo.slip := slip }.reportRug (decide (slip = some Pile.high))
  if h.odo.centreAgain then { h with odo.centreAgain := false }.startCentreLookup else h

/-- A claim of the centre-tile lookup is granted: one slot is read, and the lookup completes with its last read, or
without one when it has nothing to read (R16, R75; log 7, log 8). -/
def Hub.centreDone (h : Hub) : Hub :=
  match h.completing .centre with
  | none => h
  | some l =>
    match h.lookupClaim l with
    | none => h.centreEnd l.discard none
    | some claim =>
      match h.nextRead l claim with
      | some slot => h.lookupGranted (Hub.readOn ⟨h.lookupFloor l, slot, h.pileAfter l claim⟩)
      | none => h.lookupGranted (Hub.centreEnd l.discard (h.pileAfter l claim))

/-- A pass-over lookup ends: its tile is noted when it holds an unprotected drop, is still the wheel's contact tile,
the wheel's line is clear and the lookup was not cancelled (R83). -/
def Hub.passOverEnd (side : Side) (l : Lookup) (h : Hub) : Hub :=
  let suspect :=
    (h.tileView l.tile).any fun e =>
      decide (e.origin = .sensed)
      && (decide (e.cls = .dropSuspect) || (decide (e.cls = .cliff) && !e.isProtected))
  let h := h.endLookup (.wheel side)
  let w := h.odo.wheel side
  if suspect && decide (w.contact = some l.tile) && !h.dropped side && !l.discard then
    { h with odo := h.odo.setWheel side { w with noted := some l.tile } }
  else h

/-- A pass-over lookup completes, with the grant of its read or with nothing to read (R83). -/
def Hub.passOverDone (side : Side) (h : Hub) : Hub :=
  match h.completing (.wheel side) with
  | none => h
  | some l => if h.lookupReads l then h.lookupGranted (Hub.passOverEnd side l) else h.passOverEnd side l

end Sys2Proof.Machine
end

