-- ==== Sys2Proof/Machine/Flash.lean ====
section
/-!
DEFINITION. The Map Store's operations: the flash link, the save, the load and their ends (R169 to R182).
-/

namespace Sys2Proof.Machine

/-- The first address of the entry area, and the address of an image entry (R170). -/
def entryAddress (i : Nat) : Nat := 4096 + 16 * i

/-! ## The flash link (R169) -/

/-- One command of the link: an erase or a program is under way until a status read shows busy clear. A sector's
content is gone from the moment its erase is sent (R172); a program's bytes stand there once it is seen complete (R174;
log 20). -/
def Hub.flashCommand (h : Hub) : FlashCommand → Hub
  | .sectorErase a => { h with flash := h.flash.eraseSector a, store.underWay := some (.sectorErase a) }
  | .pageProgram a data => { h with store.underWay := some (.pageProgram a data) }
  | .read _ => h
  | .writeEnable => h
  | .readStatus => h

/-- Sends commands on the flash link, one transaction each (R169; log 24). -/
def Hub.flashSend (cmds : List FlashCommand) (h : Hub) : Hub :=
  { cmds.foldl Hub.flashCommand h with store.linkOut := cmds.map (·.encode) }

/-- The flash with a program under way carried out. -/
def Store.programmed (s : Store) (m : Memory) : Memory :=
  match s.underWay with
  | some (.pageProgram a data) => m.writeAll a data
  | _ => m

/-- A status read shows busy clear: what was under way is complete (R169, R174). -/
def Hub.flashDone (h : Hub) : Hub := { h with flash := h.store.programmed h.flash, store.underWay := none }

/-- The addresses an erase or a program works on: the first, and how many. -/
def FlashCommand.range : FlashCommand → Nat × Nat
  | .sectorErase a => (a, 4096)
  | .pageProgram a data => (a, data.length)
  | .read _ => (0, 0)
  | .writeEnable => (0, 0)
  | .readStatus => (0, 0)

/-- The flash when an erase or a program under way was not carried to its end: its range holds free bytes, but no whole
marker (R174, R181; log 21). -/
def Hub.fallenFlash (h : Hub) : Memory :=
  match h.store.underWay with
  | none => h.flash
  | some c =>
    h.flash.writeAll c.range.1 ((List.range c.range.2).map fun i =>
      let b := Config.freeFlashByte h.freeDraws (c.range.1 + i)
      if c.range.1 + i = 0 ∧ b = 0x5A#8 then Memory.blank else b)

/-- An operation is cut short: the marker's program under way leaves no whole marker (R174, R180; log 21). Any other
command already sent stays under way and is carried out by the flash itself (R180). -/
def Hub.cutMarker (h : Hub) : Hub :=
  if h.store.underWay = some (.pageProgram 0 imageMarker) then
    { h with flash := h.fallenFlash, freeDraws := h.freeDraws + 1, store.underWay := none }
  else h

/-- The bytes a completed read of the hub gives; a line that gives fewer bytes leaves the rest high (log 20). -/
def Hub.flashBytes (h : Hub) (address count : Nat) : FlashAnswer → List Byte
  | .content => h.flash.bytes address count
  | .line bytes => (List.range count).map fun i => bytes.getD i Memory.blank

/-! ## Where an operation stands -/

/-- The save in progress becomes what it is given. -/
def Hub.setSave (op : SaveOp) (h : Hub) : Hub := { h with store.phase := .save op }

/-- The load in progress becomes what it is given. -/
def Hub.setLoad (op : LoadOp) (h : Hub) : Hub := { h with store.phase := .load op }

/-- Whether a save is in a busy wait (R169). -/
def SaveStep.waits : SaveStep → Bool
  | .opening => true
  | .erased _ => true
  | .reading _ => false
  | .programmed _ => true
  | .headerSent => true
  | .markerSent => true

/-- Whether a load has completed its first pass without failure (R179). -/
def LoadStep.secondPass : LoadStep → Bool
  | .opening => false
  | .header => false
  | .judge _ => false
  | .removeRead _ => true
  | .removeWrite _ => true
  | .fetch _ => true
  | .insert _ _ => true

/-- Start-up ends: the active floor is set (R179, R111). -/
def Hub.endStartUp (home : Floor) (h : Hub) : Hub := { h.changeFloor home with permit.startUpEnded := true }

/-- The home floor a start-up load that ends sets: the header's when the first pass had completed (R179). -/
def LoadOp.homeFloor (op : LoadOp) (passed : Bool) : Floor :=
  if passed then ((op.header.bind fun k => floorOf k.home)).getD 0 else 0

/-- The operation in progress ends with a result; `passed` tells whether a load had completed its first pass
(R171, R179, R182). -/
def Hub.endStore (result : StoreResult) (passed : Bool) (h : Hub) : Hub :=
  match h.store.phase with
  | .idle => h
  | .save op =>
    { h with store.phase := .idle, store.lastOp := some .save, store.lastResult := some result
             store.entryCount := op.written }.setPlan .storeDone
  | .load op =>
    let h :=
      { h with
        store.phase := .idle
        store.lastOp := some .load
        store.lastResult := some result
        store.entryCount := op.inserted
        store.dropped := op.dropped
        store.skipped := op.skipped }.setPlan .storeDone
    let h := if op.startUp then h.endStartUp (op.homeFloor passed) else h
    h.kickUpdater

/-! ## The save -/

/-- The save programs its page buffer as the next page of the entry area: a full page, its last entry read from
`slot`, or the last, shorter page (R173). -/
def Hub.programPage (slot : Option Nat) (op : SaveOp) (h : Hub) : Hub :=
  Hub.flashSend [.writeEnable, .pageProgram (entryAddress op.written) (op.buffer.flatMap (·.encode)), .readStatus]
    (h.setSave { op with step := .programmed slot, waitFrom := none })

/-- The save enters HEADER and programs the header without its marker (R174). -/
def Hub.programHeader (op : SaveOp) (h : Hub) : Hub :=
  Hub.flashSend
    [.writeEnable, .pageProgram 4 (headerTail op.mask op.home h.dock.record op.written op.crc), .readStatus]
    (h.setSave { op with step := .headerSent, waitFrom := none })

/-- The save erases a sector (R172). -/
def Hub.eraseNext (op : SaveOp) (sector : Nat) (h : Hub) : Hub :=
  Hub.flashSend [.writeEnable, .sectorErase (4096 * sector), .readStatus]
    (h.setSave { op with step := .erased sector, waitFrom := none })

/-- The save takes the next occupied slot at or above its position, or programs what it holds (R173; log 42). -/
def Hub.saveNext (op : SaveOp) (h : Hub) : Hub :=
  match h.table.slots.nextOccupied op.position with
  | some slot => h.setSave { op with step := .reading slot, waitFrom := none }
  | none => if op.buffer.isEmpty then h.programHeader op else h.programPage none op

/-- The save with the page just programmed counted and its buffer empty: after a full page its position moves past the
slot read (step 4), after the last page the header follows (R173). -/
def Hub.pageDone (slot : Option Nat) (op : SaveOp) (h : Hub) : Hub :=
  let next : SaveOp :=
    { op with
      written := op.written + op.buffer.length
      crc := crc16 op.crc (op.buffer.flatMap (·.encode))
      buffer := [] }
  match slot with
  | some k => h.saveNext { next with position := k + 1 }
  | none => h.programHeader next

/-- A save's busy wait has ended (R172, R173, R174). -/
def Hub.saveReady (op : SaveOp) (h : Hub) : Hub :=
  match op.step with
  | .opening => h.eraseNext op 0
  | .erased sector =>
    if sector < 4 then h.eraseNext op (sector + 1) else h.saveNext { op with position := 0 }
  | .reading _ => h
  | .programmed slot => h.pageDone slot op
  | .headerSent =>
    Hub.flashSend [.writeEnable, .pageProgram 0 imageMarker, .readStatus]
      (h.setSave { op with step := .markerSent, waitFrom := none })
  | .markerSent => h.endStore .done true

/-- A grant of a save's slot read. The position moves past the slot once the entry is dealt with: at once, or when
the page it filled has been programmed (R173). -/
def Hub.saveGrant (h : Hub) : Hub :=
  match h.store.phase with
  | .save op =>
    match op.step with
    | .reading slot =>
      let read := ((h.table.slots.entry slot).filter fun e => masks op.mask e.floor).toList
      let op := { op with buffer := op.buffer ++ read }
      if op.buffer.length = 16 then h.programPage (some slot) op else h.saveNext { op with position := slot + 1 }
    | _ => h
  | _ => h

/-! ## The load -/

/-- The floors a load rewrites: those of both masks (R176). -/
def LoadOp.floors (op : LoadOp) : BitVec 4 :=
  match op.header with
  | some k => op.mask &&& k.mask
  | none => 0

/-- The entry count of the header read. -/
def LoadOp.count (op : LoadOp) : Nat :=
  match op.header with
  | some k => k.count
  | none => 0

/-- The load ends after its last image entry: the dock record is written when its floor was loaded (R178). -/
def Hub.loadEnd (op : LoadOp) (h : Hub) : Hub :=
  let h := h.setLoad op
  let h :=
    match op.header with
    | none => h
    | some k =>
      match floorOf k.dockFloor with
      | some f =>
        if masks op.floors f then h.writeDock ⟨k.dockValid, k.dockX, k.dockY, k.dockHeading, f⟩ else h
      | none => h
  h.endStore (if op.dropped = 0 then .done else .tooMany) true

/-- The insertion reads an image entry, or ends past the last (R177, R178). -/
def Hub.fetchEntry (op : LoadOp) (i : Nat) (h : Hub) : Hub :=
  if i < op.count then Hub.flashSend [.read (entryAddress i)] (h.setLoad { op with step := .fetch i })
  else h.loadEnd op

/-- The removal reads the next occupied slot from `lo` upward, or gives way to the insertion (R177; log 42). -/
def Hub.removeNext (op : LoadOp) (lo : Nat) (h : Hub) : Hub :=
  match h.table.slots.nextOccupied lo with
  | some slot => h.setLoad { op with step := .removeRead slot }
  | none => h.fetchEntry op 0

/-- The first pass reads an image entry, or ends past the last with the CRC's judgement (R176). -/
def Hub.judgeEntry (op : LoadOp) (i : Nat) (h : Hub) : Hub :=
  if i < op.count then Hub.flashSend [.read (entryAddress i)] (h.setLoad { op with step := .judge i })
  else if op.bad || decide ((op.header.map (·.crc)) ≠ some op.crc) then
    Hub.endStore .badCheck false (h.setLoad op)
  else h.removeNext op 0

/-- A read of the flash completes (R176, R177; log 32). An image entry that no longer passes the test of R1 in the
second pass is passed over and not counted (log 37). -/
def Hub.loadRead (op : LoadOp) (answer : FlashAnswer) (h : Hub) : Hub :=
  match op.step with
  | .header =>
    match ImageHeader.decode (h.flashBytes 0 64 answer) with
    | none => h.endStore .noImage false
    | some k => if k.legal then h.judgeEntry { op with header := some k } 0 else h.endStore .badCheck false
  | .judge i =>
    let bytes := h.flashBytes (entryAddress i) 16 answer
    let good := (Entry.decode bytes).elim false fun e => (op.header.elim false fun k => masks k.mask e.floor)
    h.judgeEntry { op with crc := crc16 op.crc bytes, bad := op.bad || !good } (i + 1)
  | .fetch i =>
    match Entry.decode (h.flashBytes (entryAddress i) 16 answer) with
    | some e =>
      if masks op.floors e.floor then h.setLoad { op with step := .insert i e } else h.fetchEntry op (i + 1)
    | none => h.fetchEntry op (i + 1)
  | .opening | .removeRead _ | .removeWrite _ | .insert _ _ => h

/-- A grant of a removal read or write (R177; log 10). -/
def Hub.removalGrant (h : Hub) : Hub :=
  match h.store.phase with
  | .load op =>
    match op.step with
    | .removeRead slot =>
      if (h.table.slots.entry slot).elim false fun e => masks op.floors e.floor then
        h.setLoad { op with step := .removeWrite slot }
      else h.removeNext op (slot + 1)
    | .removeWrite slot =>
      if (h.table.slots.entry slot).elim false fun e => masks op.floors e.floor then
        (h.removeSlot slot).removeNext op (slot + 1)
      else h.removeNext op (slot + 1)
    | _ => h
  | _ => h

/-- A grant of an insertion write: the image entry is created, skipped or dropped (R177; log 34). -/
def Hub.insertGrant (h : Hub) : Hub :=
  match h.store.phase with
  | .load op =>
    match op.step with
    | .insert i e =>
      if decide (e.origin = .sensed) && (h.table.sensedAt e.floor ⟨e.x0, e.y0⟩).isSome then
        h.fetchEntry { op with skipped := op.skipped + 1 } (i + 1)
      else
        match h.table.slots.free with
        | some slot => (h.createIn slot e).fetchEntry { op with inserted := op.inserted + 1 } (i + 1)
        | none => h.fetchEntry { op with dropped := op.dropped + 1 } (i + 1)
    | _ => h
  | _ => h

/-! ## The busy wait (R169) -/

/-- A status read in a busy wait whose first read came at `waitFrom`: `ready` goes on, `again` reads again with the
first count noted, and past 500 ms the operation ends. -/
def Hub.busyWait (waitFrom : Option Nat) (busy : Bool) (ready : Hub → Hub) (again : Nat → Hub → Hub) (h : Hub) :
    Hub :=
  if busy then
    let first := waitFrom.getD h.time.ms
    if 500 < (h.time.ms + 4294967296 - first) % 4294967296 then h.cutMarker.endStore .flashTimeout false
    else Hub.flashSend [.readStatus] (again first h)
  else ready h.flashDone

/-- A status read completes (R169). -/
def Hub.flashStatus (busy : Bool) (h : Hub) : Hub :=
  match h.store.phase with
  | .save op =>
    if op.step.waits then
      h.busyWait op.waitFrom busy (Hub.saveReady { op with waitFrom := none }) fun first =>
        Hub.setSave { op with waitFrom := some first }
    else h
  | .load op =>
    if op.step = .opening then
      h.busyWait op.waitFrom busy
        (fun h => Hub.flashSend [.read 0] (h.setLoad { op with step := .header, waitFrom := none })) fun first =>
          Hub.setLoad { op with waitFrom := some first }
    else h
  | .idle => h

end Sys2Proof.Machine
end

