-- ==== Sys2Proof/Machine/Sensing.lean ====
section
/-!
DEFINITION. The Floor Scanner and the Line Monitor: SCAN and LINE_SAMPLE (R29 to R42).
-/

namespace Sys2Proof

/-- The reflectance of a pair (R30). -/
def SamplePair.reflectance (p : SamplePair) : Nat := p.on.toNat - p.off.toNat

/-- A channel's reflectance for a scan (R30). -/
def ChannelSamples.reflectance (c : ChannelSamples) (averaged : Bool) : Nat :=
  if averaged then
    (c.first.reflectance + c.second.reflectance + c.third.reflectance + c.fourth.reflectance) / 4
  else c.first.reflectance

/-- Applies a function to each channel's thing. -/
def PerChannel.map {α β : Type} (f : Channel → α → β) (p : PerChannel α) : PerChannel β :=
  ⟨f .fl p.fl, f .fr p.fr, f .sl p.sl, f .sr p.sr⟩

/-- The four things in channel order. -/
def PerChannel.toList {α : Type} (p : PerChannel α) : List α := [p.fl, p.fr, p.sl, p.sr]

end Sys2Proof

namespace Sys2Proof.Machine

/-! ## Blocks of scans -/

/-- A fresh block, latching the settings and the posting indication now (R32). -/
def Hub.freshBlock (h : Hub) : Block where
  k := 0
  counts := Block.cold.counts
  nSag := 0
  floorT := h.sensors.floorT
  darkT := h.sensors.darkT
  sagT := h.sensors.sagT
  offsets := h.sensors.offsets
  posting := h.tracking

/-- A block with one more scan taken (R32). -/
def Block.scan (b : Block) (reading : ScanReading) (averaged : Bool) : Block :=
  let count (c : Channel) (n : ChannelCount) : ChannelCount :=
    let r := (reading.channels.get c).reflectance averaged
    ⟨n.nLow + (decide (r < b.floorT)).toNat, n.nNone + (decide (r < b.darkT)).toNat, min n.least r⟩
  { b with
    k := b.k + 1
    counts := b.counts.map count
    nSag := b.nSag + (decide (reading.rail.toNat < b.sagT)).toNat }

/-- The fire threshold of a block of k scans: 3k/8 rounded up (R33, R34). -/
def fireThreshold (k : Nat) : Nat := (3 * k + 7) / 8

/-- How a channel is classified at block end (R33). -/
inductive Reading where
  | noReturn
  | lowReflect
  | clear
  deriving DecidableEq, Repr

/-- The classification of a channel's counts (R33). -/
def ChannelCount.reading (n : ChannelCount) (fire : Nat) : Reading :=
  if fire ≤ n.nNone then .noReturn else if fire ≤ n.nLow then .lowReflect else .clear

/-- The classification of a channel of the current block. -/
def Block.reading (b : Block) (c : Channel) : Reading := (b.counts.get c).reading (fireThreshold b.k)

/-- The item a channel makes at block end, with its kind, when it has a tile (R33). -/
def Hub.channelItem (h : Hub) (c : Channel) : Option (EvidenceKind × Item) :=
  let b := h.scanner.block
  let n := b.counts.get c
  match h.pose.channelTile (b.offsets.get c) with
  | none => none
  | some t =>
    match b.reading c with
    | .noReturn => some (.noReturn, .noReturn c t n.least n.nNone)
    | .lowReflect => some (.lowReflect, .lowReflect c t n.least n.nLow)
    | .clear =>
      if h.scanner.lastClear.get c = some (h.floor, t) then none else some (.floorClear, .floorClear c t)

/-- The items of a posting block, in channel order (R33). -/
def Hub.blockItems (h : Hub) : List (EvidenceKind × Item) :=
  if h.scanner.block.posting then [Channel.fl, .fr, .sl, .sr].filterMap h.channelItem else []

/-- The items of one kind. -/
def itemsOf (kind : EvidenceKind) (l : List (EvidenceKind × Item)) : List Item :=
  (l.filter fun p => decide (p.1 = kind)).map (·.2)

/-- The last clear tiles after a FLOOR_CLEAR record with these items is offered (R33). -/
def Hub.noteClear (items : List Item) (h : Hub) : Hub :=
  let note (c : Channel) (old : Option (Floor × Tile)) : Option (Floor × Tile) :=
    items.foldl
      (fun last i =>
        match i with
        | .floorClear c' t => if c' = c then some (h.floor, t) else last
        | _ => last)
      old
  { h with scanner.lastClear := h.scanner.lastClear.map note }

/-- The scan timer's period in a mode (R31). -/
def scanPeriod (averaged : Bool) : Nat := if averaged then 4 else 2

/-- A block boundary: the mode comparison, then a fresh block (R31, R32). -/
def Hub.boundary (h : Hub) : Hub :=
  let h :=
    if h.scanner.pendingAveraged = h.scanner.averaged then h
    else
      { h with
        scanner.averaged := h.scanner.pendingAveraged
        scanner.timer := h.timer (scanPeriod h.scanner.pendingAveraged) }
  { h with scanner.block := h.freshBlock }

/-- Whether a permit of granted speed above 0 is active in MOVING or PROBING (R35, R38). -/
def Hub.forward (h : Hub) : Bool :=
  (decide (h.permit.state = .moving) || decide (h.permit.state = .probing))
  && (h.permit.active.elim false fun p => decide (0 < p.speed))

/-- Whether a block end raises CLIFF_SEEN (R35). -/
def Hub.cliffSeen (h : Hub) (b : Block) : Bool :=
  let fl := decide (b.reading .fl = .noReturn)
  let fr := decide (b.reading .fr = .noReturn)
  match h.permit.state with
  | .moving => h.forward && (fl || fr)
  | .probing => fl && fr
  | .still | .stopping | .inhibited => false

/-- A classified block end: the records in their order, the sag report, the CLIFF_SEEN test, the boundary (R32, R33,
R35, R36). -/
def Hub.blockEnd (h : Hub) : Hub :=
  let b := h.scanner.block
  let items := h.blockItems
  let clear := itemsOf .floorClear items
  let h := h.post .noReturn .floorScanner (itemsOf .noReturn items)
  let h := h.post .lowReflect .floorScanner (itemsOf .lowReflect items)
  let h := (h.noteClear clear).post .floorClear .floorScanner clear
  let h := if fireThreshold b.k ≤ b.nSag then h.reportSag else h
  let h := if h.cliffSeen b then h.trigger .cliffSeen else h
  h.boundary

/-- A wheel-drop assertion ends the block early; a block without scans is discarded (R34). -/
def Hub.endBlockEarly (h : Hub) : Hub := if h.scanner.block.k = 0 then h.boundary else h.blockEnd

/-- A scan (R30, R31, R32). -/
def Hub.scan (reading : ScanReading) (h : Hub) : Hub :=
  if h.scanner.timer.due h.time.ms then
    let b := h.scanner.block.scan reading h.scanner.averaged
    let h := { h with scanner.timer := h.scanner.timer.reload, scanner.block := b }
    if b.k = 8 then h.blockEnd else h
  else h

/-! ## The lines -/

/-- The four switch lines. -/
inductive Line where
  | bmpL
  | bmpR
  | wdpL
  | wdpR
  deriving DecidableEq, Repr

end Sys2Proof.Machine

namespace Sys2Proof

/-- The thing of one line. -/
def PerLine.get {α : Type} (p : PerLine α) : Machine.Line → α
  | .bmpL => p.bmpL
  | .bmpR => p.bmpR
  | .wdpL => p.wdpL
  | .wdpR => p.wdpR

/-- The lines with one line's thing replaced. -/
def PerLine.set {α : Type} (p : PerLine α) (l : Machine.Line) (a : α) : PerLine α :=
  match l with
  | .bmpL => { p with bmpL := a }
  | .bmpR => { p with bmpR := a }
  | .wdpL => { p with wdpL := a }
  | .wdpR => { p with wdpR := a }

end Sys2Proof

namespace Sys2Proof.Machine

/-- A bump assertion: its record, and BUMP under a forward permit (R38). -/
def Hub.bumpAssert (side : Side) (h : Hub) : Hub :=
  let tile := if h.tracking then h.pose.bumperTile h.limits.radius side else none
  let h := h.post .bump .lineMonitor (tile.elim [] fun t => [.bump side t])
  if h.forward then h.trigger .bump else h

/-- The lift and set-down timing at an assertion of a wheel-drop line (R41, R42). -/
def Hub.timingAssert (h : Hub) : Hub :=
  if h.odo.pose = .lifted then { h with lines.setDown := none }
  else if h.lines.asserted.wdpL && h.lines.asserted.wdpR then { h with lines.lift := h.timer 1000 }
  else h

/-- The lift and set-down timing at a release of a wheel-drop line (R41, R42). -/
def Hub.timingRelease (h : Hub) : Hub :=
  if h.odo.pose = .lifted then
    if h.lines.asserted.wdpL || h.lines.asserted.wdpR then h else { h with lines.setDown := h.timer 500 }
  else { h with lines.lift := none }

/-- A wheel-drop assertion, its effects in the order of R40's list; that the block end comes before the trigger is the
model's choice (log 12). -/
def Hub.dropAssert (side : Side) (h : Hub) : Hub :=
  let tile := if h.tracking then h.pose.contactTile h.sensors.wheelBase side else none
  let h := h.post .wheelDrop .lineMonitor (tile.elim [] fun t => [.wheelDrop side t])
  ((h.endBlockEarly.trigger .wheelDrop).cancelPassOver).timingAssert

/-- The effect of a line's change of deglitched state (R38, R40, R41, R42). -/
def Hub.lineChanged (l : Line) (asserted : Bool) (h : Hub) : Hub :=
  match l, asserted with
  | .bmpL, true => h.bumpAssert .left
  | .bmpR, true => h.bumpAssert .right
  | .wdpL, true => h.dropAssert .left
  | .wdpR, true => h.dropAssert .right
  | .bmpL, false => h
  | .bmpR, false => h
  | .wdpL, false => h.timingRelease
  | .wdpR, false => h.timingRelease

/-- One line's sample: its state changes at the second of two samples that both differ from it (R37). -/
def Hub.sampleLine (levels : PerLine Bool) (h : Hub) (l : Line) : Hub :=
  let sample := levels.get l == h.sensors.activeHigh.get l
  let state := h.lines.asserted.get l
  let before := h.lines.lastSample.get l
  let h := { h with lines.lastSample := h.lines.lastSample.set l sample }
  if sample ≠ state ∧ before ≠ state then
    Hub.lineChanged l sample { h with lines.asserted := h.lines.asserted.set l sample }
  else h

/-- A sample of the four lines (R37; log 12). -/
def Hub.lineSample (levels : PerLine Bool) (h : Hub) : Hub :=
  if h.lines.timer.due h.time.ms then
    [Line.bmpL, .bmpR, .wdpL, .wdpR].foldl (Hub.sampleLine levels)
      { h with lines.timer := h.lines.timer.reload }
  else h

/-! ## The commands -/

/-- SCAN (R30). -/
def execScan (reading : ScanReading) (s : State) : Host.Outcome State Fault Refusal := s.run (Hub.scan reading)

/-- LINE_SAMPLE (R37). -/
def execLineSample (levels : PerLine Bool) (s : State) : Host.Outcome State Fault Refusal :=
  s.run (Hub.lineSample levels)

end Sys2Proof.Machine
end

