-- ==== Sys2Proof/Machine/Clock.lean ====
section
/-!
DEFINITION. Reset and time: the cold start, the millisecond, and the timers' expiries (R26 to R28, R41, R42, R103,
R108, R132, R148, R157, R164, R167).
-/

namespace Sys2Proof.Machine

/-! ## The Time Base -/

/-- Whether the millisecond at a dither position is short (R26). -/
def shortMillisecond (p : Nat) : Bool := decide (96 ≤ 29 * p % 125)

/-- The reference periods of the millisecond at a dither position (R26). -/
def millisecondPeriods (p : Nat) : Nat := if shortMillisecond p then 32 else 33

/-- The end of a millisecond (R26, R27). -/
def TimeBase.endMillisecond (t : TimeBase) : TimeBase :=
  let ms := (t.ms + 1) % 4294967296
  { ms
    dither := (t.dither + 1) % 125
    refs := 0
    secs := if ms % 1000 = 0 then sat16 t.secs else t.secs }

/-- One period of REF32K: it is counted, and the last of a millisecond ends it (R26; log 3). -/
def TimeBase.tick (t : TimeBase) : TimeBase :=
  if millisecondPeriods t.dither ≤ t.refs + 1 then t.endMillisecond else { t with refs := t.refs + 1 }

/-- One reference period passes, with nothing commanded; nothing runs in the cold-start reset (R167). -/
def Hub.idle (h : Hub) : Hub := if h.inReset then h else { h with time := h.time.tick }

/-- MILLISECOND_END (R26). -/
def execMillisecondEnd (s : State) : Host.Outcome State Fault Refusal :=
  s.run fun h => { h with time := h.time.endMillisecond }

/-! ## The cold start (R167) -/

/-- The supply falls below 2.85 V or NRST is held low: the hub is held in cold-start reset (R167, R181; log 26). What
an erase or a program under way leaves is free after either (log 21). -/
def Hub.coldStart (vddMv : Nat) (nrstHigh : Bool) (h : Hub) : Hub :=
  if (vddMv < 2850 ∨ nrstHigh = false) ∧ h.inReset = false then
    { Hub.cold h.fallenFlash (h.freeDraws + h.store.underWay.isSome.toNat) with inReset := true }
  else h

/-- The cold-start reset ends when VDD has risen above 2.90 V with NRST high (R167, R179). -/
def Hub.resetEnd (vddMv : Nat) (nrstHigh : Bool) (h : Hub) : Hub :=
  if h.inReset ∧ 2900 < vddMv ∧ nrstHigh then Hub.started h.flash h.freeDraws else h

/-- COLD_START (R167). -/
def execColdStart (vddMv : Nat) (nrstHigh : Bool) (s : State) : Host.Outcome State Fault Refusal :=
  .next { s with hub := s.hub.coldStart vddMv nrstHigh }

/-- COLD_START_RESET_END (R167). -/
def execColdStartResetEnd (vddMv : Nat) (nrstHigh : Bool) (s : State) : Host.Outcome State Fault Refusal :=
  .next { s with hub := s.hub.resetEnd vddMv nrstHigh }

/-! ## The expiries -/

/-- The effect `f` of a timer's expiry, when the timer is due (R28; log 6). -/
def Hub.expiry (h : Hub) (t : Timer) (f : Hub → Hub) : Hub := if t.due h.time.ms then f h else h

/-- LIFT_TIMER_EXPIRY (R41). -/
def execLiftTimerExpiry (s : State) : Host.Outcome State Fault Refusal :=
  s.run fun h => h.expiry h.lines.lift fun h => { h with lines.lift := none }.enterLifted

/-- The robot is set down (R42, R77). -/
def Hub.setDownExpired (h : Hub) : Hub :=
  let h := { h with lines.setDown := none }
  if h.odo.pose = .lifted then h.enterLost .lift else h

/-- SET_DOWN_TIMER_EXPIRY (R42). -/
def execSetDownTimerExpiry (s : State) : Host.Outcome State Fault Refusal :=
  s.run fun h => h.expiry h.lines.setDown Hub.setDownExpired

/-- PERMIT_EXPIRY (R103). -/
def execPermitExpiry (s : State) : Host.Outcome State Fault Refusal :=
  s.run fun h => h.expiry h.permit.expiry fun h => Hub.trigger .lapsed { h with permit.expiry := none }

/-- The stop was not confirmed in time (R108). -/
def Hub.stopExpired (h : Hub) : Hub :=
  let h := { h with permit.stopTimer := none }
  if h.permit.state = .stopping then
    let h := { h.inhibit with permit.stopTimeouts := sat8 h.permit.stopTimeouts }
    (h.setPlan .inhibited).setPower .inhibited
  else h

/-- STOP_TIMER_EXPIRY (R108). -/
def execStopTimerExpiry (s : State) : Host.Outcome State Fault Refusal :=
  s.run fun h => h.expiry h.permit.stopTimer Hub.stopExpired

/-- The lease lapses (R132). -/
def Hub.leaseExpired (h : Hub) : Hub :=
  let h := { h with route.lease := .lapsed, route.leaseTimer := none }.setPlan .leaseLapsed
  if h.limits.returnOnLapse then
    match h.dock.state with
    | .trail | .approach | .docking => h
    | .idle | .docked | .failed => if h.returnStatus = .done then h.returnStart else h.placeHold .lease
  else h.placeHold .lease

/-- LEASE_TIMER_EXPIRY (R132). -/
def execLeaseTimerExpiry (s : State) : Host.Outcome State Fault Refusal :=
  s.run fun h => h.expiry h.route.leaseTimer Hub.leaseExpired

/-- SAG_CLEAR_EXPIRY (R164). -/
def execSagClearExpiry (s : State) : Host.Outcome State Fault Refusal :=
  s.run fun h => h.expiry h.load.sagTimer fun h => h.setCauses { h.load with sag := false, sagTimer := none }

/-- DOCKING_TIMER_EXPIRY (R148). -/
def execDockingTimerExpiry (s : State) : Host.Outcome State Fault Refusal :=
  s.run fun h => h.expiry h.dock.timer Hub.dockingExpired

/-- One eye. -/
def Beacon.eye (b : Beacon) : Side → Eye
  | .left => b.left
  | .right => b.right

/-- The receiver with one eye replaced. -/
def Beacon.setEye (b : Beacon) (side : Side) (e : Eye) : Beacon :=
  match side with
  | .left => { b with left := e }
  | .right => { b with right := e }

/-- An eye's freshness ends (R157). -/
def Hub.freshnessExpired (side : Side) (h : Hub) : Hub :=
  { h with beacon := h.beacon.setEye side { h.beacon.eye side with fresh := none } }.freshnessEnded

/-- SIGHTING_FRESHNESS_EXPIRY (R157). -/
def execSightingFreshnessExpiry (eye : Side) (s : State) : Host.Outcome State Fault Refusal :=
  s.run fun h => h.expiry (h.beacon.eye eye).fresh (Hub.freshnessExpired eye)

end Sys2Proof.Machine
end

