-- ==== Sys2Proof/Machine/Link.lean ====
section
/-!
DEFINITION. The Drive link: the ASK and EVENT frames, the bad frames, the break, and the transmit side (R48, R72, R88,
R89, R107, R187 to R190).
-/

namespace Sys2Proof.Machine

/-! ## The receiver (R187, R188) -/

/-- What a received character may make: a bad frame, or a frame that is handed on. -/
inductive LinkEvent where
  | bad
  | ask (frame : AskFrame)
  | stopDone
  | brushLoad (pile : Pile)
  | climb
  deriving DecidableEq, Repr

/-- What the data bytes of an EVENT report, its CRC being good (R188, R198). -/
def eventOf (bytes : List Byte) : LinkEvent :=
  match u8 bytes 1 with
  | 1 => .stopDone
  | 2 => (Pile.ofCode (u8 bytes 2)).elim .bad .brushLoad
  | 3 => .climb
  | _ => .bad

/-- What a frame received whole is: its last byte is tested against the CRC-8 of those before it (R188). -/
def judgeFrame (f : LinkFrame) (bytes : List Byte) : LinkEvent :=
  if bytes.getLast? = some (crc8 bytes.dropLast) then
    match f with
    | .ask => .ask (.ofBytes bytes)
    | .event => eventOf bytes
  else .bad

/-- The receiver takes a character while hunting (R187). A marked character whose stop bit is low begins no frame and
is a bad frame (log 19). -/
def huntChar (run : Bool) (c : LinkChar) : DriveRx × Option LinkEvent :=
  if c.mark then
    match (if c.stop then LinkFrame.ofType c.data else none) with
    | some f => (.inFrame f [c.data], none)
    | none => (.hunting false, some .bad)
  else (.hunting true, if run then none else some .bad)

/-- The receiver takes a character while in a frame (R187). A marked character of an unknown type that cuts a frame
makes one bad frame with it (log 19). -/
def frameChar (f : LinkFrame) (got : List Byte) (c : LinkChar) : DriveRx × Option LinkEvent :=
  if !c.stop then (.hunting false, some .bad)
  else if c.mark then ((LinkFrame.ofType c.data).elim (.hunting false) fun g => .inFrame g [c.data], some .bad)
  else
    let got := got ++ [c.data]
    if got.length < f.length then (.inFrame f got, none) else (.hunting false, some (judgeFrame f got))

/-- The receiver takes a character (R187). -/
def DriveRx.take (rx : DriveRx) (c : LinkChar) : DriveRx × Option LinkEvent :=
  match rx with
  | .hunting run => huntChar run c
  | .inFrame f got => frameChar f got c

/-- The receiver and what the last of some characters makes, none unless it and no character before it makes
something. -/
def DriveRx.hear (rx : DriveRx) : List LinkChar → Option (DriveRx × LinkEvent)
  | [] => none
  | c :: rest =>
    match rx.take c, rest with
    | (rx, some e), [] => some (rx, e)
    | (_, some _), _ :: _ => none
    | (rx, none), rest => rx.hear rest

/-- The receiver after some characters that make nothing, none when one of them makes something. -/
def DriveRx.follow (rx : DriveRx) : List LinkChar → Option DriveRx
  | [] => some rx
  | c :: rest =>
    match rx.take c with
    | (rx, none) => rx.follow rest
    | (_, some _) => none

/-- The receiver hunting, where a frame in progress is discarded (R189). -/
def DriveRx.hunt : DriveRx → DriveRx
  | .hunting run => .hunting run
  | .inFrame _ _ => .hunting false

/-- Whether a frame is in progress. -/
def DriveRx.inProgress : DriveRx → Bool
  | .hunting _ => false
  | .inFrame _ _ => true

/-- The receiver can take a frame without a bad one first: it hunts, or a cut has begun such a frame. -/
def DriveRx.readyFor (rx : DriveRx) (f : LinkFrame) : Bool :=
  match rx with
  | .hunting _ => true
  | .inFrame g got => decide (g = f ∧ got = [f.type])

/-- The characters of a frame that are still to come: all of them, or those after the ones received when the receiver
stands in such a frame already (R187; log 19). -/
def DriveRx.toCome (rx : DriveRx) (f : LinkFrame) (bytes : List Byte) : List LinkChar :=
  match rx with
  | .hunting _ => linkChars bytes
  | .inFrame g got => if g = f then (linkChars bytes).drop got.length else linkChars bytes

/-- The hub after some characters, when they make an event that `act` has an effect for. Characters that make another
are not this command's (log 1). -/
def Hub.heard (h : Hub) (chars : List LinkChar) (act : LinkEvent → Option (Hub → Hub)) : Hub :=
  match h.drive.rx.hear chars with
  | none => h
  | some (rx, e) => (act e).elim h fun f => f { h with drive.rx := rx }

/-- A good frame is handed on: the link is UP, and its receiver hunts for the next (R188, R189). -/
def Hub.frameTaken (h : Hub) : Hub := { h with drive.up := true, drive.badRun := 0, drive.rx := .hunting false }

/-! ## ASK -/

/-- Whether a tick count is in range (R72). -/
def tickLegal (n : Int) : Bool := decide (-2048 ≤ n ∧ n ≤ 2047)

/-- Whether both tick counts of an ask are in range (R72). -/
def askTicksLegal (a : AskFrame) : Bool := tickLegal a.leftCount && tickLegal a.rightCount

/-- Whether an ask's speed, turn rate and horizon are in range (R88 test 2). -/
def askLegal (a : AskFrame) : Bool :=
  decide (-500 ≤ a.speedMm ∧ a.speedMm ≤ 500 ∧ -720 ≤ a.turnDeg ∧ a.turnDeg ≤ 720
    ∧ 20 ≤ a.horizonMs ∧ a.horizonMs ≤ 200)

/-- What the Odometry Unit does with an ask's ticks (R72). -/
def Hub.takeTicks (a : AskFrame) (h : Hub) : Hub :=
  if !h.tracking then h
  else if askTicksLegal a then h.applyTicks a.leftCount a.rightCount
  else h.enterLost .odometry

/-- The refusal an arriving ask meets, none when a check starts, in the order of R88. -/
def Hub.askRefusal (h : Hub) (a : AskFrame) : Option Reason :=
  if !(askTicksLegal a && askLegal a) then some .malformed
  else
    match h.permit.state with
    | .stopping => some .stopping
    | .inhibited => some .inhibited
    | .still | .moving | .probing =>
      if h.loading then some .loading
      else if !h.tracking then some .noPose
      else if !h.permit.holds.empty then some .held
      else none

/-- An ASK is taken: its ticks, the check it supersedes, then its own tests (R72, R88, R89; log 13). -/
def Hub.ask (a : AskFrame) (h : Hub) : Hub :=
  let h := (h.frameTaken.takeTicks a).abandonCheck .superseded
  match h.askRefusal a with
  | some r => h.refuse a.seq r false
  | none => h.startCheck a

/-- ASK (R88). -/
def execAsk (frame : AskFrame) (s : State) : Host.Outcome State Fault Refusal :=
  s.run fun h =>
    h.heard (h.drive.rx.toCome .ask frame.encode) fun
      | .ask a => some (Hub.ask a)
      | _ => none

/-! ## EVENT -/

/-- STOP_DONE reaches the Permit Controller (R107). -/
def Hub.stopDone (h : Hub) : Hub :=
  match h.permit.state with
  | .stopping => { h with permit.stopTimer := none, permit.state := .still }
  | .inhibited => { h with permit.driveStopped := true }
  | .still | .moving | .probing => h

/-- STOP_DONE (R107). -/
def execStopDone (s : State) : Host.Outcome State Fault Refusal :=
  s.run fun h =>
    h.heard (h.drive.rx.toCome .event (eventBytes 0x01#8 0x00#8)) fun
      | .stopDone => some fun h => h.frameTaken.stopDone
      | _ => none

/-- The report of a brush load (R48). -/
def Hub.brushLoad (pile : Pile) (h : Hub) : Hub := h.frameTaken.post .brushLoad .driveLink [.brushLoad pile]

/-- BRUSH_LOAD (R48). -/
def execBrushLoad (pile : Pile) (s : State) : Host.Outcome State Fault Refusal :=
  s.run fun h =>
    h.heard (h.drive.rx.toCome .event (eventBytes 0x02#8 (byte pile.ctorIdx))) fun
      | .brushLoad p => some (Hub.brushLoad p)
      | _ => none

/-- The report of a climb (R48). -/
def Hub.climbed (h : Hub) : Hub :=
  let tile := if h.tracking then h.pose.frontTile h.limits.radius else none
  h.post .climb .driveLink (tile.elim [] fun t => [.climb t])

/-- CLIMB (R48). -/
def execClimb (s : State) : Host.Outcome State Fault Refusal :=
  s.run fun h =>
    h.heard (h.drive.rx.toCome .event (eventBytes 0x03#8 0x00#8)) fun
      | .climb => some fun h => h.frameTaken.climbed
      | _ => none

/-! ## Bad frames and the break -/

/-- A link break: DOWN, the consecutive-bad count 0, a frame in progress discarded and counted as a bad frame, the
receiver hunting, and the trigger LINK (R189). -/
def Hub.linkBreak (h : Hub) : Hub :=
  let errors := if h.drive.rx.inProgress then sat8 h.drive.errors else h.drive.errors
  Hub.trigger .link
    { h with drive.up := false, drive.badRun := 0, drive.errors := errors, drive.rx := h.drive.rx.hunt }

/-- A bad frame is counted (R188). -/
def Hub.countBad (h : Hub) : Hub :=
  { h with drive.errors := sat8 h.drive.errors, drive.badRun := min (h.drive.badRun + 1) 8 }

/-- A bad frame (R188, R189). -/
def Hub.badFrame (h : Hub) : Hub :=
  let h := h.countBad
  if h.drive.up && decide (h.drive.badRun = 8) then h.linkBreak else h

/-- DRIVE_BAD_FRAME (R188). -/
def execDriveBadFrame (chars : List LinkChar) (s : State) : Host.Outcome State Fault Refusal :=
  s.run fun h =>
    h.heard chars fun
      | .bad => some Hub.badFrame
      | _ => none

/-- DL_RX held low for 66 reference periods, after some characters that made nothing yet: a break while UP (R189). -/
def Hub.heldLow (chars : List LinkChar) (h : Hub) : Hub :=
  if h.drive.up then (h.drive.rx.follow chars).elim h fun rx => { h with drive.rx := rx }.linkBreak else h

/-- DL_RX_HELD_LOW (R189). -/
def execDlRxHeldLow (chars : List LinkChar) (s : State) : Host.Outcome State Fault Refusal :=
  s.run (Hub.heldLow chars)

/-! ## The transmit side -/

/-- The frame being sent has been sent to its end; the oldest waiting one follows (R190). -/
def Hub.frameSent (h : Hub) : Hub :=
  match h.drive.sending with
  | none => h
  | some f =>
    { h with
      drive.sent := (linkChars f.encode).flatMap (·.bits)
      drive.sending := h.drive.waiting.head?
      drive.waiting := h.drive.waiting.tail }

/-- DRIVE_FRAME_SENT (R190). -/
def execDriveFrameSent (s : State) : Host.Outcome State Fault Refusal := s.run Hub.frameSent

end Sys2Proof.Machine
end

