-- ==== Sys2Proof/Machine/Eyes.lean ====
section
/-!
DEFINITION. The Beacon Receiver (R155 to R158).
-/

namespace Sys2Proof.Machine

/-! ## Payloads -/

/-- Whether the check of a payload is the sum of its three other groups of four bits (R156). -/
def payloadChecks (p : BitVec 16) : Bool :=
  decide (p.toNat % 16 = (p.toNat / 4096 + p.toNat / 256 % 16 + p.toNat / 16 % 16) % 16)

/-- The field a code names, none when it is not valid (R156). -/
def FieldCode.ofCode : Nat → Option FieldCode
  | 0 => some .leftFan
  | 1 => some .rightFan
  | 2 => some .centre
  | 3 => some .halo
  | _ => none

/-- The field code of a valid payload, none for an invalid one (R156). -/
def payloadField (p : BitVec 16) : Option FieldCode :=
  if payloadChecks p then FieldCode.ofCode (p.toNat / 64 % 8) else none

/-- Whether a slot takes a payload (R157). -/
def MatchSlot.matches (m : MatchSlot) (p : BitVec 16) : Bool :=
  m.enabled && decide (p &&& m.mask = m.pattern &&& m.mask)

/-- The first slot that takes a payload (R157). -/
def Beacon.slotFor (b : Beacon) (p : BitVec 16) : Option Nat :=
  if b.slot0.matches p then some 0
  else if b.slot1.matches p then some 1
  else if b.slot2.matches p then some 2
  else none

/-! ## Completed frames -/

/-- One eye changed. -/
def Hub.setEye (side : Side) (e : Eye) (h : Hub) : Hub := { h with beacon := h.beacon.setEye side e }

/-- A valid frame of the primary decoder: matched, it is a sighting; unmatched, it is foreign (R157). -/
def Hub.uprightFrame (side : Side) (p : BitVec 16) (f : FieldCode) (h : Hub) : Hub :=
  let e := { h.beacon.eye side with inversions := 0, uprightSince := true }
  match h.beacon.slotFor p with
  | some slot =>
    let h := h.setEye side { e with sighting := some ⟨slot, f, h.time.ms⟩, fresh := h.timer 500 }
    (h.setPower .dockSighted).sightingTaken
  | none => { h.setEye side e with beacon.foreign := sat8 h.beacon.foreign }

/-- The primary decoder completes a frame: an invalid one is dropped (R156, R157). -/
def Hub.primaryFrame (side : Side) (p : BitVec 16) (h : Hub) : Hub :=
  match payloadField p with
  | some f => h.uprightFrame side p f
  | none => h

/-- The polarity of an eye is changed and both its decoders hunt (R158). -/
def Hub.flipEye (side : Side) (h : Hub) : Hub :=
  let e := h.beacon.eye side
  let h := h.setEye side { e with inverted := !e.inverted, inversions := 0, primary := .hunting, shadow := .hunting }
  { h with beacon.flips := sat8 h.beacon.flips }.setPlan .beaconPolarity

/-- The shadow decoder completes a frame: a valid one that no upright frame came beside raises the inversion count
(R158). `alone` tells that the primary has completed no valid frame since the frame's start mark. -/
def Hub.shadowFrame (side : Side) (p : BitVec 16) (alone : Bool) (h : Hub) : Hub :=
  if alone && (payloadField p).isSome then
    let e := h.beacon.eye side
    if 8 ≤ e.inversions + 1 then h.flipEye side else h.setEye side { e with inversions := e.inversions + 1 }
  else h

/-- BEACON_FRAME: a whole train in the eye's polarity (R157; log 18). -/
def execBeaconFrame (eye : Side) (payload : BitVec 16) (s : State) : Host.Outcome State Fault Refusal :=
  s.run fun h => Hub.primaryFrame eye payload (h.setEye eye { h.beacon.eye eye with primary := .hunting })

/-- BEACON_SHADOW_FRAME: a whole train in the opposite polarity (R158; log 18). -/
def execBeaconShadowFrame (eye : Side) (payload : BitVec 16) (s : State) : Host.Outcome State Fault Refusal :=
  s.run fun h =>
    let e := h.beacon.eye eye
    Hub.shadowFrame eye payload (decide (e.shadow = .hunting) || !e.uprightSince)
      (h.setEye eye { e with shadow := .hunting })

/-! ## Elements (R155) -/

/-- Whether a duration in reference periods lies within bounds in microseconds. -/
def lasts (periods lo hi : Nat) : Bool := decide (lo * 32768 ≤ periods * 1000000 ∧ periods * 1000000 ≤ hi * 32768)

/-- Sixteen bits, most significant first. -/
def payloadOf (bits : List Bool) : BitVec 16 := BitVec.ofNat 16 (packBits bits.reverse)

/-- A decoder with one element measured, and the payload it completes (R155). -/
def Decoder.element (d : Decoder) (isMark : Bool) (periods : Nat) : Decoder × Option (BitVec 16) :=
  match d with
  | .hunting => if isMark && lasts periods 2500 3500 then (.space [], none) else (.hunting, none)
  | .space bits =>
    if isMark then (.hunting, none)
    else if lasts periods 300 800 then (.mark bits false, none)
    else if lasts periods 1200 1800 then (.mark bits true, none)
    else (.hunting, none)
  | .mark bits bit =>
    if isMark && lasts periods 300 700 then
      if bits.length = 15 then (.hunting, some (payloadOf (bits ++ [bit]))) else (.space (bits ++ [bit]), none)
    else if isMark && lasts periods 2500 3500 then (.space [], none)
    else (.hunting, none)

/-- An element measured by both decoders of an eye (R155, R157, R158). A mark of the eye's polarity is the line low
when it is normal and high when it is inverted. -/
def Hub.element (side : Side) (lineHigh : Bool) (periods : Nat) (h : Hub) : Hub :=
  let e := h.beacon.eye side
  let isMark := lineHigh == e.inverted
  let (primary, upright) := e.primary.element isMark periods
  let (shadow, inverted) := e.shadow.element (!isMark) periods
  let alone := !e.uprightSince
  let h := h.setEye side
    { e with primary, shadow, uprightSince := e.uprightSince && decide (shadow ≠ .space []) }
  let h := upright.elim h fun p => h.primaryFrame side p
  inverted.elim h fun p => h.shadowFrame side p alone

/-- BEACON_ELEMENT (R155). -/
def execBeaconElement (eye : Side) (lineHigh : Bool) (periods : Nat) (s : State) :
    Host.Outcome State Fault Refusal :=
  s.run (Hub.element eye lineHigh periods)

end Sys2Proof.Machine
end

