-- ==== Sys2Proof/Machine/Ports.lean ====
section
/-!
DEFINITION. The Plan and Power ports: reply slots, transactions, the requests about the hub's status, flags and
counters, and the layout of STATUS (R183 to R186, R191 to R194, R198).
-/

namespace Sys2Proof.Machine

/-! ## Replies -/

/-- Places a reply in the Plan slot (R184). -/
def Hub.planReply (r : Reply) (h : Hub) : Hub := { h with plan.slot := .ready r }.setPlan .replyReady

/-- Places a reply in the Power slot (R186). -/
def Hub.powerReply (r : Reply) (h : Hub) : Hub := { h with power.slot := some r }.setPower .replyReady

/-- Places a reply in a port's slot. -/
def Hub.reply (p : Port) (r : Reply) (h : Hub) : Hub :=
  match p with
  | .plan => h.planReply r
  | .power => h.powerReply r

/-- Answers DONE with a body. -/
def Hub.done (p : Port) (code : Byte) (body : List Byte) (h : Hub) : Hub := h.reply p ⟨.done, code, body⟩

/-- Refuses with a status and an empty body. -/
def Hub.deny (p : Port) (code : Byte) (st : Status) (h : Hub) : Hub := h.reply p ⟨st, code, []⟩

/-! ## Frames -/

/-- A valid Plan frame renews the lease (R131). -/
def Hub.renewLease (h : Hub) : Hub :=
  if h.limits.leasePeriod = 0 then h
  else { h with route.lease := .running, route.leaseTimer := h.timer h.limits.leasePeriod }

/-- A reply or a frame is handed to the Plan slot: in service it is dropped, an unread reply is discarded (R184). -/
def Hub.handIn (f : Hub → Hub) (h : Hub) : Hub :=
  match h.plan.slot with
  | .inService _ => h.setPlan .replyLost
  | .ready _ => f ({ h with plan.slot := .empty }.setPlan .replyLost)
  | .empty => f h

/-- A request is taken: a wrong body length is answered BAD_FIELD (R185). -/
def takeRequest (p : Port) (code : Byte) (len : Nat) (body : List Byte) (act : Hub → Hub) (h : Hub) : Hub :=
  if body.length = len then act h else h.deny p code .badField

/-- A valid request frame on a port (R183, R184, R186). -/
def Hub.request (p : Port) (code : Byte) (len : Nat) (body : List Byte) (act : Hub → Hub) (h : Hub) : Hub :=
  match p with
  | .plan => h.renewLease.handIn (takeRequest .plan code len body act)
  | .power => takeRequest .power code len body act h

/-! ## Transactions -/

/-- A reply read of the Plan slot (R183, R184). -/
def Hub.planRead (clocked : Nat) (h : Hub) : Hub :=
  match h.plan.slot with
  | .ready r =>
    let frame := r.encode
    let h := { h with plan.out := frame.take clocked }
    if frame.length ≤ clocked then { h with plan.slot := .empty }.clearPlan .replyReady else h
  | .empty | .inService _ => { h with plan.out := Reply.notReady.encode.take clocked }

/-- PLAN_REPLY_READ (R184). -/
def execPlanReplyRead (clocked : Nat) (s : State) : Host.Outcome State Fault Refusal := s.run (Hub.planRead clocked)

/-- The flag set and mask in their six bytes (R192). -/
def Hub.planFlagBytes (h : Hub) : List Byte := be24 h.att.planFlags.toNat ++ be24 h.att.planMask.toNat

/-- FLAG_PEEK (R192). -/
def execFlagPeek (clocked : Nat) (s : State) : Host.Outcome State Fault Refusal :=
  s.run fun h => { h with plan.out := h.planFlagBytes.take clocked }

/-- PLAN_OTHER_COMMAND: any other command byte shifts out 0xFF (R183). -/
def execPlanOtherCommand (command : Byte) (clocked : Nat) (s : State) : Host.Outcome State Fault Refusal :=
  s.run fun h =>
    if command = 0x51#8 ∨ command = 0x52#8 ∨ command = 0x53#8 then h
    else { h with plan.out := List.replicate clocked 0xFF#8 }

/-- An I2C read (R186). -/
def Hub.powerRead (clocked : Nat) (h : Hub) : Hub :=
  match h.power.slot with
  | some r =>
    let frame := r.encode
    let h := { h with power.out := frame.take clocked }
    if frame.length ≤ clocked then { h with power.slot := none }.clearPower .replyReady else h
  | none => { h with power.out := Reply.notReady.encode.take clocked }

/-- POWER_REPLY_READ (R186). -/
def execPowerReplyRead (clocked : Nat) (s : State) : Host.Outcome State Fault Refusal := s.run (Hub.powerRead clocked)

/-- A bad frame is answered FRAME_ERROR; a frame without a byte has no effect (R183, R186). -/
def Hub.frameError (p : Port) (frame : List Byte) (h : Hub) : Hub :=
  match frame with
  | [] => h
  | code :: _ =>
    if goodFrame frame then h
    else
      match p with
      | .plan => h.handIn (Hub.deny .plan code .frameError)
      | .power => h.deny .power code .frameError

/-- FRAME_ERROR (R183). -/
def execFrameError (port : Port) (frame : List Byte) (s : State) : Host.Outcome State Fault Refusal :=
  s.run (Hub.frameError port frame)

/-- The codes of the requests of a port (R185, R186). -/
def requestCodes : Port → List Nat
  | .plan =>
    [0x01, 0x02, 0x03, 0x04, 0x05, 0x06, 0x10, 0x11, 0x12, 0x13, 0x14, 0x18, 0x19, 0x1A, 0x20, 0x21, 0x22, 0x28,
     0x29, 0x2A, 0x30, 0x31, 0x32, 0x33, 0x38, 0x40, 0x41, 0x42, 0x7F]
  | .power => [0x01, 0x02, 0x28, 0x29, 0x48, 0x32, 0x33, 0x4A, 0x4B]

/-- UNKNOWN_REQUEST: a good frame whose code names no request of its port (R185). -/
def execUnknownRequest (port : Port) (code : Byte) (body : List Byte) (s : State) :
    Host.Outcome State Fault Refusal :=
  s.run fun h =>
    if (requestCodes port).contains code.toNat then h
    else h.request port code body.length body (Hub.deny port code .unknownRequest)

/-! ## STATUS (R194, R198) -/

/-- A number when something is present, 0 when it is absent. -/
def codeOf {α : Type} (o : Option α) (f : α → Nat) : Nat := (o.map f).getD 0

/-- Nought bytes, for what is absent. -/
def zeros (n : Nat) : List Byte := List.replicate n 0x00#8

/-- The pose and its state (R71). -/
def Hub.poseBytes (h : Hub) : List Byte :=
  let cause := match h.odo.pose with
    | .lost c => c.ctorIdx
    | _ => 0
  be32s (roundDiv h.odo.x 1000) ++ be32s (roundDiv h.odo.y 1000) ++ be16 h.odo.heading
  ++ [byte h.odo.pose.ctorIdx, byte cause, flagByte h.odo.rangeSet, byte h.floor.val]

/-- The permit state and the active permit (R86). -/
def Hub.permitBytes (h : Hub) : List Byte :=
  [byte h.permit.state.ctorIdx, byte h.permit.holds.bits, flagByte h.permit.check.isSome,
   byte (causeCode h.permit.lastStop), flagByte h.permit.driveStopped, flagByte h.driveInhibit]
  ++ match h.permit.active with
    | some p =>
      byte p.kind.ctorIdx :: be16s p.speed ++ be16s p.turn ++ [byte (h.permit.expiry.left h.time.ms)]
    | none => zeros 6

/-- One item of the head record in its eight bytes. -/
def Item.encode (i : Item) : List Byte :=
  let made (who : Nat) (t : Tile) (low fire : Nat) : List Byte :=
    byte who :: be16s t.x ++ be16s t.y ++ be16 low ++ [byte fire]
  match i with
  | .lowReflect c t low fire => made c.ctorIdx t low fire
  | .noReturn c t low fire => made c.ctorIdx t low fire
  | .floorClear c t => made c.ctorIdx t 0 0
  | .wheelDrop s t => made s.ctorIdx t 0 0
  | .bump s t => made s.ctorIdx t 0 0
  | .passOver s t => made s.ctorIdx t 0 0
  | .climb t => made 0 t 0 0
  | .brushLoad p => made p.ctorIdx ⟨0, 0⟩ 0 0

/-- Four items' places, the absent ones nought. -/
def itemBytes (items : List Item) : List Byte :=
  let sent := (items.flatMap (·.encode)).take 32
  sent ++ zeros (32 - sent.length)

/-- The Evidence Queue with its head record (R52). -/
def Hub.queueBytes (h : Hub) : List Byte :=
  let counts := byte h.queue.count :: be16 h.queue.bytes ++ [flagByte h.queue.backlog]
  match h.queue.records with
  | [] => counts ++ zeros 44
  | r :: _ =>
    counts ++ be32 ((h.time.ms + 4294967296 - r.stamp) % 4294967296)
    ++ [byte r.kind.ctorIdx, byte r.source.ctorIdx, byte r.floor.val] ++ be32 r.stamp
    ++ [byte r.items.length] ++ itemBytes r.items

/-- The Route Queue and the lease (R123, R133). -/
def Hub.routeBytes (p : Port) (h : Hub) : List Byte :=
  let head := match h.route.waypoints with
    | w :: _ => be16s w.x ++ be16s w.y ++ [byte w.floor.val, byte w.tag]
    | [] => zeros 6
  let left := match p with
    | .plan => be16 (h.route.leaseTimer.left h.time.ms)
    | .power => []
  byte h.route.waypoints.length :: head ++ be16 h.route.advances ++ [byte h.route.lease.ctorIdx] ++ left

/-- The trail and the return (R136, R143). -/
def Hub.returnBytes (h : Hub) : List Byte :=
  byte h.trail.crumbs.length :: be16 (codeOf h.trail.crumbs.getLast? (·.number)) ++ be16 h.trail.pushCounter
  ++ [byte h.dock.state.ctorIdx, byte h.dock.fallbacks] ++ h.dock.record.encode
  ++ [flagByte h.dockUsable] ++ be16 (h.dock.timer.left h.time.ms)

/-- One eye (R157). A sighting's age is taken modulo 2^32 (log 45). -/
def Eye.encode (e : Eye) (ms : Nat) : List Byte :=
  [flagByte e.inverted, byte e.inversions, flagByte e.sighting.isSome, byte (codeOf e.sighting (·.slot)),
   byte (codeOf e.sighting (·.field.ctorIdx))]
  ++ be16 (codeOf e.sighting fun s => min ((ms + 4294967296 - s.stamp) % 4294967296) 65535)
  ++ [flagByte (e.sighting.isSome && e.fresh.isSome)]

/-- The cause set in bits 0..2. -/
def LoadSup.bits (l : LoadSup) : Nat := packBits [l.power, l.rug, l.sag]

/-- The code of the store state (R171). -/
def Store.stateCode (s : Store) : Nat :=
  match s.phase with
  | .idle => 0
  | .save op =>
    match op.step with
    | .opening => 1
    | .erased _ => 1
    | .reading _ => 2
    | .programmed _ => 2
    | .headerSent => 3
    | .markerSent => 3
  | .load _ => 4

/-- The body of the STATUS reply of a port (R198). -/
def Hub.statusBody (p : Port) (h : Hub) : List Byte :=
  h.poseBytes ++ h.permitBytes ++ h.queueBytes ++ h.routeBytes p ++ h.returnBytes
  ++ h.beacon.left.encode h.time.ms ++ h.beacon.right.encode h.time.ms
  ++ [byte h.load.bits, flagByte h.load.heavy] ++ be16 (h.load.sagTimer.left h.time.ms)
  ++ [flagByte h.scanner.averaged, byte h.store.stateCode] ++ be16 h.table.generation ++ [flagByte (!h.drive.up)]

/-- STATUS (R194). -/
def execStatus (port : Port) (body : List Byte) (s : State) : Host.Outcome State Fault Refusal :=
  s.run (Hub.request port 0x01#8 0 body fun h => h.done port 0x01#8 (h.statusBody port))

/-! ## Flags and counters (R192, R193) -/

/-- TAKE_FLAGS carried out: the captured set and the mask are the reply, the selected flags are cleared (R192). -/
def Hub.takeFlags (p : Port) (body : List Byte) (h : Hub) : Hub :=
  match p with
  | .plan =>
    { h with att.planFlags := h.att.planFlags &&& ~~~BitVec.ofNat 17 (u24 body 0) }.done .plan 0x02#8
      h.planFlagBytes
  | .power =>
    { h with att.powerFlags := h.att.powerFlags &&& ~~~BitVec.ofNat 6 (u8 body 0) }.done .power 0x02#8
      [byte h.att.powerFlags.toNat, byte h.att.powerMask.toNat]

/-- The body length of TAKE_FLAGS on a port (R198). -/
def takeFlagsLength : Port → Nat
  | .plan => 3
  | .power => 1

/-- TAKE_FLAGS (R192). -/
def execTakeFlags (port : Port) (body : List Byte) (s : State) : Host.Outcome State Fault Refusal :=
  s.run (Hub.request port 0x02#8 (takeFlagsLength port) body (Hub.takeFlags port body))

/-- SET_MASK carried out (R192). -/
def Hub.setMask (body : List Byte) (h : Hub) : Hub :=
  match u8 body 0 with
  | 0 =>
    let h := { h with att.planMask := BitVec.ofNat 17 (u24 body 1) }
    h.done .plan 0x03#8 (be24 h.att.planMask.toNat)
  | 1 =>
    let h := { h with att.powerMask := BitVec.ofNat 6 (u24 body 1) }
    h.done .plan 0x03#8 (be24 h.att.powerMask.toNat)
  | _ => h.deny .plan 0x03#8 .badField

/-- SET_MASK (R192). -/
def execSetMask (body : List Byte) (s : State) : Host.Outcome State Fault Refusal :=
  s.run (Hub.request .plan 0x03#8 4 body (Hub.setMask body))

/-- Every counter, in the order of R193. -/
def Hub.counterBytes (h : Hub) : List Byte :=
  h.att.refusals.map byte ++ be16 h.queue.lost ++ be16 h.queue.stale ++ be16 h.table.evictions
  ++ [byte h.updater.conflicts, byte h.drive.errors, byte h.permit.stopTimeouts, byte h.beacon.flips,
      byte h.beacon.foreign]
  ++ be16 h.route.advances

/-- Every counter but route advances at 0 (R193). -/
def Hub.clearCounters (h : Hub) : Hub :=
  { h with
    att.refusals := List.replicate 14 0
    queue.lost := 0
    queue.stale := 0
    table.evictions := 0
    updater.conflicts := 0
    drive.errors := 0
    permit.stopTimeouts := 0
    beacon.flips := 0
    beacon.foreign := 0 }

/-- COUNTERS (R193). -/
def execCounters (body : List Byte) (s : State) : Host.Outcome State Fault Refusal :=
  s.run (Hub.request .plan 0x04#8 1 body fun h =>
    (if bitAt body 0 0 then h.clearCounters else h).done .plan 0x04#8 h.counterBytes)

end Sys2Proof.Machine
end

