-- ==== Sys2Proof/Machine/Requests.lean ====
section
/-!
DEFINITION. The requests that are answered when they are taken: settings, pose, route, holds, trail, return, beacon
slots, the Map Store's starts, load and docking reports (R43, R78, R79, R113, R114, R122 to R126, R140 to R153, R159,
R162, R172, R175, R182, R195).
-/

namespace Sys2Proof.Machine

/-! ## Settings -/

/-- The lease after an accepted SET_LIMITS changes its period (R131). -/
def Hub.releaseLease (old : Nat) (h : Hub) : Hub :=
  let new := h.limits.leasePeriod
  if new = old then h
  else if new = 0 then { h with route.lease := .off, route.leaseTimer := none }
  else { h with route.lease := .running, route.leaseTimer := h.timer new }

/-- SET_LIMITS carried out (R195). -/
def Hub.setLimits (body : List Byte) (h : Hub) : Hub :=
  match Limits.parse body with
  | none => h.deny .plan 0x05#8 .badField
  | some l =>
    let h' := { h with limits := l }.releaseLease h.limits.leasePeriod
    let h' :=
      if l.countT = h.limits.countT ∧ l.byteT = h.limits.byteT then h' else h'.testBacklog
    h'.done .plan 0x05#8 l.encode

/-- SET_LIMITS (R195). -/
def execSetLimits (body : List Byte) (s : State) : Host.Outcome State Fault Refusal :=
  s.run (Hub.request .plan 0x05#8 12 body (Hub.setLimits body))

/-- SET_SENSORS carried out (R43). -/
def Hub.setSensors (body : List Byte) (h : Hub) : Hub :=
  match Sensors.parse body with
  | none => h.deny .plan 0x06#8 .badField
  | some n => { h with sensors := n }.done .plan 0x06#8 []

/-- SET_SENSORS (R43). -/
def execSetSensors (body : List Byte) (s : State) : Host.Outcome State Fault Refusal :=
  s.run (Hub.request .plan 0x06#8 27 body (Hub.setSensors body))

/-! ## Pose and floor (R78, R79) -/

/-- Whether the permit state is one in which the robot may be moving (R78, R175). -/
def Hub.inMotion (h : Hub) : Bool :=
  match h.permit.state with
  | .moving | .probing | .stopping => true
  | .still | .inhibited => false

/-- The refusal SET_POSE and SET_FLOOR meet after their field checks (R78, R79). -/
def Hub.placeRefusal (h : Hub) : Option Status :=
  if h.loading then some .busy
  else if h.inMotion then some .inMotion
  else if h.odo.pose = .lifted then some .lifted
  else none

/-- An accepted SET_FLOOR (R79, R84, R99). The route is flushed and a return changed before a restarted check is
abandoned (log 40), and a centre-tile lookup that runs is discarded (log 44). -/
def Hub.moveToFloor (f : Floor) (h : Hub) : Hub :=
  if f = h.floor then h
  else
    let h := { h.changeFloor f with scanner.block.posting := false }.restartTracking.markStale
    if h.tracking then h.startCentreLookup.trackWheels else h

/-- SET_FLOOR carried out (R79). -/
def Hub.setFloor (body : List Byte) (h : Hub) : Hub :=
  match floorOf (u8 body 0), h.placeRefusal with
  | none, _ => h.deny .plan 0x18#8 .badField
  | some _, some st => h.deny .plan 0x18#8 st
  | some f, none =>
    let h := h.moveToFloor f
    h.done .plan 0x18#8 [byte h.floor.val]

/-- SET_FLOOR (R79). -/
def execSetFloor (body : List Byte) (s : State) : Host.Outcome State Fault Refusal :=
  s.run (Hub.request .plan 0x18#8 1 body (Hub.setFloor body))

/-- An accepted SET_POSE (R78, R81; log 13, log 40). -/
def Hub.placeAt (p : Pose) (f : Floor) (h : Hub) : Hub :=
  ((h.place p).changeFloor f).markStale.poseUpdated

/-- SET_POSE carried out (R78). -/
def Hub.setPose (body : List Byte) (h : Hub) : Hub :=
  let x := s16 body 0
  let y := s16 body 2
  match (if mmInWorld x && mmInWorld y then floorOf (u8 body 6) else none), h.placeRefusal with
  | none, _ => h.deny .plan 0x19#8 .badField
  | some _, some st => h.deny .plan 0x19#8 st
  | some f, none =>
    let h := h.placeAt ⟨1000 * x, 1000 * y, u16 body 4⟩ f
    h.done .plan 0x19#8
      (be16s (roundDiv h.odo.x 1000) ++ be16s (roundDiv h.odo.y 1000) ++ be16 h.odo.heading ++ [byte h.floor.val])

/-- SET_POSE (R78). -/
def execSetPose (body : List Byte) (s : State) : Host.Outcome State Fault Refusal :=
  s.run (Hub.request .plan 0x19#8 7 body (Hub.setPose body))

/-- SET_DOCK carried out (R142; log 22). -/
def Hub.setDock (body : List Byte) (h : Hub) : Hub :=
  let answer (d : DockRecord) : Hub := (h.writeDock d).done .plan 0x1A#8 d.encode
  if bitAt body 0 0 then
    match (if mmInWorld (s16 body 1) && mmInWorld (s16 body 3) then floorOf (u8 body 7) else none) with
    | some f => answer ⟨true, s16 body 1, s16 body 3, u16 body 5, f⟩
    | none => h.deny .plan 0x1A#8 .badField
  else answer { h.dock.record with valid := false }

/-- SET_DOCK (R142). -/
def execSetDock (body : List Byte) (s : State) : Host.Outcome State Fault Refusal :=
  s.run (Hub.request .plan 0x1A#8 8 body (Hub.setDock body))

/-! ## The route (R124 to R126) -/

/-- Whether a return is in progress or has failed (R124, R140). -/
def Hub.returning (h : Hub) : Bool :=
  match h.dock.state with
  | .trail | .approach | .docking | .failed => true
  | .idle | .docked => false

/-- ROUTE_APPEND carried out (R124). -/
def Hub.routeAppend (body : List Byte) (h : Hub) : Hub :=
  match Waypoint.parse body with
  | none => h.deny .plan 0x20#8 .badField
  | some w =>
    if h.returning then h.deny .plan 0x20#8 .returning
    else if w.floor ≠ h.floor then h.deny .plan 0x20#8 .wrongFloor
    else if 16 ≤ h.route.waypoints.length then h.deny .plan 0x20#8 .queueFull
    else
      let h := { h with route.waypoints := h.route.waypoints ++ [w] }.removeHold .route
      h.done .plan 0x20#8 [byte h.route.waypoints.length, byte h.permit.holds.bits]

/-- ROUTE_APPEND (R124). -/
def execRouteAppend (body : List Byte) (s : State) : Host.Outcome State Fault Refusal :=
  s.run (Hub.request .plan 0x20#8 11 body (Hub.routeAppend body))

/-- ROUTE_FLUSH (R125). -/
def execRouteFlush (body : List Byte) (s : State) : Host.Outcome State Fault Refusal :=
  s.run (Hub.request .plan 0x21#8 0 body fun h =>
    h.flushRoute.done .plan 0x21#8 [byte h.route.waypoints.length])

/-- A page of four of a list from a position, each with its position. -/
def page {α : Type} (l : List α) (start : Nat) : List (α × Nat) := (l.zipIdx.drop start).take 4

/-- ROUTE_READ carried out (R126). -/
def Hub.routeRead (body : List Byte) (h : Hub) : Hub :=
  if u8 body 0 ≤ 15 then
    let found := page h.route.waypoints (u8 body 0)
    h.done .plan 0x22#8
      (byte h.route.waypoints.length :: be16 h.route.advances ++ [flagByte h.permit.holds.route, byte found.length]
        ++ found.flatMap fun (w, i) => byte i :: w.encode)
  else h.deny .plan 0x22#8 .badField

/-- ROUTE_READ (R126). -/
def execRouteRead (body : List Byte) (s : State) : Host.Outcome State Fault Refusal :=
  s.run (Hub.request .plan 0x22#8 1 body (Hub.routeRead body))

/-! ## Holds (R113, R114) -/

/-- Answers DONE with the hold set. -/
def Hub.doneHolds (p : Port) (code : Byte) (h : Hub) : Hub := h.done p code [byte h.permit.holds.bits]

/-- The hold a port's HOLD places (R114). -/
def portHold : Port → Hold
  | .plan => .plan
  | .power => .power

/-- HOLD (R114). -/
def execHold (port : Port) (body : List Byte) (s : State) : Host.Outcome State Fault Refusal :=
  s.run (Hub.request port 0x28#8 0 body fun h => (h.placeHold (portHold port)).doneHolds port 0x28#8)

/-- The hold a RELEASE names, none when its port may not remove it (R114). -/
def releasedHold (p : Port) (body : List Byte) : Option Hold :=
  match p with
  | .power => some .power
  | .plan =>
    match u8 body 0 with
    | 0 => some .plan
    | 2 => some .lease
    | 3 => some .route
    | _ => none

/-- RELEASE carried out (R114). -/
def Hub.release (p : Port) (body : List Byte) (h : Hub) : Hub :=
  match releasedHold p body with
  | some k => (h.removeHold k).doneHolds p 0x29#8
  | none => h.deny p 0x29#8 .badField

/-- The body length of RELEASE on a port (R198). -/
def releaseLength : Port → Nat
  | .plan => 1
  | .power => 0

/-- RELEASE (R114). -/
def execRelease (port : Port) (body : List Byte) (s : State) : Host.Outcome State Fault Refusal :=
  s.run (Hub.request port 0x29#8 (releaseLength port) body (Hub.release port body))

/-- The answer to RELEASE_INHIBIT, in the order of R113. -/
def Hub.inhibitStatus (h : Hub) : Status :=
  if h.permit.state ≠ .inhibited then .notInhibited
  else if !h.drive.up then .linkDown
  else if !h.permit.driveStopped then .notStopped
  else if h.lines.asserted.wdpL || h.lines.asserted.wdpR then .wheelDrop
  else .done

/-- RELEASE_INHIBIT carried out (R113). -/
def Hub.releaseInhibit (h : Hub) : Hub :=
  if h.inhibitStatus = .done then { h with permit.state := .still }.done .plan 0x2A#8 []
  else h.deny .plan 0x2A#8 h.inhibitStatus

/-- RELEASE_INHIBIT (R113). -/
def execReleaseInhibit (body : List Byte) (s : State) : Host.Outcome State Fault Refusal :=
  s.run (Hub.request .plan 0x2A#8 0 body Hub.releaseInhibit)

/-! ## Trail and return (R140, R141, R144, R153) -/

/-- A crumb in its nine bytes after its position. -/
def Crumb.encode (c : Crumb) : List Byte :=
  be16s c.x ++ be16s c.y ++ be16 c.heading ++ [byte c.floor.val] ++ be16 c.number

/-- TRAIL_READ carried out (R141). -/
def Hub.trailRead (body : List Byte) (h : Hub) : Hub :=
  let start := u8 body 0
  if 1 ≤ start ∧ start ≤ 128 then
    let found := page h.trail.crumbs (start - 1)
    h.done .plan 0x30#8
      (byte h.trail.crumbs.length :: be16 h.trail.pushCounter ++ [byte h.dock.state.ctorIdx, byte found.length]
        ++ found.flatMap fun (c, i) => byte (i + 1) :: c.encode)
  else h.deny .plan 0x30#8 .badField

/-- TRAIL_READ (R141). -/
def execTrailRead (body : List Byte) (s : State) : Host.Outcome State Fault Refusal :=
  s.run (Hub.request .plan 0x30#8 1 body (Hub.trailRead body))

/-- TRAIL_CLEAR carried out (R140). -/
def Hub.trailClear (h : Hub) : Hub :=
  if h.returning then h.deny .plan 0x31#8 .returning
  else h.emptyTrail.pushTest.done .plan 0x31#8 [byte h.trail.crumbs.length]

/-- TRAIL_CLEAR (R140). -/
def execTrailClear (body : List Byte) (s : State) : Host.Outcome State Fault Refusal :=
  s.run (Hub.request .plan 0x31#8 0 body Hub.trailClear)

/-- Answers DONE with the return state. -/
def Hub.doneReturn (p : Port) (code : Byte) (h : Hub) : Hub := h.done p code [byte h.dock.state.ctorIdx]

/-- RETURN_START carried out (R144). -/
def Hub.requestReturn (p : Port) (h : Hub) : Hub :=
  if h.returnStatus = .done then h.returnStart.doneReturn p 0x32#8 else h.deny p 0x32#8 h.returnStatus

/-- RETURN_START (R144). -/
def execReturnStart (port : Port) (body : List Byte) (s : State) : Host.Outcome State Fault Refusal :=
  s.run (Hub.request port 0x32#8 0 body (Hub.requestReturn port))

/-- A return ends: IDLE, with the push test of a change (R153). -/
def Hub.cancelReturn (h : Hub) : Hub := if h.dock.state = .idle then h else (h.setReturn .idle).pushTest

/-- RETURN_CANCEL (R153). -/
def execReturnCancel (port : Port) (body : List Byte) (s : State) : Host.Outcome State Fault Refusal :=
  s.run (Hub.request port 0x33#8 0 body fun h => h.cancelReturn.doneReturn port 0x33#8)

/-! ## Beacon slots (R159) -/

/-- The receiver with one match slot replaced. -/
def Beacon.setSlot (b : Beacon) (k : Nat) (m : MatchSlot) : Beacon :=
  match k with
  | 0 => { b with slot0 := m }
  | 1 => { b with slot1 := m }
  | 2 => { b with slot2 := m }
  | _ => b

/-- BEACON_SLOT carried out (R159). -/
def Hub.beaconSlot (body : List Byte) (h : Hub) : Hub :=
  let k := u8 body 0
  if k ≤ 2 then
    let m : MatchSlot := ⟨BitVec.ofNat 16 (u16 body 1), BitVec.ofNat 16 (u16 body 3), bitAt body 5 0⟩
    { h with beacon := h.beacon.setSlot k m }.done .plan 0x38#8
      (byte k :: be16 m.pattern.toNat ++ be16 m.mask.toNat ++ [flagByte m.enabled])
  else h.deny .plan 0x38#8 .badField

/-- BEACON_SLOT (R159). -/
def execBeaconSlot (body : List Byte) (s : State) : Host.Outcome State Fault Refusal :=
  s.run (Hub.request .plan 0x38#8 6 body (Hub.beaconSlot body))

/-! ## The Map Store's requests (R172, R175, R182) -/

/-- A save that begins now (R172). -/
def SaveOp.begin (mask : BitVec 4) (home : Floor) : SaveOp where
  mask := mask
  home := home
  step := .opening
  position := 0
  buffer := []
  written := 0
  crc := 0xFFFF#16
  waitFrom := none

/-- MAP_SAVE carried out (R172). -/
def Hub.mapSave (body : List Byte) (h : Hub) : Hub :=
  let mask := BitVec.ofNat 4 (u8 body 0)
  match (if mask = 0 then none else floorOf (u8 body 1)) with
  | none => h.deny .plan 0x40#8 .badField
  | some home =>
    if h.store.phase = .idle then
      (Hub.flashSend [.readStatus] (h.setSave (SaveOp.begin mask home))).reply .plan ⟨.started, 0x40#8, []⟩
    else h.deny .plan 0x40#8 .busy

/-- MAP_SAVE (R172). -/
def execMapSave (body : List Byte) (s : State) : Host.Outcome State Fault Refusal :=
  s.run (Hub.request .plan 0x40#8 2 body (Hub.mapSave body))

/-- MAP_LOAD carried out (R101, R175). -/
def Hub.mapLoad (body : List Byte) (h : Hub) : Hub :=
  let mask := BitVec.ofNat 4 (u8 body 0)
  if mask = 0 then h.deny .plan 0x41#8 .badField
  else if h.store.phase ≠ .idle then h.deny .plan 0x41#8 .busy
  else if h.inMotion then h.deny .plan 0x41#8 .inMotion
  else
    let h := h.setLoad { LoadOp.startUpLoad with mask, startUp := false }
    ((Hub.flashSend [.readStatus] h).abandonCheck .loading).reply .plan ⟨.started, 0x41#8, []⟩

/-- MAP_LOAD (R175). -/
def execMapLoad (body : List Byte) (s : State) : Host.Outcome State Fault Refusal :=
  s.run (Hub.request .plan 0x41#8 1 body (Hub.mapLoad body))

/-- The slot position of a save in WRITE, 0 otherwise (R182, R198). -/
def Store.slotPosition (s : Store) : Nat :=
  match s.phase with
  | .save op => if s.stateCode = 2 then op.position else 0
  | _ => 0

/-- The body of the STORE_STATUS reply (R182; log 23). -/
def Hub.storeBytes (h : Hub) : List Byte :=
  byte h.store.stateCode :: be16 h.store.slotPosition
  ++ [byte ((h.store.lastOp.map (·.ctorIdx)).getD 2), byte (codeOf h.store.lastResult (·.ctorIdx))]
  ++ be16 h.store.entryCount ++ be16 h.store.dropped ++ be16 h.store.skipped ++ be16 h.table.generation

/-- STORE_STATUS (R182). -/
def execStoreStatus (body : List Byte) (s : State) : Host.Outcome State Fault Refusal :=
  s.run (Hub.request .plan 0x42#8 0 body fun h => h.done .plan 0x42#8 h.storeBytes)

/-! ## Load and docking reports (R149, R150, R162) -/

/-- LOAD_MODE carried out (R162). -/
def Hub.loadMode (body : List Byte) (h : Hub) : Hub :=
  if u8 body 0 ≤ 1 then
    let h := h.setCauses { h.load with power := decide (u8 body 0 = 1) }
    h.done .power 0x48#8 [byte h.load.bits, flagByte h.load.heavy]
  else h.deny .power 0x48#8 .badField

/-- LOAD_MODE (R162). -/
def execLoadMode (body : List Byte) (s : State) : Host.Outcome State Fault Refusal :=
  s.run (Hub.request .power 0x48#8 1 body (Hub.loadMode body))

/-- The dock record the pose held gives (R149). -/
def Hub.dockFromPose (h : Hub) : DockRecord := ⟨true, worldMm h.odo.x, worldMm h.odo.y, h.odo.heading, h.floor⟩

/-- DOCKED, in the order of R149. -/
def Hub.docked (h : Hub) : Hub :=
  let h := h.setReturn .docked
  let h := { h with dock.timer := none, dock.fallbacks := 0 }.emptyTrail
  if h.dockUsable then h.dockedCorrection
  else if h.tracking then h.writeDock h.dockFromPose
  else h

/-- DOCKED (R149). -/
def execDocked (body : List Byte) (s : State) : Host.Outcome State Fault Refusal :=
  s.run (Hub.request .power 0x4A#8 0 body fun h =>
    let h := h.docked
    h.done .power 0x4A#8 (byte h.dock.state.ctorIdx :: h.dock.record.encode))

/-- UNDOCKED, in the order of R150. -/
def Hub.undocked (h : Hub) : Hub :=
  { h.setReturn .idle with dock.timer := none }.emptyTrail.pushTest

/-- UNDOCKED (R150). -/
def execUndocked (body : List Byte) (s : State) : Host.Outcome State Fault Refusal :=
  s.run (Hub.request .power 0x4B#8 0 body fun h => h.undocked.doneReturn .power 0x4B#8)

end Sys2Proof.Machine
end

