-- ==== Sys2Proof/Machine/MapRequests.lean ====
section
/-!
DEFINITION. The grants of the arbiter, the five Plan requests on the Hazard Table, the flash link's commands and the
warm restart (R11 to R25, R57, R75, R83, R100, R117, R169 to R181, R196).
-/

namespace Sys2Proof.Machine

/-! ## Grants of the sweeps, the Map Updater and the Odometry Unit -/

/-- A grant of a check's claim (R100; log 28). -/
def Hub.checkClaim (h : Hub) : Hub :=
  match h.permit.check with
  | none => h
  | some c =>
    let sweep := h.sweepClaim (c.stops h.probing) (fun s => (c.blocked s).isSome) c.sweep
    Hub.settleCheck { c with sweep } { h with permit.recheckTurn := .recheck }

/-- CHECK_SWEEP_CLAIM (R100). -/
def execCheckSweepClaim (s : State) : Host.Outcome State Fault Refusal :=
  s.run (Hub.granted .check (fun _ => true) Hub.checkClaim)

/-- A grant of a recheck's claim (R100, R116, R117; log 28). -/
def Hub.recheckClaim (h : Hub) : Hub :=
  match h.permit.active, h.permit.recheck with
  | some p, some sw =>
    let sweep := h.sweepClaim recheckStops p.triggers sw
    let turn := if h.permit.check.isSome then FirstPlace.check else h.permit.recheckTurn
    (Hub.settleRecheck sweep { h with permit.recheckTurn := turn }).startPending
  | _, _ => h

/-- RECHECK_CLAIM (R117). -/
def execRecheckClaim (s : State) : Host.Outcome State Fault Refusal :=
  s.run (Hub.granted .recheck (fun _ => true) Hub.recheckClaim)

/-- The apply write and the BRUSH_LOAD write. -/
def ApplyPhase.isWrite : ApplyPhase → Bool
  | .write => true
  | .brushWrite _ _ => true
  | _ => false

/-- A read of the dark-rug screen. -/
def ApplyPhase.isPlannedRead : ApplyPhase → Bool
  | .plannedRead _ _ => true
  | _ => false

/-- A read of the victim search. -/
def ApplyPhase.isSearch : ApplyPhase → Bool
  | .search _ _ => true
  | _ => false

/-- The eviction write. -/
def ApplyPhase.isEvict : ApplyPhase → Bool
  | .evict _ => true
  | _ => false

/-- Whether the Map Updater waits with the claim of a phase that meets a test. -/
def Hub.inPhase (test : ApplyPhase → Bool) (h : Hub) : Bool := h.updater.work.any fun w => test w.phase

/-- APPLY_ITEM (R57). -/
def execApplyItem (s : State) : Host.Outcome State Fault Refusal :=
  s.run (Hub.granted .updater (Hub.inPhase ApplyPhase.isWrite) Hub.applyGrant)

/-- PLANNED_RUG_READ (R57). -/
def execPlannedRugRead (s : State) : Host.Outcome State Fault Refusal :=
  s.run (Hub.granted .updater (Hub.inPhase ApplyPhase.isPlannedRead) Hub.plannedGrant)

/-- EVICTION_SEARCH_READ (R11). -/
def execEvictionSearchRead (s : State) : Host.Outcome State Fault Refusal :=
  s.run (Hub.granted .updater (Hub.inPhase ApplyPhase.isSearch) Hub.searchGrant)

/-- EVICT (R12). -/
def execEvict (s : State) : Host.Outcome State Fault Refusal :=
  s.run (Hub.granted .updater (Hub.inPhase ApplyPhase.isEvict) Hub.evictGrant)

/-- CENTRE_TILE_LOOKUP_DONE (R75). -/
def execCentreTileLookupDone (s : State) : Host.Outcome State Fault Refusal := s.run Hub.centreDone

/-- PASS_OVER_LOOKUP_DONE (R83). -/
def execPassOverLookupDone (wheel : Side) (s : State) : Host.Outcome State Fault Refusal :=
  s.run (Hub.passOverDone wheel)

/-! ## The Plan map requests -/

/-- The table request in service. -/
def PlanSlot.service : PlanSlot → Option Service
  | .inService v => some v
  | .empty => none
  | .ready _ => none

/-- The request code of a table request (R198). -/
def Service.code : Service → Byte
  | .put _ => 0x10#8
  | .delete _ _ => 0x11#8
  | .confirm _ _ _ => 0x12#8
  | .query _ _ _ _ _ _ _ => 0x13#8
  | .clear _ _ _ _ _ => 0x14#8

/-- Whether the request of a code is in service. -/
def Hub.inService (code : Byte) (h : Hub) : Bool := h.plan.slot.service.any fun v => decide (v.code = code)

/-- A table request enters service with its claim (R185). -/
def Hub.serve (v : Service) (h : Hub) : Hub := { h with plan.slot := .inService v }

/-- An edit of the table that its field checks have passed: refused while the Map Store is in LOAD (R18). -/
def Hub.serveEdit (code : Byte) (v : Service) (h : Hub) : Hub :=
  if h.loading then h.deny .plan code .busy else h.serve v

/-- MAP_PUT taken (R19; log 11). -/
def Hub.mapPut (body : List Byte) (h : Hub) : Hub :=
  match Entry.parsePut body 0 with
  | none => h.deny .plan 0x10#8 .badField
  | some e => h.serveEdit 0x10#8 (.put e)

/-- MAP_PUT (R19). -/
def execMapPut (body : List Byte) (s : State) : Host.Outcome State Fault Refusal :=
  s.run (Hub.request .plan 0x10#8 11 body (Hub.mapPut body))

/-- Whether a MAP_PUT notifies (R17). -/
def Hub.putReports (h : Hub) (e : Entry) : Bool :=
  decide (e.floor = h.floor
    ∧ (e.cls = .cliff ∨ e.cls = .dropSuspect ∨ e.cls = .obstacle ∨ e.cls = .nogo))

/-- A grant of the MAP_PUT write (R17, R19). -/
def Hub.putGrant (h : Hub) : Hub :=
  match h.plan.slot.service with
  | some (.put e) =>
    match h.table.slots.free with
    | none => h.deny .plan 0x10#8 .tableFull
    | some slot =>
      let h := h.createIn slot { e with stamp := h.time.secs }
      let h := h.done .plan 0x10#8 (be16 slot ++ be16 h.table.generation)
      if h.putReports e then h.notify else h
  | _ => h

/-- MAP_PUT_WRITE (R19). -/
def execMapPutWrite (s : State) : Host.Outcome State Fault Refusal :=
  s.run (Hub.granted .plan (Hub.inService 0x10#8) Hub.putGrant)

/-- MAP_DELETE taken (R20). -/
def Hub.mapDelete (body : List Byte) (h : Hub) : Hub :=
  if u16 body 0 ≤ 1023 then
    h.serveEdit 0x11#8 (.delete (u16 body 0) (if bitAt body 2 0 then some (u16 body 3) else none))
  else h.deny .plan 0x11#8 .badField

/-- MAP_DELETE (R20). -/
def execMapDelete (body : List Byte) (s : State) : Host.Outcome State Fault Refusal :=
  s.run (Hub.request .plan 0x11#8 5 body (Hub.mapDelete body))

/-- A grant of the MAP_DELETE write, in the order of R20. -/
def Hub.deleteGrant (h : Hub) : Hub :=
  match h.plan.slot.service with
  | some (.delete slot guarded) =>
    if guarded.elim false fun g => g ≠ h.table.generation then
      h.reply .plan ⟨.changed, 0x11#8, be16 h.table.generation⟩
    else
      match h.table.slots.entry slot with
      | none => h.deny .plan 0x11#8 .notFound
      | some _ =>
        let h := h.removeSlot slot
        h.done .plan 0x11#8 (be16 h.table.generation)
  | _ => h

/-- MAP_DELETE_WRITE (R20). -/
def execMapDeleteWrite (s : State) : Host.Outcome State Fault Refusal :=
  s.run (Hub.granted .plan (Hub.inService 0x11#8) Hub.deleteGrant)

/-- MAP_CONFIRM taken (R21). -/
def Hub.mapConfirm (body : List Byte) (h : Hub) : Hub :=
  let t : Tile := ⟨s16 body 1, s16 body 3⟩
  match (if t.onWorld then floorOf (u8 body 0) else none) with
  | some f => h.serveEdit 0x12#8 (.confirm f t (bitAt body 5 0))
  | none => h.deny .plan 0x12#8 .badField

/-- MAP_CONFIRM (R21). -/
def execMapConfirm (body : List Byte) (s : State) : Host.Outcome State Fault Refusal :=
  s.run (Hub.request .plan 0x12#8 6 body (Hub.mapConfirm body))

/-- A grant of the MAP_CONFIRM write (R21). -/
def Hub.confirmGrant (h : Hub) : Hub :=
  match h.plan.slot.service with
  | some (.confirm f t pin) =>
    match (h.table.sensedAt f t).bind fun slot => (h.table.slots.entry slot).map fun e => (slot, e) with
    | none => h.deny .plan 0x12#8 .notFound
    | some (slot, e) =>
      let h := h.changeSlot slot e { e with pinned := pin }
      h.done .plan 0x12#8
        (be16 slot ++ [byte e.cls.ctorIdx, byte e.confidence] ++ be16 h.table.generation)
  | _ => h

/-- MAP_CONFIRM_WRITE (R21). -/
def execMapConfirmWrite (s : State) : Host.Outcome State Fault Refusal :=
  s.run (Hub.granted .plan (Hub.inService 0x12#8) Hub.confirmGrant)

/-- The DONE reply of a query: the entries found and the next slot, none for END (R22). -/
def Hub.answerQuery (found : List (Nat × Entry)) (next : Option Nat) (h : Hub) : Hub :=
  h.done .plan 0x13#8
    (byte found.length :: be16 (next.getD 65535) ++ be16 h.table.generation ++ be16 h.table.occupied
      ++ found.flatMap fun p => be16 p.1 ++ p.2.encode)

/-- A query goes on to the next occupied slot from `lo`, or answers END (R22); the free slots it passes count as
examined from then on (log 42). -/
def Hub.queryNext (f : Floor) (x0 y0 : Int) (width height lo : Nat) (found : List (Nat × Entry)) (h : Hub) : Hub :=
  match h.table.slots.nextOccupied lo with
  | some slot => h.serve (.query f x0 y0 width height slot found)
  | none => h.answerQuery found none

/-- MAP_QUERY taken (R22). -/
def Hub.mapQuery (body : List Byte) (h : Hub) : Hub :=
  let legal := rectLegal (s16 body 1) (s16 body 3) (u16 body 5) (u16 body 7) && decide (u16 body 9 ≤ 1023)
  match (if legal then floorOf (u8 body 0) else none) with
  | some f => h.queryNext f (s16 body 1) (s16 body 3) (u16 body 5) (u16 body 7) (u16 body 9) []
  | none => h.deny .plan 0x13#8 .badField

/-- MAP_QUERY (R22). -/
def execMapQuery (body : List Byte) (s : State) : Host.Outcome State Fault Refusal :=
  s.run (Hub.request .plan 0x13#8 11 body (Hub.mapQuery body))

/-- A grant of a query's read (R22). -/
def Hub.queryGrant (h : Hub) : Hub :=
  match h.plan.slot.service with
  | some (.query f x0 y0 width height slot found) =>
    match (h.table.slots.entry slot).filter fun e => decide (e.floor = f) && e.meets x0 y0 width height with
    | some e =>
      if found.length = 8 then h.answerQuery found (some slot)
      else h.queryNext f x0 y0 width height (slot + 1) (found ++ [(slot, e)])
    | none => h.queryNext f x0 y0 width height (slot + 1) found
  | _ => h

/-- MAP_QUERY_READ (R22). -/
def execMapQueryRead (s : State) : Host.Outcome State Fault Refusal :=
  s.run (Hub.granted .plan (Hub.inService 0x13#8) Hub.queryGrant)

/-- A clear goes on to the next occupied slot from `lo`, or answers with the map generation after its last removal
(R23). That the free slots it passes count as examined from then on, and the generation a clear that removed nothing
answers with, are the model's choices (log 42, log 38). -/
def Hub.clearNext (f : Floor) (lo removed : Nat) (last : Option Nat) (h : Hub) : Hub :=
  match h.table.slots.nextOccupied lo with
  | some slot => h.serve (.clear f slot false removed last)
  | none => h.done .plan 0x14#8 (be16 removed ++ be16 (last.getD h.table.generation))

/-- A removal of a clear, with the map generation after it kept (R23). -/
def Hub.clearRemove (f : Floor) (slot removed : Nat) (h : Hub) : Hub :=
  let h := h.removeSlot slot
  h.clearNext f (slot + 1) (removed + 1) (some h.table.generation)

/-- MAP_CLEAR taken (R18, R23). -/
def Hub.mapClear (body : List Byte) (h : Hub) : Hub :=
  match floorOf (u8 body 0) with
  | none => h.deny .plan 0x14#8 .badField
  | some f => if h.loading then h.deny .plan 0x14#8 .busy else h.clearNext f 0 0 none

/-- MAP_CLEAR (R23). -/
def execMapClear (body : List Byte) (s : State) : Host.Outcome State Fault Refusal :=
  s.run (Hub.request .plan 0x14#8 1 body (Hub.mapClear body))

/-- A grant of a clear's read or remove claim (R23; log 10, log 38). -/
def Hub.clearGrant (h : Hub) : Hub :=
  match h.plan.slot.service with
  | some (.clear f slot removing removed last) =>
    let belongs := (h.table.slots.entry slot).elim false fun e => decide (e.floor = f)
    match belongs, removing with
    | true, false => h.serve (.clear f slot true removed last)
    | true, true => h.clearRemove f slot removed
    | false, _ => h.clearNext f (slot + 1) removed last
  | _ => h

/-- MAP_CLEAR_CLAIM (R23). -/
def execMapClearClaim (s : State) : Host.Outcome State Fault Refusal :=
  s.run (Hub.granted .plan (Hub.inService 0x14#8) Hub.clearGrant)

/-! ## The flash link and the Map Store's claims -/

/-- FLASH_STATUS_READ: bit 0 of the status byte is the busy indication (R169). -/
def execFlashStatusRead (statusByte : Byte) (s : State) : Host.Outcome State Fault Refusal :=
  s.run (Hub.flashStatus (statusByte.getLsbD 0))

/-- Whether the Map Store saves. -/
def Hub.saving (h : Hub) : Bool :=
  match h.store.phase with
  | .save _ => true
  | _ => false

/-- A removal read or write of a load. -/
def LoadStep.isRemoval : LoadStep → Bool
  | .removeRead _ => true
  | .removeWrite _ => true
  | _ => false

/-- An insertion write of a load. -/
def LoadStep.isInsert : LoadStep → Bool
  | .insert _ _ => true
  | _ => false

/-- Whether the Map Store stands in a step of a load that meets a test. -/
def Hub.inLoadStep (test : LoadStep → Bool) (h : Hub) : Bool :=
  match h.store.phase with
  | .load op => test op.step
  | _ => false

/-- SAVE_SLOT_READ (R173). -/
def execSaveSlotRead (s : State) : Host.Outcome State Fault Refusal :=
  s.run (Hub.granted .store Hub.saving Hub.saveGrant)

/-- A read of the flash completes for the load in progress (R176). -/
def Hub.flashRead (answer : FlashAnswer) (h : Hub) : Hub :=
  match h.store.phase with
  | .load op => h.loadRead op answer
  | _ => h

/-- FLASH_READ_DONE (R176). -/
def execFlashReadDone (answer : FlashAnswer) (s : State) : Host.Outcome State Fault Refusal :=
  s.run (Hub.flashRead answer)

/-- LOAD_REMOVAL_CLAIM (R177). -/
def execLoadRemovalClaim (s : State) : Host.Outcome State Fault Refusal :=
  s.run (Hub.granted .store (Hub.inLoadStep LoadStep.isRemoval) Hub.removalGrant)

/-- LOAD_INSERT_WRITE (R177). -/
def execLoadInsertWrite (s : State) : Host.Outcome State Fault Refusal :=
  s.run (Hub.granted .store (Hub.inLoadStep LoadStep.isInsert) Hub.insertGrant)

/-! ## The warm restart (R196) -/

/-- A store operation in progress ends ABORTED (R180). -/
def Hub.abortStore (h : Hub) : Hub :=
  match h.store.phase with
  | .load op => h.cutMarker.endStore .aborted op.step.secondPass
  | .save _ => h.cutMarker.endStore .aborted false
  | .idle => h

/-- The lookups in progress are cut and discarded; in TRACKING a fresh centre-tile lookup starts (R85). -/
def Hub.cutLookups (h : Hub) : Hub :=
  let h := { h with odo.lookups := [], odo.centreAgain := false }
  if h.tracking then h.startCentreLookup else h

/-- The lease starts for its period, or is OFF (R135). -/
def Hub.restartLease (h : Hub) : Hub :=
  if h.limits.leasePeriod = 0 then { h with route.lease := .off, route.leaseTimer := none } else h.renewLease

/-- The Evidence Queue and the Map Updater at a warm restart (R68, R69). -/
def Hub.emptyQueue (h : Hub) : Hub :=
  { h with queue.records := [], queue.backlog := false, updater.work := none }

/-- The scanner's block at a warm restart (R44). -/
def Hub.restartBlock (h : Hub) : Hub :=
  { h with
    scanner.block := h.freshBlock
    scanner.lastClear := { fl := none, fr := none, sl := none, sr := none } }

/-- Every flag cleared, both masks at their default, the Power slot empty (R196). -/
def Hub.resetAttention (h : Hub) : Hub :=
  { h with
    att.planFlags := 0
    att.planMask := PlanFlag.replyReady.bit
    att.powerFlags := 0
    att.powerMask := PowerFlag.replyReady.bit
    power.slot := none }

/-- The warm restart of the blocks, then of the Attention Unit, then its reply (R196; log 14). -/
def Hub.warmRestart (h : Hub) : Hub :=
  let h := { h with plan.slot := .empty }.restartTrigger.emptyQueue
  let h := { h with route.waypoints := [] }.abortStore.cutLookups
  let h := { h.cancelReturn with dock.fallbacks := 0 }
  h.restartBlock.restartLease.resetAttention.done .plan 0x7F#8 []

/-- A WARM_RESTART frame is carried out in every state of the Plan slot (R184, R196; log 31). -/
def Hub.warmRestartFrame (body : List Byte) (h : Hub) : Hub :=
  if body.length = 0 then h.warmRestart else h.request .plan 0x7F#8 0 body Hub.warmRestart

/-- WARM_RESTART (R196). -/
def execWarmRestart (body : List Byte) (s : State) : Host.Outcome State Fault Refusal :=
  s.run (Hub.warmRestartFrame body)

end Sys2Proof.Machine
end

