-- ==== Sys2Proof/Machine/Dispatch.lean ====
section
/-!
DEFINITION. The dispatch: one arm for each command, one direct call of its meaning.
-/

namespace Sys2Proof.Machine

/-- The effect of a command on everything but the queue of waiting commands. -/
def exec (i : Instr) (s : State) : Host.Outcome State Fault Refusal :=
  match i with
  | .coldStart vddMv nrstHigh => Sys2Proof.Machine.execColdStart vddMv nrstHigh s
  | .millisecondEnd => Sys2Proof.Machine.execMillisecondEnd s
  | .scan reading => Sys2Proof.Machine.execScan reading s
  | .lineSample levels => Sys2Proof.Machine.execLineSample levels s
  | .liftTimerExpiry => Sys2Proof.Machine.execLiftTimerExpiry s
  | .setDownTimerExpiry => Sys2Proof.Machine.execSetDownTimerExpiry s
  | .permitExpiry => Sys2Proof.Machine.execPermitExpiry s
  | .stopTimerExpiry => Sys2Proof.Machine.execStopTimerExpiry s
  | .leaseTimerExpiry => Sys2Proof.Machine.execLeaseTimerExpiry s
  | .sagClearExpiry => Sys2Proof.Machine.execSagClearExpiry s
  | .dockingTimerExpiry => Sys2Proof.Machine.execDockingTimerExpiry s
  | .sightingFreshnessExpiry eye => Sys2Proof.Machine.execSightingFreshnessExpiry eye s
  | .ask frame => Sys2Proof.Machine.execAsk frame s
  | .driveFrameSent => Sys2Proof.Machine.execDriveFrameSent s
  | .stopDone => Sys2Proof.Machine.execStopDone s
  | .brushLoad pile => Sys2Proof.Machine.execBrushLoad pile s
  | .climb => Sys2Proof.Machine.execClimb s
  | .driveBadFrame chars => Sys2Proof.Machine.execDriveBadFrame chars s
  | .dlRxHeldLow chars => Sys2Proof.Machine.execDlRxHeldLow chars s
  | .checkSweepClaim => Sys2Proof.Machine.execCheckSweepClaim s
  | .recheckClaim => Sys2Proof.Machine.execRecheckClaim s
  | .applyItem => Sys2Proof.Machine.execApplyItem s
  | .plannedRugRead => Sys2Proof.Machine.execPlannedRugRead s
  | .evictionSearchRead => Sys2Proof.Machine.execEvictionSearchRead s
  | .evict => Sys2Proof.Machine.execEvict s
  | .centreTileLookupDone => Sys2Proof.Machine.execCentreTileLookupDone s
  | .passOverLookupDone wheel => Sys2Proof.Machine.execPassOverLookupDone wheel s
  | .beaconFrame eye payload => Sys2Proof.Machine.execBeaconFrame eye payload s
  | .beaconShadowFrame eye payload => Sys2Proof.Machine.execBeaconShadowFrame eye payload s
  | .planReplyRead clocked => Sys2Proof.Machine.execPlanReplyRead clocked s
  | .flagPeek clocked => Sys2Proof.Machine.execFlagPeek clocked s
  | .planOtherCommand command clocked => Sys2Proof.Machine.execPlanOtherCommand command clocked s
  | .powerReplyRead clocked => Sys2Proof.Machine.execPowerReplyRead clocked s
  | .frameError port frame => Sys2Proof.Machine.execFrameError port frame s
  | .unknownRequest port code body => Sys2Proof.Machine.execUnknownRequest port code body s
  | .status port body => Sys2Proof.Machine.execStatus port body s
  | .takeFlags port body => Sys2Proof.Machine.execTakeFlags port body s
  | .setMask body => Sys2Proof.Machine.execSetMask body s
  | .counters body => Sys2Proof.Machine.execCounters body s
  | .setLimits body => Sys2Proof.Machine.execSetLimits body s
  | .setSensors body => Sys2Proof.Machine.execSetSensors body s
  | .mapPut body => Sys2Proof.Machine.execMapPut body s
  | .mapPutWrite => Sys2Proof.Machine.execMapPutWrite s
  | .mapDelete body => Sys2Proof.Machine.execMapDelete body s
  | .mapDeleteWrite => Sys2Proof.Machine.execMapDeleteWrite s
  | .mapConfirm body => Sys2Proof.Machine.execMapConfirm body s
  | .mapConfirmWrite => Sys2Proof.Machine.execMapConfirmWrite s
  | .mapQuery body => Sys2Proof.Machine.execMapQuery body s
  | .mapQueryRead => Sys2Proof.Machine.execMapQueryRead s
  | .mapClear body => Sys2Proof.Machine.execMapClear body s
  | .mapClearClaim => Sys2Proof.Machine.execMapClearClaim s
  | .setFloor body => Sys2Proof.Machine.execSetFloor body s
  | .setPose body => Sys2Proof.Machine.execSetPose body s
  | .setDock body => Sys2Proof.Machine.execSetDock body s
  | .routeAppend body => Sys2Proof.Machine.execRouteAppend body s
  | .routeFlush body => Sys2Proof.Machine.execRouteFlush body s
  | .routeRead body => Sys2Proof.Machine.execRouteRead body s
  | .hold port body => Sys2Proof.Machine.execHold port body s
  | .release port body => Sys2Proof.Machine.execRelease port body s
  | .releaseInhibit body => Sys2Proof.Machine.execReleaseInhibit body s
  | .trailRead body => Sys2Proof.Machine.execTrailRead body s
  | .trailClear body => Sys2Proof.Machine.execTrailClear body s
  | .returnStart port body => Sys2Proof.Machine.execReturnStart port body s
  | .returnCancel port body => Sys2Proof.Machine.execReturnCancel port body s
  | .beaconSlot body => Sys2Proof.Machine.execBeaconSlot body s
  | .mapSave body => Sys2Proof.Machine.execMapSave body s
  | .mapLoad body => Sys2Proof.Machine.execMapLoad body s
  | .storeStatus body => Sys2Proof.Machine.execStoreStatus body s
  | .warmRestart body => Sys2Proof.Machine.execWarmRestart body s
  | .loadMode body => Sys2Proof.Machine.execLoadMode body s
  | .docked body => Sys2Proof.Machine.execDocked body s
  | .undocked body => Sys2Proof.Machine.execUndocked body s
  | .flashStatusRead statusByte => Sys2Proof.Machine.execFlashStatusRead statusByte s
  | .saveSlotRead => Sys2Proof.Machine.execSaveSlotRead s
  | .flashReadDone answer => Sys2Proof.Machine.execFlashReadDone answer s
  | .loadRemovalClaim => Sys2Proof.Machine.execLoadRemovalClaim s
  | .loadInsertWrite => Sys2Proof.Machine.execLoadInsertWrite s
  | .coldStartResetEnd vddMv nrstHigh => Sys2Proof.Machine.execColdStartResetEnd vddMv nrstHigh s
  | .beaconElement eye lineHigh periods => Sys2Proof.Machine.execBeaconElement eye lineHigh periods s

end Sys2Proof.Machine
end

