-- ==== Sys2Proof/Safety.lean ====
section
/-!
DEFINITION. The laws the spec states of the hub's state (R3, R7, R26, R49, R86, R123, R137, R190), as predicates on
the hub, and the words the statements are made of.
-/

namespace Sys2Proof.Machine

/-! ## How a statement speaks of a command -/

/-- The command takes the hub to `h` and leaves the queue of waiting commands as it is. -/
abbrev Runs (i : Instr) (s : State) (h : Hub) : Prop := exec i s = .next { s with hub := h }

/-- No table request is in service on the Plan port, so that the next Plan request is taken (R184). -/
abbrev Hub.planOpen (h : Hub) : Prop := h.plan.slot.claims = false

/-- The Plan slot made free for a new reply: an unread one is discarded with REPLY_LOST (R184). -/
def Hub.clearSlot (h : Hub) : Hub :=
  match h.plan.slot with
  | .ready _ => Hub.setPlan .replyLost { h with plan.slot := .empty }
  | .empty => h
  | .inService _ => h

/-- The hub after the frame of a request that is taken on a port: on the Plan port the lease is renewed and an unread
reply discarded (R131, R184). -/
def Hub.framed (p : Port) (h : Hub) : Hub :=
  match p with
  | .plan => h.renewLease.clearSlot
  | .power => h

/-- The port can take a request. -/
abbrev Hub.portOpen (p : Port) (h : Hub) : Prop := p = .plan → h.planOpen

/-- The request a command frames, every request but WARM_RESTART (R184): its port, code, body length and body (R185,
R186, R198). -/
def requestFrame : Instr → Option (Port × Byte × Nat × List Byte)
  | .status p b => some (p, 0x01#8, 0, b)
  | .takeFlags p b => some (p, 0x02#8, takeFlagsLength p, b)
  | .setMask b => some (.plan, 0x03#8, 4, b)
  | .counters b => some (.plan, 0x04#8, 1, b)
  | .setLimits b => some (.plan, 0x05#8, 12, b)
  | .setSensors b => some (.plan, 0x06#8, 27, b)
  | .mapPut b => some (.plan, 0x10#8, 11, b)
  | .mapDelete b => some (.plan, 0x11#8, 5, b)
  | .mapConfirm b => some (.plan, 0x12#8, 6, b)
  | .mapQuery b => some (.plan, 0x13#8, 11, b)
  | .mapClear b => some (.plan, 0x14#8, 1, b)
  | .setFloor b => some (.plan, 0x18#8, 1, b)
  | .setPose b => some (.plan, 0x19#8, 7, b)
  | .setDock b => some (.plan, 0x1A#8, 8, b)
  | .routeAppend b => some (.plan, 0x20#8, 11, b)
  | .routeFlush b => some (.plan, 0x21#8, 0, b)
  | .routeRead b => some (.plan, 0x22#8, 1, b)
  | .hold p b => some (p, 0x28#8, 0, b)
  | .release p b => some (p, 0x29#8, releaseLength p, b)
  | .releaseInhibit b => some (.plan, 0x2A#8, 0, b)
  | .trailRead b => some (.plan, 0x30#8, 1, b)
  | .trailClear b => some (.plan, 0x31#8, 0, b)
  | .returnStart p b => some (p, 0x32#8, 0, b)
  | .returnCancel p b => some (p, 0x33#8, 0, b)
  | .beaconSlot b => some (.plan, 0x38#8, 6, b)
  | .mapSave b => some (.plan, 0x40#8, 2, b)
  | .mapLoad b => some (.plan, 0x41#8, 1, b)
  | .storeStatus b => some (.plan, 0x42#8, 0, b)
  | .loadMode b => some (.power, 0x48#8, 1, b)
  | .docked b => some (.power, 0x4A#8, 0, b)
  | .undocked b => some (.power, 0x4B#8, 0, b)
  | .unknownRequest p code b =>
    if (requestCodes p).contains code.toNat then none else some (p, code, b.length, b)
  | _ => none

/-! ## The law of motion (R86) -/

/-- The conditions under which a permit may be active: the pose TRACKING, no hold, the Map Store not in LOAD. -/
abbrev Hub.mayMove (h : Hub) : Prop := h.tracking = true ∧ h.permit.holds.empty = true ∧ h.loading = false

/-- A permit is active exactly in MOVING (a NORMAL one) and PROBING (a PROBE). -/
abbrev PermitCtl.activeMatches (p : PermitCtl) : Prop :=
  (p.active = none → p.state ≠ .moving ∧ p.state ≠ .probing)
  ∧ ∀ r ∈ p.active, (p.state = .moving ∧ r.kind = .normal) ∨ (p.state = .probing ∧ r.kind = .probe)

/-- A check is in flight in STILL, MOVING and PROBING alone. -/
abbrev PermitCtl.checkMatches (p : PermitCtl) : Prop :=
  p.check.isSome = true → p.state = .still ∨ p.state = .moving ∨ p.state = .probing

/-- The law of R86 with what carries it: the permit state is never MOVING or PROBING while the hold set is not empty,
the pose is not TRACKING or the Map Store is in LOAD; a check is in flight under the same conditions alone; the expiry
timer runs exactly while a permit is active, the stop timer exactly in STOPPING; a recheck judges an active permit. -/
abbrev Hub.permitLaw (h : Hub) : Prop :=
  h.permit.activeMatches
  ∧ h.permit.checkMatches
  ∧ (h.permit.active.isSome = true ∨ h.permit.check.isSome = true → h.mayMove)
  ∧ (h.permit.recheck.isSome = true ∨ h.permit.recheckPending = true → h.permit.active.isSome = true)
  ∧ h.permit.expiry.isSome = h.permit.active.isSome
  ∧ (h.permit.stopTimer.isSome = true ↔ h.permit.state = .stopping)

/-! ## The law of capacities (R49, R86, R123, R137, R143, R158, R188, R190) -/

/-- Nothing the hub counts or keeps exceeds its capacity: 40 records and 640 bytes of evidence, 16 waypoints, 128
crumbs, four waiting frames behind one being sent, 8 consecutive bad frames, 3 fallbacks, 7 inversions of an eye. -/
abbrev Hub.capacityLaw (h : Hub) : Prop :=
  h.queue.count ≤ 40 ∧ h.queue.bytes ≤ 640 ∧ h.route.waypoints.length ≤ 16 ∧ h.trail.crumbs.length ≤ 128
  ∧ h.drive.waiting.length ≤ 4 ∧ (h.drive.sending = none → h.drive.waiting = [])
  ∧ h.drive.badRun ≤ 8 ∧ h.dock.fallbacks ≤ 3 ∧ h.beacon.left.inversions ≤ 7 ∧ h.beacon.right.inversions ≤ 7

/-! ## The law of time (R26, R27) -/

/-- The Time Base stays within its ranges: a dither position 0..124, fewer reference periods than the millisecond at
it lasts, a 32-bit millisecond count and a 16-bit seconds count. -/
abbrev TimeBase.law (t : TimeBase) : Prop :=
  t.dither < 125 ∧ t.refs < millisecondPeriods t.dither ∧ t.ms < 4294967296 ∧ t.secs ≤ 65535

/-! ## The law of the table (R1, R3, R7, R10) -/

/-- The slots in their one form: slot numbers strictly rising and below 1024. -/
abbrev SlotMap.wf (m : SlotMap) : Prop := m.Pairwise (fun a b => a.1 < b.1) ∧ ∀ p ∈ m, p.1 < 1024

/-- No two SENSED entries share a floor and a tile (R7). -/
abbrev SlotMap.sensedUnique (m : SlotMap) : Prop :=
  ∀ p ∈ m, ∀ q ∈ m, p.2.origin = .sensed → q.2.origin = .sensed → p.2.floor = q.2.floor → p.2.x0 = q.2.x0 →
    p.2.y0 = q.2.y0 → p.1 = q.1

/-- An entry a MAP_PUT in service holds is a PLANNED entry of R1. -/
def PlanSlot.entryGood : PlanSlot → Bool
  | .inService (.put e) => e.legal && decide (e.origin = .planned)
  | _ => true

/-- An entry whose insertion waits is an entry of R1. -/
def StorePhase.entryGood : StorePhase → Bool
  | .load op =>
    match op.step with
    | .insert _ e => e.legal
    | _ => true
  | _ => true

/-- Every tile an item of evidence may name lies on the world (R47): those of the records, of the item under way, and
the wheels' contact and noted tiles from which a PASS_OVER is made. -/
abbrev Hub.evidenceTiles (h : Hub) : Prop :=
  (∀ r ∈ h.queue.records, ∀ i ∈ r.items, i.tile.all Tile.onWorld = true)
  ∧ (∀ w ∈ h.updater.work, ∀ i ∈ w.items, i.tile.all Tile.onWorld = true)
  ∧ h.odo.left.contact.all Tile.onWorld = true ∧ h.odo.right.contact.all Tile.onWorld = true
  ∧ h.odo.left.noted.all Tile.onWorld = true ∧ h.odo.right.noted.all Tile.onWorld = true

/-- The law of R7 and R3: at most 1024 entries, each as R1 has it (a SENSED one 1×1 with a confidence of 1..15, a
PLANNED one of confidence 15 and pinned), no two SENSED ones on one floor and tile; with what carries it. -/
abbrev Hub.tableLaw (h : Hub) : Prop :=
  h.table.slots.wf ∧ h.table.slots.sensedUnique ∧ (∀ p ∈ h.table.slots, p.2.legal = true)
  ∧ h.plan.slot.entryGood = true ∧ h.store.phase.entryGood = true ∧ h.evidenceTiles ∧ h.time.secs ≤ 65535

end Sys2Proof.Machine
end

