-- ==== Sys2Proof/Certificates/Slice0/Obligations.lean ====
section
/-!
DEFINITION. The statements for the provers. `Runs i s h` says that the command answers a next state: the hub `h` with
the queue as it was. Outside the cold-start reset every statement about a command assumes `s.hub.inReset = false`.
-/

open Sys2Proof Sys2Proof.Machine

/-! ## The step, the resets and time -/

/-- A step with a command at the front of the queue is that command's execution with the queue's rest. -/
def Obligations.StepRunsFrontCommand : Prop :=
  ∀ (c : Instr) (s : State), step { s with pending := c :: s.pending } = exec c s

/-- With nothing waiting, a step is one period of the reference clock (log 3): the period is counted, and the last of
the millisecond at the dither position ends it; held in cold-start reset, nothing runs. From the start of a division
cycle 4096 reference periods count exactly 125 milliseconds, and the cycle begins anew. MILLISECOND_END: the
millisecond count advances by 1 modulo 2^32, the dither position by 1 modulo 125, a new millisecond begins, and a
count that comes to a whole multiple of 1000 advances the saturating seconds count. Nothing else changes. -/
def Obligations.ReferencePeriodsMakeMilliseconds : Prop :=
  (∀ s : State, s.pending = [] →
      (s.hub.inReset = true → step s = .next s)
      ∧ (s.hub.inReset = false → s.hub.time.refs + 1 < millisecondPeriods s.hub.time.dither →
          step s = .next { s with hub.time.refs := s.hub.time.refs + 1 })
      ∧ (s.hub.inReset = false → millisecondPeriods s.hub.time.dither ≤ s.hub.time.refs + 1 →
          step s = .next { s with hub.time := s.hub.time.endMillisecond }))
  ∧ (∀ t : TimeBase, t.dither = 0 → t.refs = 0 → t.ms < 4294967296 →
      let u := (TimeBase.tick)^[4096] t
      u.ms = (t.ms + 125) % 4294967296 ∧ u.dither = 0 ∧ u.refs = 0)
  ∧ ∀ s : State, s.hub.inReset = false →
      Runs .millisecondEnd s
        { s.hub with
          time :=
            { ms := (s.hub.time.ms + 1) % 4294967296
              dither := (s.hub.time.dither + 1) % 125
              refs := 0
              secs :=
                if (s.hub.time.ms + 1) % 4294967296 % 1000 = 0 then min (s.hub.time.secs + 1) 65535
                else s.hub.time.secs } }

/-- COLD_START: a supply below 2.85 V or NRST low holds the hub in cold-start reset with every block in its cold-start
state, DRV_INH asserted, both attention lines released; the flash keeps its content when no erase or program was under
way, and else what lies outside the range of the one cut, which leaves no whole marker. When the command acts, and
what becomes of the flash's free bytes, is the model's choice (log 21, log 26). COLD_START_RESET_END: with VDD above
2.90 V and NRST high the reset ends with every block in its cold-start state and the Map Store in LOAD on the start-up
load of all four floors, which begins with a read of status; DRV_INH stays asserted. While the hub is held in
cold-start reset no command but the reset's end has an effect. -/
def Obligations.ColdStartHoldsAndReleasesTheHub : Prop :=
  (∀ (s : State) (vdd : Nat) (nrst : Bool), s.hub.inReset = false → vdd < 2850 ∨ nrst = false →
      ∃ h : Hub, Runs (.coldStart vdd nrst) s h
        ∧ h = { Hub.cold h.flash h.freeDraws with inReset := true }
        ∧ h.driveInhibit = true ∧ h.planAttn = false ∧ h.powerAttn = false
        ∧ (s.hub.store.underWay = none → h.flash = s.hub.flash ∧ h.freeDraws = s.hub.freeDraws)
        ∧ (∀ c, s.hub.store.underWay = some c →
            h.freeDraws = s.hub.freeDraws + 1
            ∧ (∀ a, a < c.range.1 ∨ c.range.1 + c.range.2 ≤ a → h.flash.read a = s.hub.flash.read a)
            ∧ (c = .pageProgram 0 imageMarker → s.hub.flash.wf = true → h.flash.bytes 0 4 ≠ imageMarker)))
  ∧ (∀ (s : State) (vdd : Nat), s.hub.inReset = true → 2900 < vdd →
      ∃ h : Hub, Runs (.coldStartResetEnd vdd true) s h
        ∧ h = { Hub.cold s.hub.flash s.hub.freeDraws with store := h.store }
        ∧ h.store = { (Hub.cold s.hub.flash s.hub.freeDraws).store with
            phase := .load .startUpLoad, linkOut := [[0x05#8]] }
        ∧ h.driveInhibit = true ∧ h.inReset = false)
  ∧ ∀ (s : State) (c : Instr), s.hub.inReset = true → (∀ vdd nrst, c ≠ .coldStartResetEnd vdd nrst) →
      exec c s = .next s

/-! ## Timers -/

/-- LIFT_TIMER_EXPIRY and SET_DOWN_TIMER_EXPIRY: the pose becomes LIFTED with LIFTED set on both ports, or, from
LIFTED, LOST with cause LIFT and POSE_LOST set. Each entry makes the slip pile none, cancels noted tiles, contact
tiles and lookups, stops the block's posting and ends an active permit by POSE_LOST; position, heading and table stay.
-/
def Obligations.LiftAndSetDownExpiriesMoveThePoseState : Prop :=
  ∀ (s : State) (i : Instr), s.hub.inReset = false →
    (i = .liftTimerExpiry ∧ s.hub.lines.lift.due s.hub.time.ms = true)
      ∨ (i = .setDownTimerExpiry ∧ s.hub.lines.setDown.due s.hub.time.ms = true ∧ s.hub.odo.pose = .lifted) →
    ∃ h : Hub, Runs i s h
      ∧ (i = .liftTimerExpiry →
          h.odo.pose = .lifted ∧ h.lines.lift = none ∧ h.planHas .lifted = true ∧ h.powerHas .lifted = true)
      ∧ (i = .setDownTimerExpiry →
          h.odo.pose = .lost .lift ∧ h.lines.setDown = none ∧ h.planHas .poseLost = true)
      ∧ h.odo.slip = none ∧ h.load.rug = false ∧ h.odo.left = ⟨none, none⟩ ∧ h.odo.right = ⟨none, none⟩
      ∧ (∀ l ∈ h.odo.lookups, l.discard = true) ∧ h.odo.centreAgain = false ∧ h.scanner.block.posting = false
      ∧ (s.hub.permit.state = .moving ∨ s.hub.permit.state = .probing →
          h.permit.state = .stopping ∧ h.permit.active = none ∧ h.permit.check = none
          ∧ h.permit.lastStop = some .poseLost)
      ∧ h.odo.x = s.hub.odo.x ∧ h.odo.y = s.hub.odo.y ∧ h.odo.heading = s.hub.odo.heading
      ∧ h.odo.floor = s.hub.odo.floor ∧ h.table = s.hub.table ∧ h.queue = s.hub.queue ∧ h.route = s.hub.route
      ∧ h.trail = s.hub.trail ∧ h.dock = s.hub.dock

/-- PERMIT_EXPIRY in MOVING or PROBING: the stop sequence with cause LAPSED. The permit, its expiry timer, a check and
a recheck end; a check is answered REFUSE LAPSED before the STOP frame; STOP_ISSUED is set, the stop timer runs for
250 ms and the state is STOPPING. Holds, counters of other blocks and every other block stay. That the abandoned
check's reply says brush lift no is the model's reading (log 30). -/
def Obligations.PermitExpiryStartsTheStopSequence : Prop :=
  ∀ s : State, s.hub.inReset = false → s.hub.permit.expiry.due s.hub.time.ms = true →
    s.hub.permit.state = .moving ∨ s.hub.permit.state = .probing →
    ∃ h : Hub, Runs .permitExpiry s h
      ∧ h.permit =
          { s.hub.permit with
            state := .stopping, active := none, expiry := none, recheck := none, recheckPending := false, check := none
            lastStop := some .lapsed, stopTimer := some ⟨s.hub.time.ms, 250⟩ }
      ∧ h.planHas .stopIssued = true
      ∧ (s.hub.permit.check = none → h.drive = (s.hub.send (.stop .lapsed)).drive ∧ h.att.refusals = s.hub.att.refusals)
      ∧ (∀ c, s.hub.permit.check = some c →
          h.drive = ((s.hub.refuse c.ask.seq .lapsed false).send (.stop .lapsed)).drive
          ∧ h.att.refusals = s.hub.att.refusals.modify 11 sat8)
      ∧ { h with permit := s.hub.permit, drive := s.hub.drive, att := s.hub.att } = s.hub

/-- STOP_TIMER_EXPIRY in STOPPING: the state becomes INHIBITED, which asserts DRV_INH, the drive-stopped indication
becomes no, the stop-timeout count rises by 1 up to 255, and INHIBITED is set on both ports. No frame is formed and
nothing else changes. -/
def Obligations.StopTimerExpiryInhibits : Prop :=
  ∀ s : State, s.hub.inReset = false → s.hub.permit.stopTimer.due s.hub.time.ms = true →
    s.hub.permit.state = .stopping →
    ∃ h : Hub, Runs .stopTimerExpiry s h
      ∧ h.permit =
          { s.hub.permit with
            state := .inhibited, driveStopped := false, stopTimer := none
            stopTimeouts := min (s.hub.permit.stopTimeouts + 1) 255 }
      ∧ h.driveInhibit = true
      ∧ h = Hub.setPower .inhibited (Hub.setPlan .inhibited { s.hub with permit := h.permit })

/-- LEASE_TIMER_EXPIRY: the lease is LAPSED and LEASE_LAPSED set. With return on lapse off the LEASE hold is placed.
With it on, a return in progress goes on untouched; else a return start is offered: accepted, the route is flushed and
the return begins without a hold; refused, the LEASE hold is placed. -/
def Obligations.LeaseExpiryHoldsOrSendsHome : Prop :=
  ∀ s : State, s.hub.inReset = false → s.hub.route.leaseTimer.due s.hub.time.ms = true →
    ∃ h : Hub, Runs .leaseTimerExpiry s h
      ∧ h.route.lease = .lapsed ∧ h.route.leaseTimer = none ∧ h.planHas .leaseLapsed = true
      ∧ (s.hub.limits.returnOnLapse = false →
          h.permit.holds = { s.hub.permit.holds with lease := true } ∧ h.dock = s.hub.dock
          ∧ h.route.waypoints = s.hub.route.waypoints)
      ∧ (s.hub.limits.returnOnLapse = true →
          s.hub.dock.state = .trail ∨ s.hub.dock.state = .approach ∨ s.hub.dock.state = .docking →
          h.permit = s.hub.permit ∧ h.dock = s.hub.dock ∧ h.route.waypoints = s.hub.route.waypoints)
      ∧ (s.hub.limits.returnOnLapse = true →
          s.hub.dock.state = .idle ∨ s.hub.dock.state = .docked ∨ s.hub.dock.state = .failed →
          (s.hub.returnStatus = .done →
            h.permit = s.hub.permit ∧ h.route.waypoints = [] ∧ h.planHas .routeEmpty = true ∧ h.dock.fallbacks = 0
            ∧ (h.dock.state = .trail ∨ h.dock.state = .approach ∨ h.dock.state = .docking)
            ∧ h.planHas .returnChanged = true ∧ h.powerHas .returnChanged = true)
          ∧ (s.hub.returnStatus ≠ .done →
            h.permit.holds = { s.hub.permit.holds with lease := true } ∧ h.dock = s.hub.dock
            ∧ h.route.waypoints = s.hub.route.waypoints))
      ∧ h.table = s.hub.table ∧ h.odo = s.hub.odo ∧ h.trail = s.hub.trail ∧ h.queue = s.hub.queue

/-- SAG_CLEAR_EXPIRY removes SAG and stops its timer. While another cause remains, or SAG was absent, nothing else
changes; the set that becomes empty exits heavy-load mode: the scanner's pending mode is normal and HEAVY_LOAD is set
on both ports. -/
def Obligations.SagClearExpiryRemovesSag : Prop :=
  ∀ s : State, s.hub.inReset = false → s.hub.load.sagTimer.due s.hub.time.ms = true →
    ∃ h : Hub, Runs .sagClearExpiry s h
      ∧ h.load = { s.hub.load with sag := false, sagTimer := none }
      ∧ (s.hub.load.power = true ∨ s.hub.load.rug = true ∨ s.hub.load.sag = false →
          h = { s.hub with load := h.load })
      ∧ (s.hub.load.power = false → s.hub.load.rug = false → s.hub.load.sag = true →
          h = Hub.setPower .heavyLoad
            (Hub.setPlan .heavyLoad { s.hub with load := h.load, scanner.pendingAveraged := false }))

/-- DOCKING_TIMER_EXPIRY in DOCKING: the fallback count rises by 1; at 3 the return has FAILED; below it a usable dock
record sends the return back to APPROACH, which its entry tests may at once make DOCKING again, and without one the
state stays DOCKING, the timer runs for another 10,000 ms and no flag is set. SIGHTING_FRESHNESS_EXPIRY: the eye keeps
its sighting, which is no longer fresh; in DOCKING, when no fresh sighting is left on either eye, the docking timer
starts for 10,000 ms. Nothing else changes. -/
def Obligations.DockingAndFreshnessExpiries : Prop :=
  (∀ s : State, s.hub.inReset = false → s.hub.dock.timer.due s.hub.time.ms = true → s.hub.dock.state = .docking →
      s.hub.dock.fallbacks < 3 →
      ∃ h : Hub, Runs .dockingTimerExpiry s h
        ∧ h.dock.fallbacks = s.hub.dock.fallbacks + 1 ∧ h.dock.record = s.hub.dock.record
        ∧ (s.hub.dock.fallbacks + 1 = 3 → h.dock.state = .failed ∧ h.dock.timer = none
            ∧ h.planHas .returnChanged = true ∧ h.powerHas .returnChanged = true)
        ∧ (s.hub.dock.fallbacks + 1 < 3 → s.hub.dockUsable = true →
            h.planHas .returnChanged = true ∧ h.powerHas .returnChanged = true
            ∧ (((s.hub.tracking = true ∧ s.hub.within s.hub.dock.record.approach 150 = true)
                  ∨ s.hub.freshOf .centre = true) → h.dock.state = .docking)
            ∧ (¬ ((s.hub.tracking = true ∧ s.hub.within s.hub.dock.record.approach 150 = true)
                  ∨ s.hub.freshOf .centre = true) → h.dock.state = .approach ∧ h.dock.timer = none))
        ∧ (s.hub.dock.fallbacks + 1 < 3 → s.hub.dockUsable = false →
            h.dock.state = .docking ∧ h.dock.timer = some ⟨s.hub.time.ms, 10000⟩ ∧ h.att = s.hub.att)
        ∧ { h with dock := s.hub.dock, att := s.hub.att } = s.hub)
  ∧ ∀ (s : State) (eye : Side), s.hub.inReset = false → (s.hub.beacon.eye eye).fresh.due s.hub.time.ms = true →
      ∃ h : Hub, Runs (.sightingFreshnessExpiry eye) s h
        ∧ h.beacon = s.hub.beacon.setEye eye { s.hub.beacon.eye eye with fresh := none }
        ∧ (s.hub.dock.state = .docking → h.freshSighting = false →
            h.dock = { s.hub.dock with timer := some ⟨s.hub.time.ms, 10000⟩ })
        ∧ (s.hub.dock.state ≠ .docking ∨ h.freshSighting = true → h.dock = s.hub.dock)
        ∧ { h with beacon := s.hub.beacon, dock := s.hub.dock } = s.hub

/-! ## The Drive link -/

/-- ASK, on a receiver that can take its frame: with the ticks applied and a check in flight superseded, the first
test of R88 that applies gives the refusal, and nothing else comes of the ask. That the ticks come before the check
superseded is the model's reading (log 13), and so are brush lift no in these refusals (log 30), the recheck's turn as
a check starts (log 28) and the receiver's place (log 19). ASK whose fields pass every test, in STILL, MOVING or
PROBING, TRACKING, without a hold and outside LOAD, after its ticks: a check starts from the pose that includes them.
While its sweep has a claim to make it is in flight with that pose, the settings and the ceiling latched, and an
active permit stays; a sweep without a claim concludes at once. -/
def Obligations.AskMeetsItsTestsInOrder : Prop :=
  (∀ (s : State) (a : AskFrame), s.hub.inReset = false → s.hub.drive.rx.readyFor .ask = true →
      let h := (s.hub.frameTaken.takeTicks a).abandonCheck .superseded
      let fields := askTicksLegal a && askLegal a
      (fields = false → Runs (.ask a) s (h.refuse a.seq .malformed false))
      ∧ (fields = true → h.permit.state = .stopping → Runs (.ask a) s (h.refuse a.seq .stopping false))
      ∧ (fields = true → h.permit.state = .inhibited → Runs (.ask a) s (h.refuse a.seq .inhibited false))
      ∧ (fields = true → h.permit.state ≠ .stopping → h.permit.state ≠ .inhibited →
          (h.loading = true → Runs (.ask a) s (h.refuse a.seq .loading false))
          ∧ (h.loading = false → h.odo.pose ≠ .tracking → Runs (.ask a) s (h.refuse a.seq .noPose false))
          ∧ (h.loading = false → h.odo.pose = .tracking → h.permit.holds.empty = false →
              Runs (.ask a) s (h.refuse a.seq .held false))))
  ∧ ∀ (s : State) (a : AskFrame), s.hub.inReset = false → s.hub.drive.rx.readyFor .ask = true →
      askTicksLegal a = true → askLegal a = true →
      let h := (s.hub.frameTaken.takeTicks a).abandonCheck .superseded
      h.permit.state ≠ .stopping → h.permit.state ≠ .inhibited → h.mayMove →
      let c := h.newCheck a false
      ∃ t : Hub, Runs (.ask a) s t
        ∧ c.ask = a ∧ c.stale = false
        ∧ c.latch = h.latch a
        ∧ c.speed.natAbs ≤ h.ceiling a.speedMm
        ∧ (a.speedMm.natAbs ≤ h.ceiling a.speedMm → c.speed = a.speedMm ∧ c.turn = a.turnDeg)
        ∧ (c.sweep.claim.isSome = true → t = { h with permit.check := some c, permit.recheckTurn := .recheck })
        ∧ (c.sweep.claim = none → t = Hub.concludeCheck c { h with permit.recheckTurn := .recheck })

/-- ASK in TRACKING with legal ticks moves the pose before its check; equal tick counts at a heading along an axis
move it along that axis by the travel of the ticks, rounded to the nearest micrometre with halves away from zero, and
both coordinates are limited to 32 bits. A pose outside the valid range is LOST with cause RANGE. A pose inside it
stays TRACKING, and its update sets off the rest: a head of the route within its radius is removed and counted, with
STOP_AT placing the ROUTE hold, which stops a permit; in IDLE the oldest near crumb that is not among the four newest
becomes the newest, or else the push test is made; in TRAIL near crumbs leave from the newest on; in APPROACH the
approach point reached makes it DOCKING; each wheel whose contact tile changes leaves its noted tile in one PASS_OVER
record and starts a lookup; a centre-tile lookup starts, or follows the one in progress. The model's choices: the
order among these (log 13) and the receiver's place (log 19); that a lookup of the wheel's former contact tile, also
one that still waits, stays in the list with its result to be discarded (log 35), and that a lookup of a tile with no
SENSED entry stands in the list too (log 8); that an update which ends LOST makes none of these tests (log 39). -/
def Obligations.AskTicksMoveThePose : Prop :=
  (∀ (s : State) (a : AskFrame), s.hub.inReset = false → s.hub.drive.rx.readyFor .ask = true →
      s.hub.tracking = true → askTicksLegal a = true →
      let p := s.hub.movedPose a.leftCount a.rightCount
      ∃ h : Hub, Runs (.ask a) s h ∧ h.odo.x = p.x ∧ h.odo.y = p.y ∧ h.odo.heading = p.heading
        ∧ h.table.slots = s.hub.table.slots
        ∧ (∀ n, a.leftCount = n → a.rightCount = n →
            let d := roundDiv (2 * n * s.hub.sensors.tickLength * slipFactor s.hub.odo.slip * 1000) 131072
            (s.hub.odo.heading = 0 → h.pose = ⟨limit32 (s.hub.odo.x + d), limit32 s.hub.odo.y, 0⟩)
            ∧ (s.hub.odo.heading = 16384 → h.pose = ⟨limit32 s.hub.odo.x, limit32 (s.hub.odo.y + d), 16384⟩)
            ∧ (s.hub.odo.heading = 32768 → h.pose = ⟨limit32 (s.hub.odo.x - d), limit32 s.hub.odo.y, 32768⟩)
            ∧ (s.hub.odo.heading = 49152 → h.pose = ⟨limit32 s.hub.odo.x, limit32 (s.hub.odo.y - d), 49152⟩))
        ∧ ((inRange p.x && inRange p.y) = false →
            h.odo.pose = .lost .range ∧ h.odo.rangeSet = true ∧ h.planHas .poseLost = true
            ∧ h.route = s.hub.route ∧ h.trail = s.hub.trail ∧ h.dock = s.hub.dock)
        ∧ ((inRange p.x && inRange p.y) = true →
            h.odo.pose = .tracking ∧ h.odo.rangeSet = s.hub.odo.rangeSet ∧ h.odo.floor = s.hub.odo.floor
            ∧ (∀ side, h.odo.wheel side =
                (if p.contactTile s.hub.sensors.wheelBase side = (s.hub.odo.wheel side).contact then s.hub.odo.wheel side
                else ⟨p.contactTile s.hub.sensors.wheelBase side, none⟩))))
  ∧ (∀ (s : State) (a : AskFrame), s.hub.inReset = false → s.hub.drive.rx.readyFor .ask = true →
      s.hub.tracking = true → askTicksLegal a = true →
      let p := s.hub.movedPose a.leftCount a.rightCount
      (inRange p.x && inRange p.y) = true →
      let reached (w : Waypoint) : Prop := p.distSq ⟨1000 * w.x, 1000 * w.y⟩ ≤ (1000 * w.radius) ^ 2
      ∃ h : Hub, Runs (.ask a) s h
        ∧ (s.hub.route.waypoints = [] → h.route = s.hub.route)
        ∧ (∀ w rest, s.hub.route.waypoints = w :: rest → ¬ reached w →
            h.route = s.hub.route ∧ h.permit.holds = s.hub.permit.holds)
        ∧ (∀ w rest, s.hub.route.waypoints = w :: rest → reached w → w.stopAt = true →
            h.route = { s.hub.route with waypoints := rest, advances := (s.hub.route.advances + 1) % 65536 }
            ∧ h.planHas .routeAdvanced = true ∧ (rest = [] → h.planHas .routeEmpty = true)
            ∧ h.permit.holds = { s.hub.permit.holds with route := true }
            ∧ (s.hub.permit.holds.route = false →
                s.hub.permit.state = .moving ∨ s.hub.permit.state = .probing →
                h.permit.state = .stopping ∧ h.permit.lastStop = some .hold ∧ h.planHas .stopIssued = true))
        ∧ (∀ w rest, s.hub.route.waypoints = w :: rest → reached w → w.stopAt = false → (∀ v ∈ rest.head?, ¬ reached v) →
            h.route = { s.hub.route with waypoints := rest, advances := (s.hub.route.advances + 1) % 65536 }
            ∧ h.planHas .routeAdvanced = true ∧ (rest = [] → h.planHas .routeEmpty = true)
            ∧ h.permit.holds = s.hub.permit.holds))
  ∧ (∀ (s : State) (a : AskFrame), s.hub.inReset = false → s.hub.drive.rx.readyFor .ask = true →
      s.hub.tracking = true → askTicksLegal a = true →
      let p := s.hub.movedPose a.leftCount a.rightCount
      (inRange p.x && inRange p.y) = true →
      let near (c : Crumb) : Bool := decide (p.distSq ⟨1000 * c.x, 1000 * c.y⟩ ≤ 150000 ^ 2)
      let old := s.hub.trail.crumbs
      ∃ h : Hub, Runs (.ask a) s h
        ∧ (s.hub.dock.state = .idle → h.dock = s.hub.dock
            ∧ (∀ i c, old[i]? = some c → i + 4 < old.length → near c = true →
                (∀ j b, old[j]? = some b → j < i → near b = false) →
                h.trail = { s.hub.trail with crumbs := old.take (i + 1) })
            ∧ ((∀ i c, old[i]? = some c → i + 4 < old.length → near c = false) →
                ((∀ c ∈ old.getLast?, 400000 ^ 2 ≤ p.distSq ⟨1000 * c.x, 1000 * c.y⟩) →
                  h.trail.crumbs =
                      (if old.length < 128 then old else thinned old)
                        ++ [⟨worldMm p.x, worldMm p.y, p.heading, s.hub.odo.floor, s.hub.trail.pushCounter⟩]
                  ∧ h.trail.pushCounter = (s.hub.trail.pushCounter + 1) % 65536)
                ∧ (∀ c ∈ old.getLast?, p.distSq ⟨1000 * c.x, 1000 * c.y⟩ < 400000 ^ 2 → h.trail = s.hub.trail)))
        ∧ (s.hub.dock.state = .trail →
            let kept := (old.reverse.dropWhile near).reverse
            h.trail = { s.hub.trail with crumbs := kept } ∧ h.dock.record = s.hub.dock.record
            ∧ (kept ≠ [] → h.dock = s.hub.dock)
            ∧ (kept = [] → h.planHas .returnChanged = true ∧ h.powerHas .returnChanged = true
                ∧ (s.hub.dockUsable = false → h.dock.state = .docking)
                ∧ (s.hub.dockUsable = true → h.dock.state = .approach ∨ h.dock.state = .docking)))
        ∧ (s.hub.dock.state = .approach → s.hub.dockUsable = true → h.trail = s.hub.trail
            ∧ (p.distSq s.hub.dock.record.approach ≤ 150000 ^ 2 →
                h.dock.state = .docking ∧ h.planHas .returnChanged = true ∧ h.powerHas .returnChanged = true)
            ∧ (150000 ^ 2 < p.distSq s.hub.dock.record.approach → s.hub.freshOf .centre = false →
                h.dock = s.hub.dock)))
  ∧ ∀ (s : State) (a : AskFrame), s.hub.inReset = false → s.hub.drive.rx.readyFor .ask = true →
      s.hub.tracking = true → askTicksLegal a = true →
      let p := s.hub.movedPose a.leftCount a.rightCount
      (inRange p.x && inRange p.y) = true →
      let leaves (side : Side) : Prop := p.contactTile s.hub.sensors.wheelBase side ≠ (s.hub.odo.wheel side).contact
      let item (side : Side) : List Item :=
        if p.contactTile s.hub.sensors.wheelBase side = (s.hub.odo.wheel side).contact then []
        else ((s.hub.odo.wheel side).noted.map (Item.passOver side)).toList
      let items := item .left ++ item .right
      ∃ h : Hub, Runs (.ask a) s h
        ∧ (∀ side t, leaves side → p.contactTile s.hub.sensors.wheelBase side = some t → s.hub.dropped side = false →
            ⟨.wheel side, t, false, none⟩ ∈ h.odo.lookups)
        ∧ (∀ side, leaves side → ∀ l ∈ s.hub.odo.lookups, l.what = .wheel side →
            { l with discard := true } ∈ h.odo.lookups)
        ∧ (∀ t, p.centreTile = some t → (∀ l ∈ s.hub.odo.lookups, l.what ≠ .centre) →
            ⟨.centre, t, false, none⟩ ∈ h.odo.lookups ∧ h.odo.centreAgain = s.hub.odo.centreAgain)
        ∧ (∀ t l, p.centreTile = some t → l ∈ s.hub.odo.lookups → l.what = .centre →
            { l with discard := true } ∈ h.odo.lookups ∧ h.odo.centreAgain = true)
        ∧ (items = [] → h.queue = s.hub.queue)
        ∧ (items ≠ [] → s.hub.updater.work.isSome = true ∨ s.hub.loading = true → s.hub.queue.count + 1 ≤ 40 →
            s.hub.queue.bytes + 8 + 6 * items.length ≤ 640 →
            h.queue.records =
              s.hub.queue.records ++ [⟨.passOver, s.hub.floor, s.hub.time.ms, .odometryUnit, items⟩])

/-- A good frame of the Drive link finds or makes the link UP, with no consecutive bad frame counted; STOP_DONE then
acts by permit state: STOPPING becomes STILL with the stop timer stopped, INHIBITED notes that the drive stands, and
the other states keep everything. That the receiver can take the frame, and hunts after it, is the model's reading of
section 10.3 (log 19). -/
def Obligations.StopDoneActsByPermitState : Prop :=
  ∀ s : State, s.hub.inReset = false → s.hub.drive.rx.readyFor .event = true →
    Runs .stopDone s
      { s.hub with
        drive := { s.hub.drive with up := true, badRun := 0, rx := .hunting false }
        permit :=
          match s.hub.permit.state with
          | .stopping => { s.hub.permit with stopTimer := none, state := .still }
          | .inhibited => { s.hub.permit with driveStopped := true }
          | .still => s.hub.permit
          | .moving => s.hub.permit
          | .probing => s.hub.permit }

/-- BRUSH_LOAD and, in TRACKING with the front point on the world, CLIMB offer one record made now on the active
floor. While the Map Updater is applying or the Map Store is in LOAD, the record joins the tail when it fits in 40
records and 640 bytes, and else raises the lost count and sets EVIDENCE_LOST with the queue as it was. An idle Map
Updater with an empty queue, outside LOAD, takes an arriving record at once: a CLIMB record waits with its apply
write; a BRUSH_LOAD record sets the current pile class, and waits with its write to the SENSED entry of the centre
tile or, with no such entry or outside TRACKING, is removed. What a good frame leaves of the link is section 10.3 as
log 19 reads it. -/
def Obligations.DriveEventsPostEvidence : Prop :=
  (∀ (s : State) (i : Instr) (r : Record), s.hub.inReset = false → s.hub.drive.rx.readyFor .event = true →
      s.hub.updater.work.isSome = true ∨ s.hub.loading = true →
      (∃ p, i = .brushLoad p ∧ r = ⟨.brushLoad, s.hub.floor, s.hub.time.ms, .driveLink, [.brushLoad p]⟩)
        ∨ (∃ t, i = .climb ∧ s.hub.tracking = true ∧ s.hub.pose.frontTile s.hub.limits.radius = some t
            ∧ r = ⟨.climb, s.hub.floor, s.hub.time.ms, .driveLink, [.climb t]⟩) →
      ∃ h : Hub, Runs i s h
        ∧ (s.hub.queue.count + 1 ≤ 40 → s.hub.queue.bytes + 14 ≤ 640 →
            h.queue.records = s.hub.queue.records ++ [r] ∧ h.queue.lost = s.hub.queue.lost)
        ∧ (40 < s.hub.queue.count + 1 ∨ 640 < s.hub.queue.bytes + 14 →
            h.queue = { s.hub.queue with lost := min (s.hub.queue.lost + 1) 65535 } ∧ h.planHas .evidenceLost = true)
        ∧ h.drive = { s.hub.drive with up := true, badRun := 0, rx := .hunting false }
        ∧ { h with queue := s.hub.queue, drive := s.hub.drive, att := s.hub.att } = s.hub)
  ∧ ∀ s : State, s.hub.inReset = false → s.hub.drive.rx.readyFor .event = true → s.hub.updater.work = none →
      s.hub.loading = false → s.hub.queue.records = [] →
      (∀ t, s.hub.tracking = true → s.hub.pose.frontTile s.hub.limits.radius = some t →
        ∃ h : Hub, Runs .climb s h
          ∧ h.queue.records = [⟨.climb, s.hub.floor, s.hub.time.ms, .driveLink, [.climb t]⟩]
          ∧ h.updater = { s.hub.updater with work := some ⟨[.climb t], .write⟩ } ∧ h.table = s.hub.table)
      ∧ (∀ p t slot, s.hub.tracking = true → s.hub.pose.centreTile = some t →
        s.hub.table.sensedAt s.hub.floor t = some slot →
        ∃ h : Hub, Runs (.brushLoad p) s h
          ∧ h.queue.records = [⟨.brushLoad, s.hub.floor, s.hub.time.ms, .driveLink, [.brushLoad p]⟩]
          ∧ h.updater = { s.hub.updater with pile := p, work := some ⟨[.brushLoad p], .brushWrite slot t⟩ }
          ∧ h.table = s.hub.table)
      ∧ (∀ p, s.hub.tracking = false
          ∨ (∀ t, s.hub.pose.centreTile = some t → s.hub.table.sensedAt s.hub.floor t = none) →
        ∃ h : Hub, Runs (.brushLoad p) s h ∧ h.queue.records = [] ∧ h.updater = { s.hub.updater with pile := p }
          ∧ h.table = s.hub.table)

/-- DRIVE_BAD_FRAME: characters whose last one makes a bad frame raise the error count up to 255 and the
consecutive-bad count; short of a break nothing else changes but the receiver's place. While UP, the eighth bad frame
in a row, or DL_RX held low, breaks the link: DOWN, hunting, the consecutive-bad count 0, a frame in progress
discarded and counted once more, and the permit state INHIBITED. While DOWN, a held line changes nothing. The
receiver's rules make a bad frame of a low stop bit, of a mark inside a frame, of an unknown type, of each run of
unmarked characters, of a wrong CRC-8, of an unknown event code and of a pile class out of range; where section 10.3
leaves the receiver's place open, log 19 says what the model does. The trigger LINK by permit state: a STOP with cause
LINK and STOP_ISSUED from MOVING, PROBING and STOPPING, none from STILL; INHIBITED with its flag on both ports; from
INHIBITED no effect. -/
def Obligations.BadFramesAreCountedAndBreakTheLink : Prop :=
  (∀ s : State, s.hub.inReset = false →
      let stopped (h : Hub) : Prop :=
        h.drive.up = false ∧ h.drive.badRun = 0 ∧ h.permit.state = .inhibited ∧ h.driveInhibit = true
        ∧ (s.hub.permit.state ≠ .inhibited → h.permit.check = none)
        ∧ h.permit.holds = s.hub.permit.holds ∧ h.permit.stopTimeouts = s.hub.permit.stopTimeouts
        ∧ h.table = s.hub.table ∧ h.queue = s.hub.queue ∧ h.odo = s.hub.odo ∧ h.route = s.hub.route
        ∧ h.trail = s.hub.trail ∧ h.dock = s.hub.dock
      let more (rx : DriveRx) (n : Nat) : Nat := if rx.inProgress then min (n + 1) 255 else n
      (∀ chars rx, s.hub.drive.rx.hear chars = some (rx, .bad) → s.hub.drive.up = false ∨ s.hub.drive.badRun < 7 →
        Runs (.driveBadFrame chars) s
          { s.hub with
            drive :=
              { s.hub.drive with
                errors := min (s.hub.drive.errors + 1) 255, badRun := min (s.hub.drive.badRun + 1) 8, rx := rx } })
      ∧ (∀ chars rx, s.hub.drive.rx.hear chars = some (rx, .bad) → s.hub.drive.up = true → 7 ≤ s.hub.drive.badRun →
        ∃ h : Hub, Runs (.driveBadFrame chars) s h ∧ stopped h ∧ h.drive.rx = rx.hunt
          ∧ h.drive.errors = more rx (min (s.hub.drive.errors + 1) 255))
      ∧ (∀ chars rx, s.hub.drive.rx.follow chars = some rx → s.hub.drive.up = true →
        ∃ h : Hub, Runs (.dlRxHeldLow chars) s h ∧ stopped h ∧ h.drive.rx = rx.hunt
          ∧ h.drive.errors = more rx s.hub.drive.errors)
      ∧ (∀ chars, s.hub.drive.up = false → Runs (.dlRxHeldLow chars) s s.hub))
  ∧ ((∀ (f g : LinkFrame) (got : List Byte) (c : LinkChar),
        (c.stop = false → (DriveRx.inFrame f got).take c = (.hunting false, some .bad))
        ∧ (c.stop = true → c.mark = true → c.data = g.type →
            (DriveRx.inFrame f got).take c = (.inFrame g [c.data], some .bad))
        ∧ (c.stop = true → c.mark = true → c.data ≠ 0xA1#8 → c.data ≠ 0xA2#8 →
            (DriveRx.inFrame f got).take c = (.hunting false, some .bad)))
    ∧ (∀ (run : Bool) (c : LinkChar),
        (c.mark = false → (DriveRx.hunting run).take c = (.hunting true, if run then none else some .bad))
        ∧ (c.mark = true → c.stop = false ∨ (c.data ≠ 0xA1#8 ∧ c.data ≠ 0xA2#8) →
            (DriveRx.hunting run).take c = (.hunting false, some .bad)))
    ∧ (∀ (run : Bool) (f : LinkFrame) (rest : List Byte), rest.length + 1 = f.length →
        rest.getLast? ≠ some (crc8 (f.type :: rest.dropLast)) →
        (DriveRx.hunting run).hear (linkChars (f.type :: rest)) = some (.hunting false, .bad))
    ∧ (∀ (run : Bool) (code argument : Byte),
        (code.toNat = 0 ∨ 3 < code.toNat) ∨ (code.toNat = 2 ∧ 2 < argument.toNat) →
        (DriveRx.hunting run).hear (linkChars (eventBytes code argument)) = some (.hunting false, .bad)))
  ∧ ∀ h : Hub,
      (h.permit.state = .inhibited → h.trigger .link = h)
      ∧ (h.permit.state = .still → h.permit.check = none →
          h.trigger .link
            = Hub.setPower .inhibited
              (Hub.setPlan .inhibited { h with permit.state := .inhibited, permit.driveStopped := false }))
      ∧ (h.permit.state = .moving ∨ h.permit.state = .probing ∨ h.permit.state = .stopping → h.permit.check = none →
          h.trigger .link
            = Hub.setPower .inhibited (Hub.setPlan .inhibited (Hub.setPlan .stopIssued
              { h.send (.stop .link) with
                permit :=
                  { h.permit with
                    state := .inhibited, driveStopped := false, active := none, expiry := none, recheck := none
                    recheckPending := false, stopTimer := none, lastStop := some .link } })))

/-! ## Checks, permits and rechecks -/

/-- The arbiter grants the Permit Controller before the Map Updater and the Odometry Unit, those before a Plan
request, and that before the Map Store. Where a check and a recheck both wait, their claims alternate: the one whose
turn it is (R100). Of two waiting at the second place it grants the Map Updater unless both have met before and the
Map Updater was granted last. Only a claimant with a claim to make is granted, and never while one of a higher place
waits; a unit that has been granted may not have made its next claim yet, and then the others are judged without it
(R16). A grant noted changes the arbiter's memory alone. The model's choices: what the second place remembers (log
27), whose turn it is between check and recheck (log 28), and that at most one other grant falls between two claims of
a unit (log 36). -/
def Obligations.ArbiterGrantsInItsOrder : Prop :=
  (∀ (h : Hub) (rest : Option Claimant), rest = none ∨ rest = h.table.resting →
      let check := (h.permit.check.bind (·.sweep.claim)).isSome && decide (rest ≠ some .check)
      let recheck := (h.permit.recheck.bind (·.claim)).isSome && decide (rest ≠ some .check)
      let updater := h.updater.work.isSome && decide (rest ≠ some .updater)
      let odometry := h.claimingLookup.isSome && decide (rest ≠ some .odometry)
      let plan := h.plan.slot.claims && decide (rest ≠ some .plan)
      let store := h.store.claims && decide (rest ≠ some .store)
      (check = true → recheck = false → h.grants .check = true)
      ∧ (check = false → recheck = true → h.grants .recheck = true)
      ∧ (check = true → recheck = true →
          h.grants (if h.permit.recheckTurn = .check then .check else .recheck) = true)
      ∧ (check = false → recheck = false →
          (updater = true → odometry = false → h.grants .updater = true)
          ∧ (updater = false → odometry = true → h.grants .odometry = true)
          ∧ (updater = true → odometry = true →
              h.grants (if h.table.metBefore = true ∧ h.table.lastSecond = some .updater then .odometry else .updater)
                = true)
          ∧ (updater = false → odometry = false →
              (plan = true → h.grants .plan = true)
              ∧ (plan = false → store = true → h.grants .store = true))))
  ∧ (∀ (h : Hub) (c : Claimant), h.grants c = true →
      let place : Claimant → Nat
        | .check => 1
        | .recheck => 1
        | .updater => 2
        | .odometry => 2
        | .plan => 3
        | .store => 4
      h.hasClaim c = true
      ∧ (∀ d, h.hasClaim d = true → place d < place c → h.table.resting = some d.unit)
      ∧ (∀ d, h.grants d = true → h.table.resting = none → d = c))
  ∧ ∀ (h : Hub) (c : Claimant),
      let more : Bool := match c with
        | .check => h.hasClaim .check || h.hasClaim .recheck
        | .recheck => h.hasClaim .check || h.hasClaim .recheck
        | c => h.hasClaim c
      h.afterGrant c = { h with table.resting := if more then some c.unit else none }

/-- A sweep claim of a check or a recheck that is not the sweep's last. A read of a PLANNED entry joins it to those
the sweep has read; the claim for the next PLANNED entry of the active floor waits, or after the last one the claim
for the SENSED entry of the first tile to examine. A read of a SENSED entry examines its tile with the PLANNED entries
read that cover it; where nothing blocks, the claim for the next tile's SENSED entry waits. Nothing else changes but
the turn and the arbiter's memory. The model's choices: that a slot whose entry has changed bears on nothing (log 9),
the turn after a claim (log 28), when the next claim comes (log 36), and that what it reads is settled as the claim
before it completes (log 42). -/
def Obligations.PlannedReadsComeInSlotOrder : Prop :=
  ∀ (s : State) (sw : Sweep), s.hub.inReset = false →
    let goesOn (next : Sweep) (passes : (Seen → Bool) → Prop) : Prop :=
      (∀ c, s.hub.permit.check = some c → s.hub.grants .check = true → c.sweep = sw →
        passes (fun t => (c.blocked t).isSome) →
        Runs .checkSweepClaim s
          { s.hub with
            permit.check := some { c with sweep := next }
            permit.recheckTurn := .recheck, table.resting := some .check })
      ∧ (∀ p, s.hub.permit.active = some p → s.hub.permit.recheck = some sw → s.hub.grants .recheck = true →
        passes p.triggers →
        Runs .recheckClaim s
          { s.hub with
            permit.recheck := some next
            permit.recheckTurn := if s.hub.permit.check.isSome then .check else s.hub.permit.recheckTurn
            table.resting := some .check })
    (∀ slot e, sw.claim = some (.planned slot) → s.hub.table.slots.entry slot = some e → e.origin = .planned →
      e.floor = s.hub.floor →
      (∀ next, s.hub.table.nextPlanned s.hub.floor (slot + 1) = some next →
        goesOn { sw with planned := sw.planned ++ [e], claim := some (.planned next) } fun _ => True)
      ∧ (∀ f rest next, s.hub.table.nextPlanned s.hub.floor (slot + 1) = none → sw.firstBlocking = none →
        sw.toExamine = f :: rest → f.offWorld = false → s.hub.table.sensedAt s.hub.floor f.tile = some next →
        goesOn { sw with planned := sw.planned ++ [e], claim := some (.sensed next) } fun _ => True))
    ∧ (∀ slot e f g rest next, sw.claim = some (.sensed slot) → s.hub.table.slots.entry slot = some e →
      e.sensedOn s.hub.floor f.tile = true → sw.firstBlocking = none → sw.toExamine = f :: g :: rest →
      g.offWorld = false → s.hub.table.sensedAt s.hub.floor g.tile = some next →
      let seen : Seen := ⟨f, e :: if f.offWorld then [] else sw.planned.filter (·.covers f.tile)⟩
      goesOn { sw with seen := sw.seen ++ [seen], toExamine := g :: rest, claim := some (.sensed next) } fun blocks =>
        blocks seen = false)

/-- CHECK_SWEEP_CLAIM whose read ends the sweep. A check that is not stale concludes: a granting outcome forms its
PERMIT, replaces the permit record with nothing travelled, starts the expiry timer for the granted horizon, makes the
state MOVING, or PROBING for a probe, and drops a recheck; a refusal forms its reply, counts its reason and leaves
permit state and active permit. A stale one restarts, latching anew, and concludes at once if its new sweep has no
claim to make. A notification marks a check in flight stale, and abandons a restarted one with REFUSE STALE; in MOVING
and PROBING it starts a recheck of the active permit, or makes one pending where one runs. What the record stores of
the path beyond the grant is the model's reading (log 15), and the recheck's turn after a claim (log 28), brush lift
no in an abandoned check's reply (log 30) and when a further claim comes (log 36) its choice. -/
def Obligations.CheckConcludesWithItsOutcome : Prop :=
  (∀ (s : State) (c : Check), s.hub.inReset = false → s.hub.permit.check = some c → s.hub.grants .check = true →
      let sweep := s.hub.sweepClaim (c.stops s.hub.probing) (fun t => (c.blocked t).isSome) c.sweep
      sweep.claim = none →
      let concludes (d : Check) : Prop :=
        let v := d.verdict s.hub.probing
        ∃ h : Hub, Runs .checkSweepClaim s h ∧ h.permit.check = none ∧ h.permit.holds = s.hub.permit.holds
          ∧ (v.reason = none →
              h.permit.active = some (d.record v s.hub.time.ms) ∧ (d.record v s.hub.time.ms).travelled = 0
              ∧ h.permit.expiry = some ⟨s.hub.time.ms, v.horizon⟩
              ∧ h.permit.state = (if v.outcome = .probe then .probing else .moving)
              ∧ h.permit.recheck = none ∧ h.permit.recheckPending = false
              ∧ h.drive =
                  (s.hub.send (.permit
                    { seq := c.ask.seq, outcome := v.outcome, reason := none, holds := s.hub.permit.holds
                      speed := v.speed, turn := v.turn, horizon := v.horizon, brushLift := v.brushLift
                      guidance := s.hub.guidance })).drive
              ∧ h.att = s.hub.att ∧ h.table.resting = none)
          ∧ (∀ r, v.reason = some r →
              h.permit = { s.hub.permit with check := none, recheckTurn := .recheck }
              ∧ h.drive = (s.hub.refuse c.ask.seq r v.brushLift).drive
              ∧ h.att = (s.hub.refuse c.ask.seq r v.brushLift).att
              ∧ h.table.resting =
                  (if (s.hub.permit.recheck.bind (·.claim)).isSome then some .check else none))
          ∧ { h with
                permit := s.hub.permit, drive := s.hub.drive, att := s.hub.att
                table.resting := s.hub.table.resting } = s.hub
      (c.stale = false → concludes { c with sweep })
      ∧ (c.stale = true →
          let d := s.hub.newCheck c.ask true
          d.ask = c.ask ∧ d.latch = s.hub.latch c.ask ∧ d.restarted = true ∧ d.stale = false
          ∧ (d.sweep.claim = none → concludes d)
          ∧ (d.sweep.claim.isSome = true →
              Runs .checkSweepClaim s
                { s.hub with
                  permit.check := some d, permit.recheckTurn := .recheck, table.resting := some .check })))
  ∧ ∀ h : Hub,
      let marked : Hub := match h.permit.check with
        | none => h
        | some c =>
          if c.restarted then { h with permit.check := none }.refuse c.ask.seq .stale false
          else { h with permit.check := some { c with stale := true } }
      (h.permit.state ≠ .moving → h.permit.state ≠ .probing → h.notify = marked)
      ∧ (h.permit.state = .moving ∨ h.permit.state = .probing →
          (h.permit.recheck.isSome = true → h.notify = { marked with permit.recheckPending := true })
          ∧ (∀ p, h.permit.recheck = none → h.permit.active = some p →
              let sweep := h.newRecheck p
              (sweep.claim.isSome = true →
                h.notify = { marked with permit.recheck := some sweep, permit.recheckTurn := .recheck })
              ∧ (sweep.claim = none → sweep.firstBlocking = none →
                h.notify = { marked with permit.recheckTurn := .recheck })
              ∧ (sweep.claim = none → sweep.firstBlocking.isSome = true →
                h.notify.permit.state = .stopping ∧ h.notify.permit.active = none ∧ h.notify.permit.check = none
                ∧ h.notify.permit.lastStop = some .recheck ∧ h.notify.planHas .stopIssued = true)))

/-- RECHECK_CLAIM whose read shows a tile that triggers: the stop sequence with cause RECHECK; one that ends the sweep
without such a tile, with no recheck pending, ends the recheck with no other effect but the turn and the arbiter's
memory. The turn after a claim is the model's choice (log 28), and so is when a further claim comes (log 36). -/
def Obligations.RecheckStopsOnATriggeringTile : Prop :=
  ∀ (s : State) (p : PermitRecord) (sw : Sweep), s.hub.inReset = false → s.hub.grants .recheck = true →
    s.hub.permit.active = some p → s.hub.permit.recheck = some sw →
    let sweep := s.hub.sweepClaim recheckStops p.triggers sw
    sweep.claim = none →
    ∃ h : Hub, Runs .recheckClaim s h
      ∧ (sweep.firstBlocking.isSome = true → s.hub.permit.state = .moving ∨ s.hub.permit.state = .probing →
          h.permit.state = .stopping ∧ h.permit.active = none ∧ h.permit.recheck = none ∧ h.permit.check = none
          ∧ h.permit.lastStop = some .recheck ∧ h.permit.stopTimer = some ⟨s.hub.time.ms, 250⟩
          ∧ h.planHas .stopIssued = true)
      ∧ (sweep.firstBlocking = none → s.hub.permit.recheckPending = false →
          h = { s.hub with
            permit.recheck := none
            permit.recheckTurn := if s.hub.permit.check.isSome then .check else s.hub.permit.recheckTurn
            table.resting := if (s.hub.permit.check.bind (·.sweep.claim)).isSome then some .check else none })
      ∧ h.table = { s.hub.table with resting := h.table.resting } ∧ h.odo = s.hub.odo ∧ h.route = s.hub.route

/-- Whatever a check's sweep found, the speed it grants is at most the ceiling formed at its start, and a probe goes
forward at no more than 60 mm/s for no more than 30 mm. The ceiling is the least of its bounds. An entry blocks with
its reason and caps the speed by its class. With no blocking tile the speed is cut to the least cap met: GRANT where
that leaves the ask as it was, else CLIP. Before the first blocking tile the largest whole speed that leaves room to
stop is granted with CLIP, from 10 mm/s on; closer than 10 mm, or where there is none, the check is refused with the
tile's reason. A check that may probe ends in a probe, unless a tile the probe reaches blocks it; while the active
permit is a PROBE the first blocking tile may hold an unprotected CLIFF in place of a DROP_SUSPECT (log 41). -/
def Obligations.GrantedSpeedStaysWithinTheCeiling : Prop :=
  (∀ (h : Hub) (a : AskFrame) (restarted running : Bool) (sweep : Sweep),
      let v := Check.verdict { h.newCheck a restarted with sweep } running
      v.speed.natAbs ≤ h.ceiling a.speedMm
      ∧ (v.outcome = .probe → 0 < v.speed ∧ v.speed ≤ 60 ∧ v.speed * v.horizon ≤ 30000))
  ∧ (∀ (h : Hub) (speed : Int),
      let heavy := h.load.power || h.load.rug || h.load.sag
      let bounds : List Nat :=
        [h.limits.planCeiling] ++ (if heavy then [300] else []) ++ (if h.queue.backlog then [200] else [])
        ++ (h.route.waypoints.head?.map (·.cap)).toList ++ (if speed < 0 then [100] else [])
      h.ceiling speed ∈ bounds ∧ ∀ b ∈ bounds, h.ceiling speed ≤ b)
  ∧ (∀ (dock : Bool) (e : Entry),
      (e.cls = .cliff → e.reason dock = some .cliffAhead ∧ e.cap = none)
      ∧ (e.cls = .nogo → e.reason dock = some .nogoAhead ∧ e.cap = none)
      ∧ (e.cls = .dropSuspect → e.reason dock = some .dropAhead ∧ e.cap = none)
      ∧ (e.cls = .obstacle →
          e.reason dock = (if 4 ≤ e.confidence then some .obstacleAhead else none)
          ∧ e.cap = (if 4 ≤ e.confidence then none else some 150))
      ∧ (e.cls = .dockZone → e.reason dock = (if dock then none else some .dockZone) ∧ e.cap = none)
      ∧ (e.cls = .threshold → e.reason dock = none ∧ e.cap = some 200)
      ∧ (∀ r, e.cls = .rug → e.rug = some r →
          e.reason dock = none
          ∧ e.cap = (match r.pile with
            | .high => some 250
            | .medium => some 350
            | .low => none)))
  ∧ ∀ (c : Check) (running : Bool),
      let v := c.verdict running
      let met : List Seen := match c.sweep.firstBlocking with
        | none => c.sweep.seen
        | some b => c.sweep.seen.filter fun t => decide (t.foot.dist < b.foot.dist)
      let caps : List Nat := met.flatMap fun t => t.view.filterMap (·.cap)
      let decel := c.latch.decel
      (c.probe running c.sweep = none →
        ∀ top, top ∈ c.speed.natAbs :: caps → (∀ n ∈ c.speed.natAbs :: caps, top ≤ n) →
        let fits (b : Seen) (n : Nat) : Prop :=
          (n * c.ask.horizonMs * decel + 500 * n ^ 2 + 1000 * c.latch.margin * decel) * distUnit ≤ b.foot.dist * decel
        let clipped (n : Nat) : Prop :=
          v.outcome = .clip ∧ v.reason = none ∧ (v.speed, v.turn) = scaled c.speed c.turn n
          ∧ v.horizon = c.ask.horizonMs
        (c.sweep.firstBlocking = none → top = c.speed.natAbs →
          v.speed = c.speed ∧ v.turn = c.turn ∧ v.reason = none ∧ v.horizon = c.ask.horizonMs
          ∧ v.outcome = (if c.speed = c.ask.speedMm ∧ c.turn = c.ask.turnDeg then .grant else .clip))
        ∧ (c.sweep.firstBlocking = none → top < c.speed.natAbs → clipped top)
        ∧ (∀ b, c.sweep.firstBlocking = some b →
          (b.foot.dist < 10000 * distUnit ∨ (∀ n, 10 ≤ n → n ≤ top → ¬ fits b n) →
            v.outcome = .refuse ∧ v.reason = some ((c.blocked b).getD .cliffAhead))
          ∧ (∀ n, 10000 * distUnit ≤ b.foot.dist → 10 ≤ n → n ≤ top → fits b n →
            (∀ m, n < m → m ≤ top → ¬ fits b m) → clipped n)))
      ∧ (∀ b, c.sweep.firstBlocking = some b →
        ∀ n, n ∈ 60 :: c.speed.toNat :: caps → (∀ m ∈ 60 :: c.speed.toNat :: caps, n ≤ m) →
        let drop (e : Entry) : Bool := decide (e.cls = .dropSuspect)
        let soft (e : Entry) : Bool := decide (e.cls = .cliff) && decide (e.confidence < 8)
        let may : Prop :=
          c.ask.probeIntent = true ∧ 0 < c.speed ∧ c.probeAllowed b = true ∧ (∃ e ∈ b.view, (drop e || (running && soft e)) = true)
          ∧ b.reasons c.dockException (fun e => !(drop e || (running && soft e))) = []
        (¬ may → c.probe running c.sweep = none)
        ∧ (may →
          let horizon := min c.ask.horizonMs (30000 / n)
          let len := (n * horizon + 1000 * c.latch.margin) * decel + 500 * n ^ 2
          let stopper (t : Seen) : Option Reason :=
            if t.foot.dist * decel ≤ len * distUnit then t.blockedBy c.dockException fun e => !(drop e || soft e)
            else none
          ((∀ t ∈ c.sweep.seen, stopper t = none) →
            v.outcome = .probe ∧ v.reason = none ∧ v.speed = n ∧ v.turn = (scaled c.speed c.turn n).2
            ∧ v.horizon = horizon)
          ∧ ((∃ t ∈ c.sweep.seen, (stopper t).isSome = true) →
            v.outcome = .refuse ∧ ∃ t ∈ c.sweep.seen, (stopper t).isSome = true ∧ v.reason = stopper t)))

/-- HOLD on both ports answers DONE with the hold set, in every state. A hold that enters the set stops motion by HOLD
in MOVING and PROBING, and in STILL answers a check in flight with REFUSE HELD, counted; in STOPPING and INHIBITED, in
STILL without a check, and where the hold is already present, nothing but the set changes. RELEASE removes its hold
and answers DONE with the set, and a Plan RELEASE of POWER or an unknown hold is refused. That the abandoned check's
reply says brush lift no is the model's reading (log 30). -/
def Obligations.HoldsArePlacedAndRemoved : Prop :=
  ∀ s : State, s.hub.inReset = false →
    (∀ p, s.hub.portOpen p →
      let h := s.hub.framed p
      let holds := s.hub.permit.holds.set (portHold p) true
      let answer : Reply := ⟨.done, 0x28#8, [byte holds.bits]⟩
      (s.hub.permit.holds.has (portHold p) = true ∨ s.hub.permit.state = .stopping ∨ s.hub.permit.state = .inhibited
          ∨ (s.hub.permit.state = .still ∧ s.hub.permit.check = none) →
        Runs (.hold p []) s ({ h with permit.holds := holds }.reply p answer))
      ∧ (∀ c, s.hub.permit.holds.has (portHold p) = false → s.hub.permit.state = .still →
          s.hub.permit.check = some c →
        ∃ t : Hub, Runs (.hold p []) s t
          ∧ t = ({ h with permit.holds := holds, permit.check := none }.refuse c.ask.seq .held false).reply p answer
          ∧ t.permit = { s.hub.permit with holds := holds, check := none }
          ∧ t.att.refusals = s.hub.att.refusals.modify 0 sat8)
      ∧ (s.hub.permit.holds.has (portHold p) = false → s.hub.permit.state = .moving ∨ s.hub.permit.state = .probing →
        ∃ t : Hub, Runs (.hold p []) s t ∧ t.permit.state = .stopping ∧ t.permit.active = none ∧ t.permit.check = none
          ∧ t.permit.lastStop = some .hold ∧ t.permit.holds = holds ∧ t.planHas .stopIssued = true
          ∧ t.permit.stopTimer = some ⟨s.hub.time.ms, 250⟩
          ∧ (∀ c, s.hub.permit.check = some c → t.att.refusals = s.hub.att.refusals.modify 0 sat8)
          ∧ (p = .plan → t.plan.slot = .ready answer ∧ t.planHas .replyReady = true)
          ∧ (p = .power → t.power.slot = some answer ∧ t.powerHas .replyReady = true)
          ∧ t.table = s.hub.table ∧ t.odo = s.hub.odo ∧ t.queue = s.hub.queue))
    ∧ (∀ p body k, s.hub.portOpen p → body.length = releaseLength p → releasedHold p body = some k →
      let h := s.hub.framed p
      let holds := s.hub.permit.holds.set k false
      Runs (.release p body) s ({ h with permit.holds := holds }.reply p ⟨.done, 0x29#8, [byte holds.bits]⟩))
    ∧ (∀ b, s.hub.planOpen → b.toNat ≠ 0 → b.toNat ≠ 2 → b.toNat ≠ 3 →
      Runs (.release .plan [b]) s ((s.hub.framed .plan).reply .plan ⟨.badField, 0x29#8, []⟩))

/-- RELEASE_INHIBIT: its tests in their order, the first that fails gives the reply and nothing changes; else the
state becomes STILL, which releases DRV_INH once start-up has ended, and the hold set, the flags and the stop-timeout
count stay. -/
def Obligations.ReleaseInhibitTestsInOrder : Prop :=
  ∀ s : State, s.hub.inReset = false → s.hub.planOpen →
    let h := s.hub.framed .plan
    let drop := s.hub.lines.asserted.wdpL || s.hub.lines.asserted.wdpR
    (s.hub.permit.state ≠ .inhibited → Runs (.releaseInhibit []) s (h.reply .plan ⟨.notInhibited, 0x2A#8, []⟩))
    ∧ (s.hub.permit.state = .inhibited → s.hub.drive.up = false →
        Runs (.releaseInhibit []) s (h.reply .plan ⟨.linkDown, 0x2A#8, []⟩))
    ∧ (s.hub.permit.state = .inhibited → s.hub.drive.up = true → s.hub.permit.driveStopped = false →
        Runs (.releaseInhibit []) s (h.reply .plan ⟨.notStopped, 0x2A#8, []⟩))
    ∧ (s.hub.permit.state = .inhibited → s.hub.drive.up = true → s.hub.permit.driveStopped = true → drop = true →
        Runs (.releaseInhibit []) s (h.reply .plan ⟨.wheelDrop, 0x2A#8, []⟩))
    ∧ (s.hub.permit.state = .inhibited → s.hub.drive.up = true → s.hub.permit.driveStopped = true → drop = false →
        Runs (.releaseInhibit []) s ({ h with permit.state := .still }.reply .plan ⟨.done, 0x2A#8, []⟩)
        ∧ ({ h with permit.state := .still }.reply .plan ⟨.done, 0x2A#8, []⟩).driveInhibit
            = !s.hub.permit.startUpEnded)

/-! ## Evidence and the Map Updater -/

/-- What the reflectance and wheel-drop kinds do to the SENSED entry at their tile. -/
def Obligations.DropEvidenceChangesEntries : Prop :=
  ∀ (c : Channel) (sd : Side) (t : Tile) (low fire : Nat) (pile : Pile),
    let dim : Option Entry → Effect := (Item.lowReflect c t low fire).effect pile
    let dark : Option Entry → Effect := (Item.noReturn c t low fire).effect pile
    let clear : Option Entry → Effect := (Item.floorClear c t).effect pile
    let drop : Option Entry → Effect := (Item.wheelDrop sd t).effect pile
    dim none = .create .dropSuspect 4 ∧ dark none = .create .cliff 6 ∧ clear none = .unchanged
    ∧ drop none = .create .cliff 15
    ∧ ∀ e : Entry,
      (e.cls = .cliff →
        dim (some e) = .change .cliff (min 15 (e.confidence + 1)) e.rug
        ∧ dark (some e) = .change .cliff (min 15 (e.confidence + 3)) e.rug)
      ∧ (e.cls = .dropSuspect →
        dim (some e) = .change .dropSuspect (min 15 (e.confidence + 3)) e.rug
        ∧ dark (some e) = .change .cliff (max e.confidence 6) none)
      ∧ (∀ r, e.cls = .rug → e.rug = some r → r.dark = false →
        dim (some e) = .change .rug e.confidence (some { r with dark := true })
        ∧ dark (some e) = .change .cliff 6 none)
      ∧ (∀ r, e.cls = .rug → e.rug = some r → r.dark = true →
        dim (some e) = .unchanged ∧ dark (some e) = .unchanged)
      ∧ (e.cls = .obstacle ∨ e.cls = .threshold →
        dim (some e) = .unchanged ∧ dark (some e) = .change .cliff 6 none)
      ∧ (e.pinned = true ∨ e.isProtected = true ∨ e.cls = .rug → clear (some e) = .unchanged)
      ∧ (e.pinned = false → e.isProtected = false → e.cls ≠ .rug →
        clear (some e) = if e.confidence ≤ 1 then .remove else .change e.cls (e.confidence - 1) e.rug)
      ∧ drop (some e) = .change .cliff 15 none

/-- What PASS_OVER, BUMP, CLIMB and BRUSH_LOAD do to the SENSED entry at their tile. -/
def Obligations.ContactEvidenceChangesEntries : Prop :=
  ∀ (sd : Side) (t : Tile) (pile load : Pile),
    let crossed : Option Entry → Effect := (Item.passOver sd t).effect pile
    let bump : Option Entry → Effect := (Item.bump sd t).effect pile
    let climb : Option Entry → Effect := (Item.climb t).effect pile
    let brush : Option Entry → Effect := (Item.brushLoad load).effect pile
    let asRug : Effect := .change .rug 8 (some ⟨pile, true, decide (pile = .high)⟩)
    crossed none = .unchanged ∧ bump none = .create .obstacle 5 ∧ climb none = .create .threshold 6
    ∧ ∀ e : Entry,
      (e.cls = .dropSuspect →
        crossed (some e) = asRug ∧ bump (some e) = .unchanged ∧ climb (some e) = .unchanged)
      ∧ (e.cls = .cliff →
        crossed (some e) = (if e.confidence < 8 then asRug else .conflict) ∧ bump (some e) = .unchanged
        ∧ climb (some e) = .unchanged)
      ∧ (e.cls = .obstacle →
        crossed (some e) = .remove ∧ bump (some e) = .change .obstacle (min 15 (e.confidence + 3)) e.rug
        ∧ climb (some e) = .unchanged)
      ∧ (e.cls = .threshold →
        crossed (some e) = .unchanged ∧ bump (some e) = .change .obstacle 5 none
        ∧ climb (some e) = .change .threshold (min 15 (e.confidence + 3)) e.rug)
      ∧ (e.cls = .rug →
        crossed (some e) = .unchanged ∧ bump (some e) = .change .obstacle 5 none ∧ climb (some e) = .unchanged)
      ∧ (∀ r, e.cls = .rug → e.rug = some r →
        brush (some e) = .change .rug e.confidence (some ⟨load, r.dark, decide (load = .high)⟩))
      ∧ (e.cls ≠ .rug → brush (some e) = .unchanged)

/-- APPLY_ITEM on a tile that has a SENSED entry: the one write changes that entry in its slot as its kind's rule
states, stamps it now if anything changed, and advances the map generation once for a change of class, pin or rug
attribute or for a removal; a conflict raises the conflict count up to 255 and leaves the table. On a tile that has
none, a kind that creates one makes it in the lowest free slot, unpinned and stamped now, and the map generation
advances by 1 with MAP_CHANGED; on a full table the victim search begins at the first slot; another kind changes
nothing. A BRUSH_LOAD write gives the rug still in its slot the reported pile, and changes nothing where the slot
holds another entry by then. An entry on the active floor that becomes CLIFF, DROP_SUSPECT or OBSTACLE of 4 or more,
or rises in confidence as one, notifies the Permit Controller; nothing else reaches it. -/
def Obligations.ApplyItemWritesOnce : Prop :=
  ∀ (s : State) (item : Item) (items : List Item) (r : Record) (records : List Record), s.hub.inReset = false →
    s.hub.grants .updater = true → s.hub.queue.records = r :: records →
    let gen := (s.hub.table.generation + 1) % 65536
    let quiet (h : Hub) : Prop :=
      h.permit = s.hub.permit ∧ h.drive = s.hub.drive ∧ h.att.refusals = s.hub.att.refusals
    let same (h : Hub) : Prop :=
      h.table.slots = s.hub.table.slots ∧ h.table.generation = s.hub.table.generation ∧ quiet h
    let tells (floor : Floor) (cls : HazardClass) (conf : Nat) (new : Bool) (h : Hub) : Prop :=
      if floor = s.hub.floor ∧ (cls = .cliff ∨ cls = .dropSuspect ∨ (cls = .obstacle ∧ 4 ≤ conf)) ∧ new = true then
        ∃ g : Hub, g.table.slots = h.table.slots ∧ g.att.refusals = s.hub.att.refusals
          ∧ { g with table := s.hub.table, att := s.hub.att } = s.hub
          ∧ h.permit = g.notify.permit ∧ h.drive = g.notify.drive ∧ h.att.refusals = g.notify.att.refusals
      else quiet h
    (∀ t, s.hub.updater.work = some ⟨item :: items, .write⟩ → item.tile = some t →
      (∀ slot e, s.hub.table.sensedAt r.floor t = some slot → s.hub.table.slots.entry slot = some e →
        ∃ h : Hub, Runs .applyItem s h
          ∧ (item.effect s.hub.updater.pile (some e) = .unchanged → same h)
          ∧ (item.effect s.hub.updater.pile (some e) = .conflict →
              same h ∧ h.updater.conflicts = min (s.hub.updater.conflicts + 1) 255)
          ∧ (item.effect s.hub.updater.pile (some e) = .remove →
              h.table.slots = s.hub.table.slots.remove slot ∧ h.table.generation = gen ∧ h.planHas .mapChanged = true
              ∧ quiet h)
          ∧ (∀ cls conf rug, item.effect s.hub.updater.pile (some e) = .change cls conf rug →
              let new : Entry := { e with cls := cls, confidence := conf, rug := rug }
              h.table.slots = s.hub.table.slots.put slot (if new = e then e else { new with stamp := s.hub.time.secs })
              ∧ h.table.generation = (if e.cls = cls ∧ e.rug = rug then s.hub.table.generation else gen)
              ∧ tells e.floor cls conf (decide (e.cls ≠ cls ∨ e.confidence < conf)) h)
          ∧ h.odo = s.hub.odo ∧ h.trail = s.hub.trail ∧ h.time = s.hub.time)
      ∧ (s.hub.table.sensedAt r.floor t = none →
        (item.effect s.hub.updater.pile none = .unchanged →
          ∃ h : Hub, Runs .applyItem s h ∧ same h ∧ h.odo = s.hub.odo)
        ∧ (∀ cls conf, item.effect s.hub.updater.pile none = .create cls conf →
          (∀ slot, s.hub.table.slots.free = some slot →
            ∃ h : Hub, Runs .applyItem s h
              ∧ h.table.slots =
                  s.hub.table.slots.put slot
                    { floor := r.floor, cls := cls, origin := .sensed, x0 := t.x, y0 := t.y, width := 1, height := 1
                      confidence := conf, pinned := false, rug := none, zone := none, stamp := s.hub.time.secs }
              ∧ h.table.generation = gen ∧ h.planHas .mapChanged = true
              ∧ h.table.evictions = s.hub.table.evictions ∧ tells r.floor cls conf true h ∧ h.odo = s.hub.odo)
          ∧ (∀ first, s.hub.table.slots.free = none → s.hub.table.slots.nextOccupied 0 = some first →
            ∃ h : Hub, Runs .applyItem s h ∧ same h ∧ h.updater.work = some ⟨item :: items, .search first none⟩
              ∧ h.queue = s.hub.queue ∧ h.odo = s.hub.odo))))
    ∧ (∀ t slot load, item = .brushLoad load → s.hub.updater.work = some ⟨item :: items, .brushWrite slot t⟩ →
      (∀ e old, s.hub.table.slots.entry slot = some e → e.sensedOn r.floor t = true → e.cls = .rug →
        e.rug = some old →
        let rug : RugAttrs := ⟨load, old.dark, decide (load = .high)⟩
        ∃ h : Hub, Runs .applyItem s h
          ∧ h.table.slots =
              s.hub.table.slots.put slot
                (if old = rug then e else { e with rug := some rug, stamp := s.hub.time.secs })
          ∧ h.table.generation = (if old = rug then s.hub.table.generation else gen)
          ∧ quiet h ∧ h.odo = s.hub.odo)
      ∧ ((s.hub.table.slots.entry slot).all (fun e => !e.sensedOn r.floor t || decide (e.cls ≠ .rug)) = true →
        ∃ h : Hub, Runs .applyItem s h ∧ same h ∧ h.odo = s.hub.odo))

/-- PLANNED_RUG_READ: the last PLANNED entry read decides. If none of those read is a dark RUG over the item's tile,
the apply write waits next; if one is, the item has no effect and the table stays as it was. That the next slot to read is settled as a read
completes is the model's choice (log 42). -/
def Obligations.DarkRugScreensReflectance : Prop :=
  ∀ (s : State) (item : Item) (items : List Item) (r : Record) (records : List Record) (t : Tile) (slot : Nat)
    (e : Entry) (covered : Bool), s.hub.inReset = false → s.hub.grants .updater = true →
    s.hub.updater.work = some ⟨item :: items, .plannedRead slot covered⟩ → s.hub.queue.records = r :: records →
    item.tile = some t → s.hub.table.slots.entry slot = some e → e.origin = .planned → e.floor = r.floor →
    let dark := covered || (decide (e.cls = .rug) && (e.rug.map (·.dark)).getD false && e.covers t)
    ∃ h : Hub, Runs .plannedRugRead s h ∧ h.table.slots = s.hub.table.slots
      ∧ (∀ next, s.hub.table.nextPlanned r.floor (slot + 1) = some next →
          h.updater.work = some ⟨item :: items, .plannedRead next dark⟩ ∧ h.queue = s.hub.queue)
      ∧ (s.hub.table.nextPlanned r.floor (slot + 1) = none → dark = false →
          h.updater.work = some ⟨item :: items, .write⟩ ∧ h.queue = s.hub.queue)
      ∧ (s.hub.table.nextPlanned r.floor (slot + 1) = none → dark = true → items = [] → records = [] →
          h.updater.work = none ∧ h.queue.records = [])

/-- EVICTION_SEARCH_READ keeps the best candidate read so far: the lower confidence, then the older stamp, then the
slot read first. The read of the last occupied slot ends the search, with the eviction write waiting or, without a
candidate, with MAP_FULL set and no slot changed. That the next slot to read is settled as a read completes is the
model's choice (log 42). -/
def Obligations.EvictionSearchKeepsTheBestVictim : Prop :=
  ∀ (s : State) (item : Item) (items : List Item) (slot : Nat) (best : Option Victim), s.hub.inReset = false →
    s.hub.grants .updater = true → s.hub.updater.work = some ⟨item :: items, .search slot best⟩ →
    let seen : Option Victim :=
      match (s.hub.table.slots.entry slot).filter (·.evictable item.creates) with
      | none => best
      | some e =>
        match best with
        | none => some ⟨slot, e.confidence, e.stamp⟩
        | some b =>
          if e.confidence < b.confidence ∨ (e.confidence = b.confidence ∧ e.stamp < b.stamp) then
            some ⟨slot, e.confidence, e.stamp⟩
          else some b
    ∃ h : Hub, Runs .evictionSearchRead s h ∧ h.table.slots = s.hub.table.slots
      ∧ (∀ next, s.hub.table.slots.nextOccupied (slot + 1) = some next →
          h.updater.work = some ⟨item :: items, .search next seen⟩)
      ∧ (∀ v, s.hub.table.slots.nextOccupied (slot + 1) = none → seen = some v →
          h.updater.work = some ⟨item :: items, .evict v.slot⟩)
      ∧ (s.hub.table.slots.nextOccupied (slot + 1) = none → seen = none → h.planHas .mapFull = true)

/-- EVICT: with the table still full and the victim still a candidate, the new entry takes the victim's slot in one
write, the eviction count rises by 1 up to 65535 and the map generation by 2; a slot that has become free takes it
instead with no eviction counted; a victim that is no candidate any more sends the search back to slot 0. A CLIFF,
DROP_SUSPECT or OBSTACLE of 4 or more created on the active floor notifies the Permit Controller. That the victim is
the slot chosen, whatever entry it holds by then, is the model's choice (log 43). -/
def Obligations.EvictionEndsWithOneWrite : Prop :=
  ∀ (s : State) (item : Item) (items : List Item) (r : Record) (records : List Record) (t : Tile) (victim : Nat)
    (old : Entry) (cls : HazardClass) (conf : Nat), s.hub.inReset = false → s.hub.grants .updater = true →
    s.hub.updater.work = some ⟨item :: items, .evict victim⟩ → s.hub.queue.records = r :: records →
    item.tile = some t → item.effect s.hub.updater.pile none = .create cls conf →
    s.hub.table.sensedAt r.floor t = none → s.hub.table.slots.entry victim = some old →
    let new := s.hub.sensedEntry r.floor t cls conf
    let quiet (h : Hub) : Prop :=
      h.permit = s.hub.permit ∧ h.drive = s.hub.drive ∧ h.att.refusals = s.hub.att.refusals
    let tells (h : Hub) : Prop :=
      if r.floor = s.hub.floor ∧ (cls = .cliff ∨ cls = .dropSuspect ∨ (cls = .obstacle ∧ 4 ≤ conf)) then
        ∃ g : Hub, g.table.slots = h.table.slots ∧ g.att.refusals = s.hub.att.refusals
          ∧ { g with table := s.hub.table, att := s.hub.att } = s.hub
          ∧ h.permit = g.notify.permit ∧ h.drive = g.notify.drive ∧ h.att.refusals = g.notify.att.refusals
      else quiet h
    ∃ h : Hub, Runs .evict s h
      ∧ (s.hub.table.slots.free = none → old.evictable cls = true →
          h.table.slots = s.hub.table.slots.put victim new
          ∧ h.table.evictions = min (s.hub.table.evictions + 1) 65535
          ∧ h.table.generation = (s.hub.table.generation + 2) % 65536 ∧ h.planHas .mapChanged = true ∧ tells h)
      ∧ (∀ slot, s.hub.table.slots.free = some slot →
          h.table.slots = s.hub.table.slots.put slot new ∧ h.table.evictions = s.hub.table.evictions
          ∧ h.table.generation = (s.hub.table.generation + 1) % 65536 ∧ tells h)
      ∧ (∀ first, s.hub.table.slots.free = none → old.evictable cls = false →
          s.hub.table.slots.nextOccupied 0 = some first →
          h.table.slots = s.hub.table.slots ∧ h.updater.work = some ⟨item :: items, .search first none⟩ ∧ quiet h)

/-! ## Lookups -/

/-- CENTRE_TILE_LOOKUP_DONE and PASS_OVER_LOOKUP_DONE. A granted claim of a centre-tile lookup reads the SENSED entry
of its tile or one PLANNED entry of the floor, and keeps the highest pile read. While a PLANNED entry is still to be
read the lookup goes on with it, and slip pile and cause RUG stay. After the last read, or when there is nothing to
read, the lookup leaves: its result sets the slip pile and the cause RUG to whether it is HIGH, a discarded one keeps
both. A pass-over lookup leaves and notes its tile exactly when the tile holds a SENSED unprotected drop, is still the
wheel's contact tile, the wheel's line is clear and the lookup was not cancelled. That each read is one such command,
when a lookup may end, that a slot whose entry has changed bears on nothing, and that the next slot to read is settled
as a read completes, is the model's choice (log 7, log 8, log 9, log 42). -/
def Obligations.LookupsEndWithTheirResult : Prop :=
  ∀ (s : State) (l : Lookup), s.hub.inReset = false →
    (s.hub.completing .centre = some l → s.hub.odo.centreAgain = false →
      let floor : Floor := match l.reading with
        | none => s.hub.odo.floor
        | some r => r.floor
      let read : Option Pile := match s.hub.lookupClaim l with
        | none => none
        | some (.sensed slot) =>
          ((s.hub.table.slots.entry slot).filter (·.sensedOn floor l.tile)).bind fun e => e.rug.map (·.pile)
        | some (.planned slot) =>
          ((s.hub.table.slots.entry slot).filter fun e =>
            decide (e.origin = .planned ∧ e.floor = floor) && e.covers l.tile).bind fun e => e.rug.map (·.pile)
      let best : Option Pile := maxPile (l.reading.bind (·.pile)) read
      let next : Option Nat := match s.hub.lookupClaim l with
        | none => none
        | some (.sensed _) => s.hub.table.nextPlanned floor 0
        | some (.planned slot) => s.hub.table.nextPlanned floor (slot + 1)
      (∀ slot, next = some slot →
        ∃ h : Hub, Runs .centreTileLookupDone s h
          ∧ h.odo =
              { s.hub.odo with
                lookups := s.hub.odo.lookups.map fun k =>
                  if k.what = .centre then { k with reading := some ⟨floor, slot, best⟩ } else k }
          ∧ h.load = s.hub.load ∧ h.table.slots = s.hub.table.slots ∧ h.permit = s.hub.permit)
      ∧ (next = none →
        ∃ h : Hub, Runs .centreTileLookupDone s h
          ∧ h.odo.lookups = s.hub.odo.lookups.eraseP (fun k => decide (k.what = .centre))
          ∧ (l.discard = false → (s.hub.lookupClaim l).isSome = true →
              h.odo.slip = best ∧ h.load.rug = decide (best = some .high))
          ∧ (l.discard = false → s.hub.lookupClaim l = none → h.odo.slip = none ∧ h.load.rug = false)
          ∧ (l.discard = true → h.odo.slip = s.hub.odo.slip ∧ h.load = s.hub.load)
          ∧ h.table.slots = s.hub.table.slots ∧ h.permit = s.hub.permit))
    ∧ (∀ wheel, s.hub.completing (.wheel wheel) = some l →
      ∃ h : Hub, Runs (.passOverLookupDone wheel) s h
        ∧ h.odo.lookups = s.hub.odo.lookups.eraseP (fun k => decide (k.what = .wheel wheel))
        ∧ (h.odo.wheel wheel).contact = (s.hub.odo.wheel wheel).contact
        ∧ (h.odo.wheel wheel).noted =
            (if (s.hub.tileView l.tile).any
                  (fun e => decide (e.origin = .sensed)
                    && (decide (e.cls = .dropSuspect) || (decide (e.cls = .cliff) && decide (e.confidence < 8))))
                && decide ((s.hub.odo.wheel wheel).contact = some l.tile) && !s.hub.dropped wheel && !l.discard
              then some l.tile else (s.hub.odo.wheel wheel).noted)
        ∧ h.table.slots = s.hub.table.slots ∧ h.permit = s.hub.permit ∧ h.odo.slip = s.hub.odo.slip)

/-! ## The Beacon Receiver -/

/-- BEACON_FRAME with a valid payload: the eye's inversion count becomes 0; the first enabled slot that matches gives
a new sighting, fresh for 500 ms, with DOCK_SIGHTED; with none the foreign count rises by 1 up to 255 and the sighting
stays. An invalid payload leaves all but the decoder. That the frame is a whole train, which the decoder began from
hunting, is the model's reading (log 18). BEACON_SHADOW_FRAME with a valid payload that no upright frame came beside:
the inversion count rises by 1, and the eighth flips the eye's polarity, with the count 0, both decoders hunting, the
flip count raised and BEACON_POLARITY set. It gives no sighting. An invalid one, and one that an upright frame came
beside, leaves all but the decoder. The decoder's place is the model's reading (log 18). -/
def Obligations.BeaconFramesGiveSightingsAndFlips : Prop :=
  (∀ (s : State) (eye : Side) (p : BitVec 16), s.hub.inReset = false →
      let e := s.hub.beacon.eye eye
      (∀ f, payloadField p = some f →
        ∃ h : Hub, Runs (.beaconFrame eye p) s h
          ∧ (∀ k, s.hub.beacon.slotFor p = some k →
              h.beacon.eye eye =
                { e with
                  primary := .hunting, inversions := 0, uprightSince := true, sighting := some ⟨k, f, s.hub.time.ms⟩
                  fresh := some ⟨s.hub.time.ms, 500⟩ }
              ∧ h.beacon.foreign = s.hub.beacon.foreign ∧ h.powerHas .dockSighted = true
              ∧ (s.hub.dock.state = .docking → h.dock.timer = none))
          ∧ (s.hub.beacon.slotFor p = none →
              h.beacon.eye eye = { e with primary := .hunting, inversions := 0, uprightSince := true }
              ∧ h.beacon.foreign = min (s.hub.beacon.foreign + 1) 255 ∧ h.dock = s.hub.dock ∧ h.att = s.hub.att))
      ∧ (payloadField p = none →
        Runs (.beaconFrame eye p) s { s.hub with beacon := s.hub.beacon.setEye eye { e with primary := .hunting } }))
  ∧ ∀ (s : State) (eye : Side) (p : BitVec 16), s.hub.inReset = false →
      let e := s.hub.beacon.eye eye
      ((payloadField p).isSome = true → e.shadow = .hunting ∨ e.uprightSince = false → e.inversions < 7 →
        Runs (.beaconShadowFrame eye p) s
          { s.hub with
            beacon := s.hub.beacon.setEye eye { e with shadow := .hunting, inversions := e.inversions + 1 } })
      ∧ ((payloadField p).isSome = true → e.shadow = .hunting ∨ e.uprightSince = false → 7 ≤ e.inversions →
        ∃ h : Hub, Runs (.beaconShadowFrame eye p) s h
          ∧ h.beacon.eye eye =
              { e with inverted := !e.inverted, inversions := 0, primary := .hunting, shadow := .hunting }
          ∧ h.beacon.flips = min (s.hub.beacon.flips + 1) 255 ∧ h.planHas .beaconPolarity = true
          ∧ { h with beacon := s.hub.beacon, att := s.hub.att } = s.hub)
      ∧ (payloadField p = none ∨ (e.shadow ≠ .hunting ∧ e.uprightSince = true) →
        Runs (.beaconShadowFrame eye p) s { s.hub with beacon := s.hub.beacon.setEye eye { e with shadow := .hunting } })

/-- BEACON_ELEMENT feeds a mark of the eye's polarity to the primary decoder as a mark and to the shadow decoder as a
space, and the reverse. A whole train of sixteen bits in nominal durations, fed to a hunting decoder, completes with
just those bits, most significant first, and a completed payload that a slot takes is a new sighting. -/
def Obligations.ElementsFeedBothDecoders : Prop :=
  (∀ (s : State) (eye : Side) (high : Bool) (periods : Nat), s.hub.inReset = false →
    let e := s.hub.beacon.eye eye
    let mark := high == e.inverted
    (e.primary.element mark periods).2 = none → (e.shadow.element (!mark) periods).2 = none →
    ∃ h : Hub, Runs (.beaconElement eye high periods) s h
      ∧ (h.beacon.eye eye).primary = (e.primary.element mark periods).1
      ∧ (h.beacon.eye eye).shadow = (e.shadow.element (!mark) periods).1
      ∧ (h.beacon.eye eye).sighting = e.sighting ∧ (h.beacon.eye eye).inversions = e.inversions
      ∧ { h with beacon := s.hub.beacon } = s.hub)
  ∧ (∀ (s : State) (eye : Side) (high : Bool) (periods : Nat) (p : BitVec 16) (f : FieldCode) (k : Nat),
    s.hub.inReset = false →
    let e := s.hub.beacon.eye eye
    let mark := high == e.inverted
    (e.primary.element mark periods).2 = some p → (e.shadow.element (!mark) periods).2 = none →
    payloadField p = some f → s.hub.beacon.slotFor p = some k →
    ∃ h : Hub, Runs (.beaconElement eye high periods) s h
      ∧ (h.beacon.eye eye).primary = .hunting ∧ (h.beacon.eye eye).inversions = 0
      ∧ (h.beacon.eye eye).sighting = some ⟨k, f, s.hub.time.ms⟩
      ∧ (h.beacon.eye eye).fresh = some ⟨s.hub.time.ms, 500⟩ ∧ h.powerHas .dockSighted = true)
  ∧ ∀ (bits : List Bool) (last : Bool), bits.length = 15 →
    let start := (Decoder.hunting.element true 98).1
    let bit (d : Decoder) (b : Bool) : Decoder := ((d.element false (if b then 49 else 16)).1.element true 16).1
    let before := bits.foldl bit start
    ((before.element false (if last then 49 else 16)).1.element true 16) = (.hunting, some (payloadOf (bits ++ [last])))

/-! ## The ports -/

/-- A read of a held reply through its last byte shifts the whole frame out, empties the slot and clears REPLY_READY;
one cut short keeps the slot; with nothing READY a NOT_READY frame goes out. FLAG_PEEK shows flags and mask, any other
command byte gives 0xFF, and neither changes anything else. What the out fields keep is the model's own (log 24).
DRIVE_FRAME_SENT: the frame being sent has gone out whole, each character in its eleven bits with the first alone
marked, and the oldest waiting frame is sent next. -/
def Obligations.TransmissionsCarryTheirBytes : Prop :=
  (∀ (s : State) (n : Nat) (r : Reply), s.hub.inReset = false →
      (s.hub.plan.slot = .ready r → r.encode.length ≤ n →
        Runs (.planReplyRead n) s ({ s.hub with plan := { slot := .empty, out := r.encode } }.clearPlan .replyReady))
      ∧ (s.hub.plan.slot = .ready r → n < r.encode.length →
        Runs (.planReplyRead n) s { s.hub with plan.out := r.encode.take n })
      ∧ ((∀ q, s.hub.plan.slot ≠ .ready q) →
        Runs (.planReplyRead n) s { s.hub with plan.out := Reply.notReady.encode.take n })
      ∧ (s.hub.power.slot = some r → r.encode.length ≤ n →
        Runs (.powerReplyRead n) s ({ s.hub with power := { slot := none, out := r.encode } }.clearPower .replyReady))
      ∧ (s.hub.power.slot = some r → n < r.encode.length →
        Runs (.powerReplyRead n) s { s.hub with power.out := r.encode.take n })
      ∧ (s.hub.power.slot = none →
        Runs (.powerReplyRead n) s { s.hub with power.out := Reply.notReady.encode.take n })
      ∧ Runs (.flagPeek n) s
          { s.hub with
            plan.out := (be24 s.hub.att.planFlags.toNat ++ be24 s.hub.att.planMask.toNat).take n }
      ∧ (∀ c : Byte, c ≠ 0x51#8 → c ≠ 0x52#8 → c ≠ 0x53#8 →
        Runs (.planOtherCommand c n) s { s.hub with plan.out := List.replicate n 0xFF#8 }))
  ∧ ∀ (s : State) (f : DriveFrame), s.hub.inReset = false → s.hub.drive.sending = some f →
      Runs .driveFrameSent s
        { s.hub with
          drive :=
            { s.hub.drive with
              sent :=
                f.encode.zipIdx.flatMap fun p =>
                  false :: (List.range 8).map p.1.getLsbD ++ [decide (p.2 = 0), true]
              sending := s.hub.drive.waiting.head?, waiting := s.hub.drive.waiting.tail } }

/-- FRAME_ERROR: a bad frame is answered FRAME_ERROR with its first byte as the echo, without renewing the lease;
while a Plan request is in service the reply is dropped with REPLY_LOST. UNKNOWN_REQUEST answers a code its port does
not have, and on the Plan port renews the lease. Every request but WARM_RESTART: a body of another length than the
port's layout gives it is answered BAD_FIELD and changes nothing but the lease and the slot; a frame of any of them
that finds a Plan request in service is dropped with REPLY_LOST, still renewing the lease. -/
def Obligations.FramesAreTakenOneAtATime : Prop :=
  (∀ (s : State) (p : Port) (code : Byte) (rest : List Byte), s.hub.inReset = false →
      (goodFrame (code :: rest) = false → s.hub.portOpen p →
        Runs (.frameError p (code :: rest)) s
          ((match p with
            | .plan => s.hub.clearSlot
            | .power => s.hub).reply p ⟨.frameError, code, []⟩))
      ∧ (goodFrame (code :: rest) = false → s.hub.plan.slot.claims = true →
        Runs (.frameError .plan (code :: rest)) s (s.hub.setPlan .replyLost))
      ∧ ((requestCodes p).contains code.toNat = false → s.hub.portOpen p →
        Runs (.unknownRequest p code rest) s ((s.hub.framed p).reply p ⟨.unknownRequest, code, []⟩)))
  ∧ ∀ (s : State) (i : Instr) (p : Port) (code : Byte) (len : Nat) (body : List Byte), s.hub.inReset = false →
      requestFrame i = some (p, code, len, body) →
      (s.hub.portOpen p → body.length ≠ len →
        Runs i s ((s.hub.framed p).reply p ⟨.badField, code, []⟩))
      ∧ (p = .plan → s.hub.plan.slot.claims = true → Runs i s (s.hub.renewLease.setPlan .replyLost))

/-- STATUS on either port answers DONE with the status as it stands, 129 bytes on the Plan port and 127 on the Power
port, and changes nothing else. Its main fields stand at the offsets of R198: the pose, the permit state and its
conditions, the active permit, the counts of the queue, the route, the trail and the return, the causes, the store
state, the map generation and the link. The few codes that R198 leaves to be inferred are those of log 23. -/
def Obligations.StatusReportsAndChangesNothing : Prop :=
  ∀ (s : State) (p : Port), s.hub.inReset = false → s.hub.portOpen p →
    let h := s.hub.framed p
    let body := h.statusBody p
    let after := match p with
      | .plan => 2
      | .power => 0
    Runs (.status p []) s (h.reply p ⟨.done, 0x01#8, body⟩)
    ∧ body.length = 127 + after
    ∧ body.take 10 =
        be32s (roundDiv s.hub.odo.x 1000) ++ be32s (roundDiv s.hub.odo.y 1000) ++ be16 s.hub.odo.heading
    ∧ (body.drop 10).take 4 =
        [(match s.hub.odo.pose with
          | .tracking => 0x00#8
          | .lifted => 0x01#8
          | .lost _ => 0x02#8),
         (match s.hub.odo.pose with
          | .tracking => 0x00#8
          | .lifted => 0x00#8
          | .lost .start => 0x00#8
          | .lost .lift => 0x01#8
          | .lost .range => 0x02#8
          | .lost .odometry => 0x03#8),
         flagByte s.hub.odo.rangeSet, byte s.hub.odo.floor.val]
    ∧ (body.drop 14).take 3 =
        [(match s.hub.permit.state with
          | .still => 0x00#8
          | .moving => 0x01#8
          | .probing => 0x02#8
          | .stopping => 0x03#8
          | .inhibited => 0x04#8),
         byte s.hub.permit.holds.bits, flagByte s.hub.permit.check.isSome]
    ∧ (body.drop 17).take 3 =
        [byte (causeCode s.hub.permit.lastStop), flagByte s.hub.permit.driveStopped, flagByte s.hub.driveInhibit]
    ∧ (s.hub.permit.active = none → (body.drop 20).take 6 = List.replicate 6 0x00#8)
    ∧ (∀ r, s.hub.permit.active = some r →
        (body.drop 20).take 5 =
          (match r.kind with
            | .normal => 0x00#8
            | .probe => 0x01#8) :: be16s r.speed ++ be16s r.turn)
    ∧ (body.drop 26).take 4 =
        byte s.hub.queue.count :: be16 s.hub.queue.bytes ++ [flagByte s.hub.queue.backlog]
    ∧ (body.drop 74).take 1 = [byte s.hub.route.waypoints.length]
    ∧ (body.drop 81).take 2 = be16 s.hub.route.advances
    ∧ (body.drop (84 + after)).take 1 = [byte s.hub.trail.crumbs.length]
    ∧ (body.drop (87 + after)).take 4 =
        be16 s.hub.trail.pushCounter
        ++ [(match s.hub.dock.state with
              | .idle => 0x00#8
              | .trail => 0x01#8
              | .approach => 0x02#8
              | .docking => 0x03#8
              | .docked => 0x04#8
              | .failed => 0x05#8),
            byte s.hub.dock.fallbacks]
    ∧ (body.drop (118 + after)).take 2 =
        [byte (s.hub.load.power.toNat + 2 * s.hub.load.rug.toNat + 4 * s.hub.load.sag.toNat), flagByte s.hub.load.heavy]
    ∧ body.drop (122 + after) =
        [flagByte s.hub.scanner.averaged,
         (match s.hub.store.phase with
          | .idle => 0x00#8
          | .load _ => 0x04#8
          | .save op =>
            match op.step with
            | .opening => 0x01#8
            | .erased _ => 0x01#8
            | .reading _ => 0x02#8
            | .programmed _ => 0x02#8
            | .headerSent => 0x03#8
            | .markerSent => 0x03#8)]
        ++ be16 s.hub.table.generation ++ [flagByte (!s.hub.drive.up)]

/-- TAKE_FLAGS answers with the flags and the mask as they stood and clears just the selected flags, SET_MASK replaces
one port's mask or is refused, COUNTERS answers with every counter at its place of R198 and clears all but route
advances when asked to. -/
def Obligations.FlagAndCounterRequests : Prop :=
  ∀ (s : State) (a b c d : Byte), s.hub.inReset = false → s.hub.planOpen →
    let h := s.hub.framed .plan
    let sel := BitVec.ofNat 17 (65536 * a.toNat + 256 * b.toNat + c.toNat)
    let mask := BitVec.ofNat 17 (65536 * b.toNat + 256 * c.toNat + d.toNat)
    let counts : List Byte :=
      s.hub.att.refusals.map byte ++ be16 s.hub.queue.lost ++ be16 s.hub.queue.stale ++ be16 s.hub.table.evictions
      ++ [byte s.hub.updater.conflicts, byte s.hub.drive.errors, byte s.hub.permit.stopTimeouts,
          byte s.hub.beacon.flips, byte s.hub.beacon.foreign]
      ++ be16 s.hub.route.advances
    let low := BitVec.ofNat 6 (65536 * b.toNat + 256 * c.toNat + d.toNat)
    Runs (.takeFlags .plan [a, b, c]) s
      ({ h with att.planFlags := h.att.planFlags &&& ~~~sel }.reply .plan
        ⟨.done, 0x02#8, be24 h.att.planFlags.toNat ++ be24 h.att.planMask.toNat⟩)
    ∧ Runs (.takeFlags .power [a]) s
      ({ s.hub with att.powerFlags := s.hub.att.powerFlags &&& ~~~BitVec.ofNat 6 a.toNat }.reply .power
        ⟨.done, 0x02#8, [byte s.hub.att.powerFlags.toNat, byte s.hub.att.powerMask.toNat]⟩)
    ∧ (a.toNat = 0 →
      Runs (.setMask [a, b, c, d]) s
        ({ h with att.planMask := mask }.reply .plan ⟨.done, 0x03#8, be24 mask.toNat⟩))
    ∧ (a.toNat = 1 →
      Runs (.setMask [a, b, c, d]) s
        ({ h with att.powerMask := low }.reply .plan ⟨.done, 0x03#8, be24 low.toNat⟩))
    ∧ (1 < a.toNat → Runs (.setMask [a, b, c, d]) s (h.reply .plan ⟨.badField, 0x03#8, []⟩))
    ∧ (a.toNat % 2 = 0 → Runs (.counters [a]) s (h.reply .plan ⟨.done, 0x04#8, counts⟩))
    ∧ (a.toNat % 2 = 1 →
      ∃ t : Hub, Runs (.counters [a]) s t ∧ t.plan.slot = .ready ⟨.done, 0x04#8, counts⟩
        ∧ t.att.refusals = List.replicate 14 0 ∧ t.queue = { s.hub.queue with lost := 0, stale := 0 }
        ∧ t.table = { s.hub.table with evictions := 0 } ∧ t.updater = { s.hub.updater with conflicts := 0 }
        ∧ t.drive = { s.hub.drive with errors := 0 } ∧ t.permit = { s.hub.permit with stopTimeouts := 0 }
        ∧ t.beacon = { s.hub.beacon with flips := 0, foreign := 0 } ∧ t.route.advances = s.hub.route.advances)

/-! ## Settings -/

/-- SET_SENSORS and SET_LIMITS take every setting or none. SET_SENSORS changes its settings alone. SET_LIMITS starts
the lease with a changed period, stops it at a period of 0, and makes a backlog test when a threshold changed. -/
def Obligations.SettingsAreTakenWhole : Prop :=
  ∀ (s : State) (body : List Byte), s.hub.inReset = false → s.hub.planOpen →
    let h := s.hub.framed .plan
    (body.length = 27 → Sensors.parse body = none →
      Runs (.setSensors body) s (h.reply .plan ⟨.badField, 0x06#8, []⟩))
    ∧ (∀ n, body.length = 27 → Sensors.parse body = some n →
      Runs (.setSensors body) s ({ h with sensors := n }.reply .plan ⟨.done, 0x06#8, []⟩))
    ∧ (body.length = 12 → Limits.parse body = none →
      Runs (.setLimits body) s (h.reply .plan ⟨.badField, 0x05#8, []⟩))
    ∧ (∀ l, body.length = 12 → Limits.parse body = some l →
      ∃ t : Hub, Runs (.setLimits body) s t ∧ t.limits = l ∧ t.plan.slot = .ready ⟨.done, 0x05#8, l.encode⟩
        ∧ (l.leasePeriod = s.hub.limits.leasePeriod → t.route = h.route)
        ∧ (l.leasePeriod ≠ s.hub.limits.leasePeriod → l.leasePeriod = 0 →
            t.route = { s.hub.route with lease := .off, leaseTimer := none })
        ∧ (l.leasePeriod ≠ s.hub.limits.leasePeriod → l.leasePeriod ≠ 0 →
            t.route = { s.hub.route with lease := .running, leaseTimer := some ⟨s.hub.time.ms, l.leasePeriod⟩ })
        ∧ t.queue.backlog =
            (if l.countT = s.hub.limits.countT ∧ l.byteT = s.hub.limits.byteT then s.hub.queue.backlog
              else backlogAfter s.hub.queue.backlog s.hub.queue.count s.hub.queue.bytes l.countT l.byteT)
        ∧ t.queue.records = s.hub.queue.records ∧ t.permit = s.hub.permit ∧ t.table = s.hub.table)

/-- Each layout reads back what it wrote: the limits, a waypoint and an image entry, for every legal value; and an ASK
and the three EVENTs sent as characters to a hunting receiver are handed on with the fields they were made of. -/
def Obligations.LayoutsReadBackWhatTheyWrote : Prop :=
  (∀ b (l : Limits), Limits.parse b = some l → Limits.parse l.encode = some l)
  ∧ (∀ b (w : Waypoint), Waypoint.parse b = some w → Waypoint.parse w.encode = some w)
  ∧ (∀ e : Entry, e.legal = true → e.encode.length = 16 ∧ Entry.decode e.encode = some e)
  ∧ (∀ (a : AskFrame) (run : Bool),
      a.encode.length = 13 ∧ (DriveRx.hunting run).hear (linkChars a.encode) = some (.hunting false, .ask a))
  ∧ (∀ (run : Bool) (argument : Byte) (p : Pile),
      (DriveRx.hunting run).hear (linkChars (eventBytes 0x01#8 argument)) = some (.hunting false, .stopDone)
      ∧ (DriveRx.hunting run).hear (linkChars (eventBytes 0x02#8 (byte p.ctorIdx)))
          = some (.hunting false, .brushLoad p)
      ∧ (DriveRx.hunting run).hear (linkChars (eventBytes 0x03#8 argument)) = some (.hunting false, .climb))

/-! ## The Plan map requests -/

/-- The five map requests, taken with good fields: an edit enters service with its claim, or is answered BUSY in LOAD;
a query enters service on the first occupied slot from its start, or is answered at once when there is none; no entry
changes. Bad fields are answered BAD_FIELD. That the field checks come before BUSY is the model's choice (log 11), and
so is the generation a clear of an empty table answers with (log 38). -/
def Obligations.MapRequestsEnterService : Prop :=
  ∀ (s : State) (body : List Byte), s.hub.inReset = false → s.hub.planOpen →
    let h := s.hub.framed .plan
    let refused (code : Byte) (st : Status) : Hub := h.reply .plan ⟨st, code, []⟩
    let served (v : Service) : Hub := { h with plan.slot := .inService v }
    (body.length = 11 →
      (Entry.parsePut body 0 = none → Runs (.mapPut body) s (refused 0x10#8 .badField))
      ∧ (∀ e, Entry.parsePut body 0 = some e →
          Runs (.mapPut body) s (if s.hub.loading then refused 0x10#8 .busy else served (.put e))))
    ∧ (body.length = 5 →
      (1023 < u16 body 0 → Runs (.mapDelete body) s (refused 0x11#8 .badField))
      ∧ (u16 body 0 ≤ 1023 →
          Runs (.mapDelete body) s
            (if s.hub.loading then refused 0x11#8 .busy
              else served (.delete (u16 body 0) (if bitAt body 2 0 then some (u16 body 3) else none)))))
    ∧ (body.length = 6 →
      let t : Tile := ⟨s16 body 1, s16 body 3⟩
      (t.onWorld = false ∨ floorOf (u8 body 0) = none → Runs (.mapConfirm body) s (refused 0x12#8 .badField))
      ∧ (∀ f, t.onWorld = true → floorOf (u8 body 0) = some f →
          Runs (.mapConfirm body) s
            (if s.hub.loading then refused 0x12#8 .busy else served (.confirm f t (bitAt body 5 0)))))
    ∧ (body.length = 11 →
      let good := rectLegal (s16 body 1) (s16 body 3) (u16 body 5) (u16 body 7) && decide (u16 body 9 ≤ 1023)
      (good = false ∨ floorOf (u8 body 0) = none → Runs (.mapQuery body) s (refused 0x13#8 .badField))
      ∧ (∀ f slot, good = true → floorOf (u8 body 0) = some f →
          s.hub.table.slots.nextOccupied (u16 body 9) = some slot →
          Runs (.mapQuery body) s
            (served (.query f (s16 body 1) (s16 body 3) (u16 body 5) (u16 body 7) slot [])))
      ∧ (∀ f, good = true → floorOf (u8 body 0) = some f →
          s.hub.table.slots.nextOccupied (u16 body 9) = none → Runs (.mapQuery body) s (h.answerQuery [] none)))
    ∧ (body.length = 1 →
      (floorOf (u8 body 0) = none → Runs (.mapClear body) s (refused 0x14#8 .badField))
      ∧ (∀ f, floorOf (u8 body 0) = some f → s.hub.loading = true → Runs (.mapClear body) s (refused 0x14#8 .busy))
      ∧ (∀ f slot, floorOf (u8 body 0) = some f → s.hub.loading = false →
          s.hub.table.slots.nextOccupied 0 = some slot →
          Runs (.mapClear body) s (served (.clear f slot false 0 none)))
      ∧ (∀ f, floorOf (u8 body 0) = some f → s.hub.loading = false → s.hub.table.slots.nextOccupied 0 = none →
          Runs (.mapClear body) s
            (h.reply .plan ⟨.done, 0x14#8, be16 0 ++ be16 s.hub.table.generation⟩)))

/-- MAP_PUT_WRITE: the entry is created in the lowest free slot with the stamp of now, the generation advances by 1,
and the reply gives slot and generation; then a class of R17 on the active floor notifies the Permit Controller, which
marks a check in flight stale, or abandons a restarted one with REFUSE STALE, and in MOVING and PROBING starts a
recheck of the active permit or makes one pending. With no slot free the answer is TABLE_FULL and no slot changes.
Brush lift no in the abandoned check's reply is the model's choice (log 30). -/
def Obligations.MapPutWriteCreatesThePlannedEntry : Prop :=
  ∀ (s : State) (e : Entry), s.hub.inReset = false → s.hub.grants .plan = true →
    s.hub.plan.slot = .inService (.put e) →
    (s.hub.table.slots.free = none →
      Runs .mapPutWrite s { s.hub.reply .plan ⟨.tableFull, 0x10#8, []⟩ with table.resting := none })
    ∧ (∀ slot, s.hub.table.slots.free = some slot →
      let gen := (s.hub.table.generation + 1) % 65536
      let h := Hub.reply .plan ⟨.done, 0x10#8, be16 slot ++ be16 gen⟩
        (Hub.setPlan .mapChanged
          { s.hub with
            table.slots := s.hub.table.slots.put slot { e with stamp := s.hub.time.secs }
            table.generation := gen })
      let tells := decide (e.floor = s.hub.floor)
        && (decide (e.cls = .cliff) || decide (e.cls = .dropSuspect) || decide (e.cls = .obstacle)
          || decide (e.cls = .nogo))
      (tells = false → Runs .mapPutWrite s { h with table.resting := none })
      ∧ (tells = true →
        Runs .mapPutWrite s { h.notify with table.resting := none }
        ∧ (∀ c, s.hub.permit.check = some c → s.hub.permit.state = .still →
            (c.restarted = false → h.notify = { h with permit.check := some { c with stale := true } })
            ∧ (c.restarted = true → h.notify = { h with permit.check := none }.refuse c.ask.seq .stale false))
        ∧ (s.hub.permit.check = none → s.hub.permit.state ≠ .moving → s.hub.permit.state ≠ .probing → h.notify = h)
        ∧ (∀ p, s.hub.permit.check = none → s.hub.permit.state = .moving ∨ s.hub.permit.state = .probing →
            s.hub.permit.active = some p →
            (s.hub.permit.recheck.isSome = true → h.notify = { h with permit.recheckPending := true })
            ∧ (s.hub.permit.recheck = none → (h.newRecheck p).claim.isSome = true →
              h.notify =
                { h with permit.recheck := some (h.newRecheck p), permit.recheckTurn := .recheck }))))

/-- MAP_DELETE_WRITE: a guard that differs answers CHANGED with the generation, a free slot NOT_FOUND, and else the
entry leaves its slot whatever it was. MAP_CONFIRM_WRITE pins or unpins the SENSED entry of the tile, keeping stamp
and confidence, and advances the generation only when the pin changes. No further claim is to be made (log 36). -/
def Obligations.MapDeleteAndConfirmWrites : Prop :=
  ∀ s : State, s.hub.inReset = false → s.hub.grants .plan = true →
    let settled (h : Hub) : Hub := { h with table.resting := none }
    (∀ slot guarded, s.hub.plan.slot = .inService (.delete slot guarded) →
      (∀ g, guarded = some g → g ≠ s.hub.table.generation →
        Runs .mapDeleteWrite s (settled (s.hub.reply .plan ⟨.changed, 0x11#8, be16 s.hub.table.generation⟩)))
      ∧ (guarded = none ∨ guarded = some s.hub.table.generation → s.hub.table.slots.entry slot = none →
        Runs .mapDeleteWrite s (settled (s.hub.reply .plan ⟨.notFound, 0x11#8, []⟩)))
      ∧ (∀ e, guarded = none ∨ guarded = some s.hub.table.generation → s.hub.table.slots.entry slot = some e →
        let gen := (s.hub.table.generation + 1) % 65536
        Runs .mapDeleteWrite s
          (settled (Hub.reply .plan ⟨.done, 0x11#8, be16 gen⟩
            (Hub.setPlan .mapChanged
              { s.hub with table.slots := s.hub.table.slots.remove slot, table.generation := gen })))))
    ∧ (∀ f t pin, s.hub.plan.slot = .inService (.confirm f t pin) →
      (s.hub.table.sensedAt f t = none → Runs .mapConfirmWrite s (settled (s.hub.reply .plan ⟨.notFound, 0x12#8, []⟩)))
      ∧ (∀ slot e, s.hub.table.sensedAt f t = some slot → s.hub.table.slots.entry slot = some e →
        let gen := if e.pinned = pin then s.hub.table.generation else (s.hub.table.generation + 1) % 65536
        ∃ h : Hub, Runs .mapConfirmWrite s h
          ∧ h.table =
              { s.hub.table with
                slots := s.hub.table.slots.put slot { e with pinned := pin }, generation := gen, resting := none }
          ∧ h.plan.slot =
              .ready ⟨.done, 0x12#8, be16 slot ++ [byte e.cls.ctorIdx, byte e.confidence] ++ be16 gen⟩
          ∧ { h with table := s.hub.table, plan := s.hub.plan, att := s.hub.att } = s.hub))

/-- MAP_QUERY_READ collects a matching entry and goes on to the next occupied slot; a ninth match, or no further
occupied slot, forms the reply, and the table stays. MAP_CLEAR_CLAIM reads a slot, removes an entry of the floor in a
second claim with the generation advanced by 1, and answers after the last slot with the number removed and the
generation after the last removal, whatever the generation has become since. The model's choices: that a removal is
made only while the entry still belongs to the floor (log 10), when the next claim comes (log 36), that the free slots
passed on the way to it count as examined (log 42), and the generation answered where nothing was removed (log 38). -/
def Obligations.MapQueryAndClearClaims : Prop :=
  ∀ s : State, s.hub.inReset = false → s.hub.grants .plan = true →
    let goesOn (v : Service) : Hub := { s.hub with plan.slot := .inService v, table.resting := some .plan }
    let answers (found : List (Nat × Entry)) (next : Option Nat) : Hub :=
      { s.hub.answerQuery found next with table.resting := none }
    (∀ f x0 y0 w ht slot found, s.hub.plan.slot = .inService (.query f x0 y0 w ht slot found) →
      (∀ e, s.hub.table.slots.entry slot = some e → e.floor = f → e.meets x0 y0 w ht = true →
          (∀ next, found.length < 8 → s.hub.table.slots.nextOccupied (slot + 1) = some next →
            Runs .mapQueryRead s (goesOn (.query f x0 y0 w ht next (found ++ [(slot, e)]))))
          ∧ (found.length < 8 → s.hub.table.slots.nextOccupied (slot + 1) = none →
            Runs .mapQueryRead s (answers (found ++ [(slot, e)]) none))
          ∧ (found.length = 8 → Runs .mapQueryRead s (answers found (some slot))))
      ∧ ((s.hub.table.slots.entry slot).all (fun e => decide (e.floor ≠ f) || !e.meets x0 y0 w ht) = true →
          (∀ next, s.hub.table.slots.nextOccupied (slot + 1) = some next →
            Runs .mapQueryRead s (goesOn (.query f x0 y0 w ht next found)))
          ∧ (s.hub.table.slots.nextOccupied (slot + 1) = none → Runs .mapQueryRead s (answers found none))))
    ∧ (∀ f slot removing removed last, s.hub.plan.slot = .inService (.clear f slot removing removed last) →
      let done (n gen : Nat) (h : Hub) : Hub :=
        { h.reply .plan ⟨.done, 0x14#8, be16 n ++ be16 gen⟩ with table.resting := none }
      ((s.hub.table.slots.entry slot).all (fun e => decide (e.floor ≠ f)) = true →
        (∀ next, s.hub.table.slots.nextOccupied (slot + 1) = some next →
          Runs .mapClearClaim s (goesOn (.clear f next false removed last)))
        ∧ (s.hub.table.slots.nextOccupied (slot + 1) = none →
          (∀ g, last = some g → Runs .mapClearClaim s (done removed g s.hub))
          ∧ (last = none → Runs .mapClearClaim s (done removed s.hub.table.generation s.hub))))
      ∧ (∀ e, s.hub.table.slots.entry slot = some e → e.floor = f →
        let gen := (s.hub.table.generation + 1) % 65536
        let less := s.hub.table.slots.remove slot
        let cleared : Hub := Hub.setPlan .mapChanged { s.hub with table.slots := less, table.generation := gen }
        (removing = false → Runs .mapClearClaim s (goesOn (.clear f slot true removed last)))
        ∧ (∀ next, removing = true → less.nextOccupied (slot + 1) = some next →
          Runs .mapClearClaim s
            { cleared with
              plan.slot := .inService (.clear f next false (removed + 1) (some gen)), table.resting := some .plan })
        ∧ (removing = true → less.nextOccupied (slot + 1) = none →
          Runs .mapClearClaim s (done (removed + 1) gen cleared))))

/-! ## Pose, floor and dock -/

/-- SET_POSE with good fields, outside LOAD and motion and not LIFTED: the pose is the one given and TRACKING, the
range indication clear, the active floor the one given, the block no longer posting; the reply carries the pose.
Otherwise the first failing test answers and the odometry stays. SET_FLOOR meets the same tests: a floor out of range,
LOAD, motion and LIFTED are refused in that order. SET_FLOOR of another floor, accepted: the active floor is the one
given, the route is emptied with ROUTE_EMPTY, the trail with it, but for the crumb that TRACKING and IDLE push at the
pose at once, noted tiles are cancelled and the block stops posting; pose and table stay. A SET_POSE that changes the
floor does the same to route and trail, the crumb at its pose. The floor already active changes nothing. That a
restarted check is abandoned after the route's flush is the model's choice (log 40). -/
def Obligations.PoseAndFloorAreSet : Prop :=
  (∀ (s : State) (body : List Byte), s.hub.inReset = false → s.hub.planOpen → body.length = 7 →
      let h := s.hub.framed .plan
      let x := s16 body 0
      let y := s16 body 2
      let good := mmInWorld x && mmInWorld y
      (good = false ∨ floorOf (u8 body 6) = none → Runs (.setPose body) s (h.reply .plan ⟨.badField, 0x19#8, []⟩))
      ∧ (∀ f, good = true → floorOf (u8 body 6) = some f →
        (s.hub.loading = true → Runs (.setPose body) s (h.reply .plan ⟨.busy, 0x19#8, []⟩))
        ∧ (s.hub.loading = false → s.hub.inMotion = true → Runs (.setPose body) s (h.reply .plan ⟨.inMotion, 0x19#8, []⟩))
        ∧ (s.hub.loading = false → s.hub.inMotion = false → s.hub.odo.pose = .lifted →
            Runs (.setPose body) s (h.reply .plan ⟨.lifted, 0x19#8, []⟩))
        ∧ (s.hub.loading = false → s.hub.inMotion = false → s.hub.odo.pose ≠ .lifted →
            ∃ t : Hub, Runs (.setPose body) s t
              ∧ t.odo.x = 1000 * x ∧ t.odo.y = 1000 * y ∧ t.odo.heading = u16 body 4 ∧ t.odo.pose = .tracking
              ∧ t.odo.rangeSet = false ∧ t.odo.floor = f ∧ t.scanner.block.posting = false
              ∧ t.odo.left.noted = none ∧ t.odo.right.noted = none
              ∧ (f ≠ s.hub.floor → t.route.waypoints = [] ∧ t.planHas .routeEmpty = true
                ∧ t.trail.crumbs =
                    (if s.hub.dock.state = .idle then [⟨x, y, u16 body 4, f, s.hub.trail.pushCounter⟩] else []))
              ∧ t.plan.slot = .ready ⟨.done, 0x19#8, be16s x ++ be16s y ++ be16 (u16 body 4) ++ [byte f.val]⟩
              ∧ t.table = s.hub.table ∧ t.permit.state = s.hub.permit.state)))
  ∧ (∀ (s : State) (b : Byte), s.hub.inReset = false → s.hub.planOpen →
      let no (st : Status) : Hub := (s.hub.framed .plan).reply .plan ⟨st, 0x18#8, []⟩
      (3 < b.toNat → Runs (.setFloor [b]) s (no .badField))
      ∧ (b.toNat ≤ 3 → s.hub.loading = true → Runs (.setFloor [b]) s (no .busy))
      ∧ (b.toNat ≤ 3 → s.hub.loading = false → s.hub.inMotion = true → Runs (.setFloor [b]) s (no .inMotion))
      ∧ (b.toNat ≤ 3 → s.hub.loading = false → s.hub.inMotion = false → s.hub.odo.pose = .lifted →
          Runs (.setFloor [b]) s (no .lifted)))
  ∧ ∀ (s : State) (b : Byte) (f : Floor), s.hub.inReset = false → s.hub.planOpen → floorOf b.toNat = some f →
      s.hub.loading = false → s.hub.inMotion = false → s.hub.odo.pose ≠ .lifted →
      let h := s.hub.framed .plan
      (f = s.hub.floor → Runs (.setFloor [b]) s (h.reply .plan ⟨.done, 0x18#8, [byte f.val]⟩))
      ∧ (f ≠ s.hub.floor →
        ∃ t : Hub, Runs (.setFloor [b]) s t ∧ t.odo.floor = f ∧ t.route.waypoints = [] ∧ t.planHas .routeEmpty = true
          ∧ t.trail.crumbs =
              (if s.hub.tracking = true ∧ s.hub.dock.state = .idle then
                [⟨worldMm s.hub.odo.x, worldMm s.hub.odo.y, s.hub.odo.heading, f, s.hub.trail.pushCounter⟩]
              else [])
          ∧ t.odo.left.noted = none ∧ t.odo.right.noted = none
          ∧ t.scanner.block.posting = false
          ∧ t.odo.x = s.hub.odo.x ∧ t.odo.y = s.hub.odo.y ∧ t.odo.heading = s.hub.odo.heading
          ∧ t.odo.pose = s.hub.odo.pose ∧ t.table = s.hub.table
          ∧ t.plan.slot = .ready ⟨.done, 0x18#8, [byte f.val]⟩)

/-- SET_DOCK writes the record or is refused; with valid no the other fields stay as they were (log 22). DOCKED makes
the return DOCKED with the fallback count 0 and the trail empty; a usable record corrects the pose, an unusable one is
written from a TRACKING pose, and a LIFTED pose stays. UNDOCKED makes the return IDLE with a new trail. -/
def Obligations.DockRecordAndDockReports : Prop :=
  ∀ s : State, s.hub.inReset = false →
    (∀ body, s.hub.planOpen → body.length = 8 →
      let h := s.hub.framed .plan
      let good := mmInWorld (s16 body 1) && mmInWorld (s16 body 3)
      (bitAt body 0 0 = true → good = false ∨ floorOf (u8 body 7) = none →
        Runs (.setDock body) s (h.reply .plan ⟨.badField, 0x1A#8, []⟩))
      ∧ (∀ f, bitAt body 0 0 = true → good = true → floorOf (u8 body 7) = some f →
        ∃ t : Hub, Runs (.setDock body) s t ∧ t.dock.record = ⟨true, s16 body 1, s16 body 3, u16 body 5, f⟩
          ∧ t.plan.slot = .ready ⟨.done, 0x1A#8, t.dock.record.encode⟩
          ∧ (s.hub.dock.state ≠ .approach → t.dock.state = s.hub.dock.state))
      ∧ (bitAt body 0 0 = false →
        ∃ t : Hub, Runs (.setDock body) s t ∧ t.dock.record = { s.hub.dock.record with valid := false }
          ∧ t.plan.slot = .ready ⟨.done, 0x1A#8, t.dock.record.encode⟩
          ∧ t.dock.state = (if s.hub.dock.state = .approach then .docking else s.hub.dock.state)))
    ∧ (∃ t : Hub, Runs (.docked []) s t ∧ t.dock.state = .docked ∧ t.dock.timer = none ∧ t.dock.fallbacks = 0
        ∧ t.trail = { s.hub.trail with crumbs := [] }
        ∧ t.power.slot = some ⟨.done, 0x4A#8, byte 4 :: t.dock.record.encode⟩
        ∧ (s.hub.dockUsable = true → s.hub.odo.pose ≠ .lifted →
            t.odo.pose = .tracking ∧ t.odo.x = 1000 * s.hub.dock.record.x ∧ t.odo.y = 1000 * s.hub.dock.record.y
            ∧ t.odo.heading = s.hub.dock.record.heading ∧ t.dock.record = s.hub.dock.record)
        ∧ (s.hub.odo.pose = .lifted → t.odo = s.hub.odo ∧ t.dock.record = s.hub.dock.record)
        ∧ (s.hub.dockUsable = false → s.hub.tracking = true →
            t.odo = s.hub.odo
            ∧ t.dock.record = ⟨true, worldMm s.hub.odo.x, worldMm s.hub.odo.y, s.hub.odo.heading, s.hub.floor⟩)
        ∧ t.permit.holds.plan = s.hub.permit.holds.plan ∧ t.table = s.hub.table)
    ∧ (∃ t : Hub, Runs (.undocked []) s t ∧ t.dock = { s.hub.dock with state := .idle, timer := none }
        ∧ t.trail.crumbs =
            (if s.hub.tracking then
              [⟨worldMm s.hub.odo.x, worldMm s.hub.odo.y, s.hub.odo.heading, s.hub.floor, s.hub.trail.pushCounter⟩]
            else [])
        ∧ t.power.slot = some ⟨.done, 0x4B#8, [byte 0]⟩ ∧ t.odo = s.hub.odo ∧ t.permit = s.hub.permit)

/-! ## The route -/

/-- ROUTE_APPEND: its tests in their order; an accepted waypoint joins the tail and the ROUTE hold goes. ROUTE_FLUSH
empties the queue, sets ROUTE_EMPTY and answers the number removed. ROUTE_READ gives up to four waypoints from its
start position and changes nothing. -/
def Obligations.RouteRequestsTestInOrder : Prop :=
  ∀ (s : State) (body : List Byte), s.hub.inReset = false → s.hub.planOpen →
    let h := s.hub.framed .plan
    let refused (st : Status) : Hub := h.reply .plan ⟨st, 0x20#8, []⟩
    (body.length = 11 → Waypoint.parse body = none → Runs (.routeAppend body) s (refused .badField))
    ∧ (∀ w, body.length = 11 → Waypoint.parse body = some w →
      (s.hub.returning = true → Runs (.routeAppend body) s (refused .returning))
      ∧ (s.hub.returning = false → w.floor ≠ s.hub.floor → Runs (.routeAppend body) s (refused .wrongFloor))
      ∧ (s.hub.returning = false → w.floor = s.hub.floor → 16 ≤ s.hub.route.waypoints.length →
          Runs (.routeAppend body) s (refused .queueFull))
      ∧ (s.hub.returning = false → w.floor = s.hub.floor → s.hub.route.waypoints.length < 16 →
          let holds : Holds := { s.hub.permit.holds with route := false }
          Runs (.routeAppend body) s
            ({ h with route.waypoints := s.hub.route.waypoints ++ [w], permit.holds := holds }.reply .plan
              ⟨.done, 0x20#8, [byte (s.hub.route.waypoints.length + 1), byte holds.bits]⟩)))
    ∧ Runs (.routeFlush []) s
        (Hub.reply .plan ⟨.done, 0x21#8, [byte s.hub.route.waypoints.length]⟩
          (Hub.setPlan .routeEmpty { h with route.waypoints := [] }))
    ∧ (∀ b : Byte, 15 < b.toNat → Runs (.routeRead [b]) s (h.reply .plan ⟨.badField, 0x22#8, []⟩))
    ∧ (∀ b : Byte, b.toNat ≤ 15 →
      Runs (.routeRead [b]) s
        (h.reply .plan ⟨.done, 0x22#8,
          byte s.hub.route.waypoints.length :: be16 s.hub.route.advances
          ++ [flagByte s.hub.permit.holds.route, byte (min 4 (s.hub.route.waypoints.length - b.toNat))]
          ++ (page s.hub.route.waypoints b.toNat).flatMap fun p => byte p.2 :: p.1.encode⟩))

/-! ## The trail and the return -/

/-- Thinning a full trail removes crumbs 2, 4, …, 64 and keeps the other 96 in their order; the push that follows
makes the new crumb the 97th. -/
def Obligations.ThinningKeepsNinetySixCrumbs : Prop :=
  ∀ h : Hub, h.trail.crumbs.length = 128 →
    (thinned h.trail.crumbs).length = 96
    ∧ (∀ i, i < 32 → (thinned h.trail.crumbs)[i]? = h.trail.crumbs[2 * i]?)
    ∧ (∀ i, i < 64 → (thinned h.trail.crumbs)[32 + i]? = h.trail.crumbs[64 + i]?)
    ∧ h.pushCrumb.trail.crumbs
        = thinned h.trail.crumbs
          ++ [⟨worldMm h.odo.x, worldMm h.odo.y, h.odo.heading, h.floor, h.trail.pushCounter⟩]
    ∧ h.pushCrumb.trail.pushCounter = (h.trail.pushCounter + 1) % 65536

/-- TRAIL_READ gives up to four crumbs from its start position and changes nothing. TRAIL_CLEAR is refused while a
return runs or has failed; else the trail is emptied, and in IDLE and TRACKING a first crumb is laid. -/
def Obligations.TrailRequests : Prop :=
  ∀ s : State, s.hub.inReset = false → s.hub.planOpen →
    let h := s.hub.framed .plan
    (∀ b : Byte, b.toNat = 0 ∨ 128 < b.toNat → Runs (.trailRead [b]) s (h.reply .plan ⟨.badField, 0x30#8, []⟩))
    ∧ (∀ b : Byte, 1 ≤ b.toNat → b.toNat ≤ 128 →
      Runs (.trailRead [b]) s
        (h.reply .plan ⟨.done, 0x30#8,
          byte s.hub.trail.crumbs.length :: be16 s.hub.trail.pushCounter
          ++ [byte s.hub.dock.state.ctorIdx, byte (min 4 (s.hub.trail.crumbs.length - (b.toNat - 1)))]
          ++ (page s.hub.trail.crumbs (b.toNat - 1)).flatMap fun p => byte (p.2 + 1) :: p.1.encode⟩))
    ∧ (s.hub.returning = true → Runs (.trailClear []) s (h.reply .plan ⟨.returning, 0x31#8, []⟩))
    ∧ (s.hub.returning = false →
      let crumb : Crumb := ⟨worldMm s.hub.odo.x, worldMm s.hub.odo.y, s.hub.odo.heading, s.hub.floor, s.hub.trail.pushCounter⟩
      let trail : Trail :=
        if s.hub.tracking && decide (s.hub.dock.state = .idle) then
          { crumbs := [crumb], pushCounter := (s.hub.trail.pushCounter + 1) % 65536 }
        else { s.hub.trail with crumbs := [] }
      Runs (.trailClear []) s
        ({ h with trail := trail }.reply .plan ⟨.done, 0x31#8, [byte s.hub.trail.crumbs.length]⟩))

/-- RETURN_START: its tests in their order on either port; an accepted start flushes the route with ROUTE_EMPTY,
zeroes the fallback count and begins in TRAIL when there are crumbs, and else at the dock. RETURN_CANCEL makes the
return IDLE with the docking timer stopped, and changes nothing in IDLE. -/
def Obligations.ReturnRequestsTestInOrder : Prop :=
  ∀ (s : State) (p : Port), s.hub.inReset = false → s.hub.portOpen p →
    let h := s.hub.framed p
    let answer (st : Status) : Hub := h.reply p ⟨st, 0x32#8, []⟩
    let free := s.hub.dock.state = .idle ∨ s.hub.dock.state = .failed
    (s.hub.dock.state = .docked → Runs (.returnStart p []) s (answer .atDock))
    ∧ (s.hub.dock.state = .trail ∨ s.hub.dock.state = .approach ∨ s.hub.dock.state = .docking →
        Runs (.returnStart p []) s (h.reply p ⟨.done, 0x32#8, [byte s.hub.dock.state.ctorIdx]⟩))
    ∧ (free → s.hub.odo.pose ≠ .tracking → Runs (.returnStart p []) s (answer .noPose))
    ∧ (free → s.hub.odo.pose = .tracking →
        (s.hub.dock.record.valid = true → s.hub.dock.record.floor ≠ s.hub.floor →
          Runs (.returnStart p []) s (answer .wrongFloor))
        ∧ (s.hub.dock.record.valid = false → s.hub.trail.crumbs = [] → Runs (.returnStart p []) s (answer .noDock))
        ∧ (s.hub.dock.record.valid = true ∧ s.hub.dock.record.floor = s.hub.floor
            ∨ s.hub.dock.record.valid = false ∧ s.hub.trail.crumbs ≠ [] →
          ∃ t : Hub, Runs (.returnStart p []) s t ∧ t.route.waypoints = [] ∧ t.planHas .routeEmpty = true
            ∧ t.dock.fallbacks = 0 ∧ t.planHas .returnChanged = true ∧ t.powerHas .returnChanged = true
            ∧ (s.hub.trail.crumbs ≠ [] → t.dock.state = .trail)
            ∧ (s.hub.trail.crumbs = [] → t.dock.state = .approach ∨ t.dock.state = .docking)
            ∧ t.trail = s.hub.trail ∧ t.permit = s.hub.permit ∧ t.table = s.hub.table))
    ∧ (s.hub.dock.state = .idle → Runs (.returnCancel p []) s (h.reply p ⟨.done, 0x33#8, [byte 0]⟩))
    ∧ (s.hub.dock.state ≠ .idle →
        ∃ t : Hub, Runs (.returnCancel p []) s t ∧ t.dock = { s.hub.dock with state := .idle, timer := none }
          ∧ t.planHas .returnChanged = true ∧ t.powerHas .returnChanged = true ∧ t.permit = s.hub.permit
          ∧ t.odo = s.hub.odo ∧ t.route.waypoints = s.hub.route.waypoints)

/-- The steer hint of the final approach by the fresh sightings' field codes, for every pair of them. -/
def Obligations.SteerHintFollowsTheSightings : Prop :=
  ∀ h : Hub,
    let l := h.beacon.left.freshField
    let r := h.beacon.right.freshField
    let fans (f : FieldCode) : Prop := l = some f ∨ r = some f
    (l = some .centre → r = some .centre → h.beaconHint = .ahead)
    ∧ (l = some .centre → r ≠ some .centre → h.beaconHint = .turnLeft)
    ∧ (l ≠ some .centre → r = some .centre → h.beaconHint = .turnRight)
    ∧ (l ≠ some .centre → r ≠ some .centre →
        (fans .leftFan → fans .rightFan → h.beaconHint = .ahead)
        ∧ (fans .leftFan → ¬ fans .rightFan → h.beaconHint = .slideRight)
        ∧ (¬ fans .leftFan → fans .rightFan → h.beaconHint = .slideLeft)
        ∧ (¬ fans .leftFan → ¬ fans .rightFan → h.beaconHint = .search))
    ∧ (h.dock.state = .docking → h.tracking = true →
        h.guidance.target = .beacon ∧ h.guidance.hint = h.beaconHint
        ∧ (h.guidance.near = true ↔ fans .halo))

/-! ## Beacon slots, load mode and the Map Store's requests -/

/-- BEACON_SLOT replaces one slot's three fields and answers with them, a slot above 2 is refused. LOAD_MODE adds or
removes POWER and answers with the cause set and the mode; a change between empty and not empty sets HEAVY_LOAD on
both ports and the scanner's pending mode; another setting is refused. -/
def Obligations.BeaconSlotAndLoadMode : Prop :=
  ∀ (s : State) (a b c d e f : Byte), s.hub.inReset = false →
    (s.hub.planOpen →
      let h := s.hub.framed .plan
      let m : MatchSlot :=
        ⟨BitVec.ofNat 16 (256 * b.toNat + c.toNat), BitVec.ofNat 16 (256 * d.toNat + e.toNat), f.getLsbD 0⟩
      let body := a :: be16 m.pattern.toNat ++ be16 m.mask.toNat ++ [flagByte m.enabled]
      (2 < a.toNat → Runs (.beaconSlot [a, b, c, d, e, f]) s (h.reply .plan ⟨.badField, 0x38#8, []⟩))
      ∧ (a.toNat = 0 → Runs (.beaconSlot [a, b, c, d, e, f]) s
          ({ h with beacon.slot0 := m }.reply .plan ⟨.done, 0x38#8, body⟩))
      ∧ (a.toNat = 1 → Runs (.beaconSlot [a, b, c, d, e, f]) s
          ({ h with beacon.slot1 := m }.reply .plan ⟨.done, 0x38#8, body⟩))
      ∧ (a.toNat = 2 → Runs (.beaconSlot [a, b, c, d, e, f]) s
          ({ h with beacon.slot2 := m }.reply .plan ⟨.done, 0x38#8, body⟩)))
    ∧ (1 < a.toNat → Runs (.loadMode [a]) s (s.hub.reply .power ⟨.badField, 0x48#8, []⟩))
    ∧ (a.toNat ≤ 1 →
      let l : LoadSup := { s.hub.load with power := decide (a.toNat = 1) }
      let answer (h : Hub) : Hub := h.reply .power ⟨.done, 0x48#8, [byte l.bits, flagByte l.heavy]⟩
      Runs (.loadMode [a]) s
        (answer
          (if l.heavy = s.hub.load.heavy then { s.hub with load := l }
          else Hub.setPower .heavyLoad
            (Hub.setPlan .heavyLoad { s.hub with load := l, scanner.pendingAveraged := l.heavy }))))

/-- MAP_SAVE and MAP_LOAD: their tests in their order; on STARTED the store begins its operation with a read of
status, and a load answers a check in flight with REFUSE LOADING on the Drive link, counted. STORE_STATUS answers its
thirteen bytes at the places of R198 and changes nothing. That the abandoned check's reply says brush lift no is log
30, the codes for no last operation and no last result are log 23's. -/
def Obligations.StoreRequestsStartOperations : Prop :=
  ∀ (s : State) (a b : Byte), s.hub.inReset = false → s.hub.planOpen →
    let h := s.hub.framed .plan
    let mask := BitVec.ofNat 4 a.toNat
    let no (code : Byte) (st : Status) : Hub := h.reply .plan ⟨st, code, []⟩
    (mask = 0 ∨ 3 < b.toNat → Runs (.mapSave [a, b]) s (no 0x40#8 .badField))
    ∧ (∀ home, mask ≠ 0 → floorOf b.toNat = some home →
      (s.hub.store.phase ≠ .idle → Runs (.mapSave [a, b]) s (no 0x40#8 .busy))
      ∧ (s.hub.store.phase = .idle →
          Runs (.mapSave [a, b]) s
            ({ h with store.phase := .save (.begin mask home), store.linkOut := [[0x05#8]] }.reply .plan
              ⟨.started, 0x40#8, []⟩)))
    ∧ (mask = 0 → Runs (.mapLoad [a]) s (no 0x41#8 .badField))
    ∧ (mask ≠ 0 → s.hub.store.phase ≠ .idle → Runs (.mapLoad [a]) s (no 0x41#8 .busy))
    ∧ (mask ≠ 0 → s.hub.store.phase = .idle → s.hub.inMotion = true → Runs (.mapLoad [a]) s (no 0x41#8 .inMotion))
    ∧ (mask ≠ 0 → s.hub.store.phase = .idle → s.hub.inMotion = false →
      ∃ t : Hub, Runs (.mapLoad [a]) s t ∧ t.loading = true
        ∧ t.permit = { s.hub.permit with check := none }
        ∧ (s.hub.permit.check = none → t.drive = s.hub.drive ∧ t.att.refusals = s.hub.att.refusals)
        ∧ (∀ c, s.hub.permit.check = some c →
            t.drive = (s.hub.refuse c.ask.seq .loading false).drive
            ∧ t.att.refusals = s.hub.att.refusals.modify 4 sat8)
        ∧ t.store = { s.hub.store with
            phase := .load { LoadOp.startUpLoad with mask := mask, startUp := false }, linkOut := [[0x05#8]] }
        ∧ t.plan.slot = .ready ⟨.started, 0x41#8, []⟩ ∧ t.table = s.hub.table ∧ t.odo = s.hub.odo)
    ∧ (let code : Nat := match s.hub.store.phase with
        | .idle => 0
        | .load _ => 4
        | .save op =>
          match op.step with
          | .opening => 1
          | .erased _ => 1
          | .reading _ => 2
          | .programmed _ => 2
          | .headerSent => 3
          | .markerSent => 3
      let position : Nat := match s.hub.store.phase with
        | .save op => if code = 2 then op.position else 0
        | .idle => 0
        | .load _ => 0
      let operation : Byte := match s.hub.store.lastOp with
        | some .save => 0x00#8
        | some .load => 0x01#8
        | none => 0x02#8
      let result : Byte := match s.hub.store.lastResult with
        | none => 0x00#8
        | some .done => 0x00#8
        | some .noImage => 0x01#8
        | some .badCheck => 0x02#8
        | some .flashTimeout => 0x03#8
        | some .aborted => 0x04#8
        | some .tooMany => 0x05#8
      Runs (.storeStatus []) s
        (h.reply .plan
          ⟨.done, 0x42#8,
            byte code :: be16 position ++ [operation, result] ++ be16 s.hub.store.entryCount
              ++ be16 s.hub.store.dropped ++ be16 s.hub.store.skipped ++ be16 s.hub.table.generation⟩))

/-! ## The flash link, saves and loads -/

/-- FLASH_STATUS_READ. In a busy wait of a save, or the opening one of a load: busy within 500 ms of the wait's first
read, status is read again; busy past it, the operation ends FLASH_TIMEOUT, which ends start-up for the start-up load
and leaves no whole marker when the marker's program was under way. Busy clear: what was under way is complete, and
the save erases sectors 0 to 4 in turn, then takes slots from 0; counts a page done and goes on past the slot that
filled it; programs the header after the last page, then the marker, then ends DONE; a load reads the header. Outside
a busy wait nothing happens, which is the model's choice (log 1). What the flash holds is the hub's own commands
carried out (log 20), and what a cut marker leaves is free (log 21). SAVE_SLOT_READ: an entry of a masked floor joins
the page buffer as it stands, another is passed over; a full buffer of 16 is programmed at the next page; with no slot
left a last, shorter page or else the header follows. The table's entries stay. Where the position stands while a page
is programmed is log 32, when the next read claim comes log 36, and that its slot is settled as the claim before it
completes log 42, the model's choices. -/
def Obligations.SavesWaitReadAndProgram : Prop :=
  (∀ (s : State) (b : Byte), s.hub.inReset = false → b.getLsbD 0 = true →
      (∀ op, s.hub.store.phase = .save op → op.step.waits = true →
        (∀ first, op.waitFrom.getD s.hub.time.ms = first → (s.hub.time.ms + 4294967296 - first) % 4294967296 ≤ 500 →
          Runs (.flashStatusRead b) s
            { s.hub with store.phase := .save { op with waitFrom := some first }, store.linkOut := [[0x05#8]] })
        ∧ (∀ first, op.waitFrom = some first → 500 < (s.hub.time.ms + 4294967296 - first) % 4294967296 →
          (s.hub.store.underWay ≠ some (.pageProgram 0 imageMarker) →
            Runs (.flashStatusRead b) s
              (Hub.setPlan .storeDone
                { s.hub with
                  store.phase := .idle, store.lastOp := some .save, store.lastResult := some .flashTimeout
                  store.entryCount := op.written }))
          ∧ (s.hub.store.underWay = some (.pageProgram 0 imageMarker) → s.hub.flash.wf = true →
            ∃ h : Hub, Runs (.flashStatusRead b) s h ∧ h.flash.bytes 0 4 ≠ imageMarker ∧ h.store.underWay = none
              ∧ h.store.phase = .idle ∧ h.store.lastOp = some .save ∧ h.store.lastResult = some .flashTimeout
              ∧ h.store.entryCount = op.written ∧ h.planHas .storeDone = true ∧ h.table = s.hub.table
              ∧ ∀ a, 4 ≤ a → h.flash.read a = s.hub.flash.read a)))
      ∧ (∀ op, s.hub.store.phase = .load op → op.step = .opening →
        (∀ first, op.waitFrom.getD s.hub.time.ms = first → (s.hub.time.ms + 4294967296 - first) % 4294967296 ≤ 500 →
          Runs (.flashStatusRead b) s
            { s.hub with store.phase := .load { op with waitFrom := some first }, store.linkOut := [[0x05#8]] })
        ∧ (∀ first, op.waitFrom = some first → 500 < (s.hub.time.ms + 4294967296 - first) % 4294967296 →
          ∃ h : Hub, Runs (.flashStatusRead b) s h ∧ h.store.phase = .idle ∧ h.store.lastOp = some .load
            ∧ h.store.lastResult = some .flashTimeout ∧ h.planHas .storeDone = true
            ∧ h.table.slots = s.hub.table.slots ∧ h.dock.record = s.hub.dock.record
            ∧ (op.startUp = true → h.permit.startUpEnded = true ∧ h.odo.floor = 0)
            ∧ (op.startUp = false →
                h.permit.startUpEnded = s.hub.permit.startUpEnded ∧ h.odo.floor = s.hub.odo.floor))))
  ∧ (∀ (s : State) (b : Byte), s.hub.inReset = false → b.getLsbD 0 = false →
      let flash : Memory := match s.hub.store.underWay with
        | some (.pageProgram a data) => s.hub.flash.writeAll a data
        | _ => s.hub.flash
      let ready (c : Option FlashCommand) (p : StorePhase) (out : List (List Byte)) : Hub :=
        { s.hub with flash := flash, store := { s.hub.store with underWay := c, phase := p, linkOut := out } }
      let header (op : SaveOp) : Hub :=
        let tail := headerTail op.mask op.home s.hub.dock.record op.written op.crc
        ready (some (.pageProgram 4 tail)) (.save { op with step := .headerSent })
          [[0x06#8], 0x02#8 :: be24 4 ++ tail, [0x05#8]]
      (∀ op sector, s.hub.store.phase = .save op →
        (op.step = .opening ∧ sector = 0) ∨ (∃ k, op.step = .erased k ∧ k < 4 ∧ sector = k + 1) →
        Runs (.flashStatusRead b) s
          { ready (some (.sectorErase (4096 * sector)))
              (.save { op with step := .erased sector, waitFrom := none })
              [[0x06#8], 0x20#8 :: be24 (4096 * sector), [0x05#8]] with
            flash := flash.eraseSector (4096 * sector) })
      ∧ (∀ op, s.hub.store.phase = .save op → op.step = .erased 4 →
        (∀ slot, s.hub.table.slots.nextOccupied 0 = some slot →
          Runs (.flashStatusRead b) s
            (ready none (.save { op with step := .reading slot, position := 0, waitFrom := none }) s.hub.store.linkOut))
        ∧ (s.hub.table.slots.nextOccupied 0 = none → op.buffer = [] →
          Runs (.flashStatusRead b) s (header { op with position := 0, waitFrom := none })))
      ∧ (∀ op k, s.hub.store.phase = .save op → op.step = .programmed k →
        let done : SaveOp :=
          { op with
            written := op.written + op.buffer.length
            crc := crc16 op.crc (op.buffer.flatMap (·.encode)), buffer := [], waitFrom := none }
        (∀ slot next, k = some slot → s.hub.table.slots.nextOccupied (slot + 1) = some next →
          Runs (.flashStatusRead b) s
            (ready none (.save { done with position := slot + 1, step := .reading next }) s.hub.store.linkOut))
        ∧ (∀ slot, k = some slot → s.hub.table.slots.nextOccupied (slot + 1) = none →
          Runs (.flashStatusRead b) s (header { done with position := slot + 1 }))
        ∧ (k = none → Runs (.flashStatusRead b) s (header done)))
      ∧ (∀ op, s.hub.store.phase = .save op → op.step = .headerSent →
        Runs (.flashStatusRead b) s
          (ready (some (.pageProgram 0 imageMarker)) (.save { op with step := .markerSent, waitFrom := none })
            [[0x06#8], 0x02#8 :: be24 0 ++ imageMarker, [0x05#8]]))
      ∧ (∀ op, s.hub.store.phase = .save op → op.step = .markerSent →
        Runs (.flashStatusRead b) s
          (Hub.setPlan .storeDone
            { s.hub with
              flash := flash
              store := { s.hub.store with
                phase := .idle, underWay := none, lastOp := some .save, lastResult := some .done
                entryCount := op.written } }))
      ∧ (∀ op, s.hub.store.phase = .load op → op.step = .opening →
        Runs (.flashStatusRead b) s
          (ready none (.load { op with step := .header, waitFrom := none }) [0x03#8 :: be24 0])))
  ∧ (∀ (s : State) (b : Byte), s.hub.inReset = false →
      s.hub.store.phase = .idle ∨ (∃ op k, s.hub.store.phase = .save op ∧ op.step = .reading k)
        ∨ (∃ op, s.hub.store.phase = .load op ∧ op.step ≠ .opening) →
      Runs (.flashStatusRead b) s s.hub)
  ∧ ∀ (s : State) (op : SaveOp) (slot : Nat), s.hub.inReset = false → s.hub.grants .store = true →
      s.hub.store.phase = .save op → op.step = .reading slot →
      let read := ((s.hub.table.slots.entry slot).filter fun e => masks op.mask e.floor).toList
      let op' : SaveOp := { op with buffer := op.buffer ++ read, waitFrom := none }
      let sent (a : Nat) (data : List Byte) (o : SaveOp) : Hub :=
        { s.hub with
          table.resting := none
          store := { s.hub.store with
            underWay := some (.pageProgram a data), phase := .save o
            linkOut := [[0x06#8], 0x02#8 :: be24 a ++ data, [0x05#8]] } }
      let page := op'.buffer.flatMap (·.encode)
      (∀ next, op'.buffer.length ≠ 16 → s.hub.table.slots.nextOccupied (slot + 1) = some next →
        Runs .saveSlotRead s
          { s.hub with
            store.phase := .save { op' with position := slot + 1, step := .reading next }
            table.resting := some .store })
      ∧ (op'.buffer.length = 16 →
        Runs .saveSlotRead s (sent (4096 + 16 * op.written) page { op' with step := .programmed (some slot) }))
      ∧ (op'.buffer.length ≠ 16 → s.hub.table.slots.nextOccupied (slot + 1) = none → op'.buffer ≠ [] →
        Runs .saveSlotRead s
          (sent (4096 + 16 * op.written) page { op' with position := slot + 1, step := .programmed none }))
      ∧ (s.hub.table.slots.nextOccupied (slot + 1) = none → op'.buffer = [] →
        Runs .saveSlotRead s
          (sent 4 (headerTail op.mask op.home s.hub.dock.record op.written op.crc)
            { op' with position := slot + 1, step := .headerSent }))

/-- FLASH_READ_DONE in the first pass: a header without the marker or format ends the load with NO_IMAGE, one with bad
fields with BAD_CHECK, and neither touches the table or the dock record. A good header with entries starts reading
them; each is taken into the CRC and judged, and after the last, or at once with none, a bad entry or another CRC ends
the load with BAD_CHECK, else the removal begins. LOAD_REMOVAL_CLAIM removes the entry of a floor loaded in one write,
with the generation advanced by 1, and passes over a slot that holds none; with no slot left the second pass begins,
or the load ends when the image is empty. In the second pass a read entry of a floor loaded waits for its insertion,
another is passed over. LOAD_INSERT_WRITE creates the image entry in the lowest free slot with every field of the
image, skips a SENSED one whose tile has a SENSED entry, and drops one that finds no slot free. Neither notifies.
After the last entry the header's dock record is written if its floor was loaded, the load ends DONE or TOO_MANY with
its counts, and the start-up load makes the home floor active and ends start-up. Logs 10, 32, 34, 36 and 42 say what
the model chose. -/
def Obligations.LoadsJudgeAndRewrite : Prop :=
  (∀ (s : State) (op : LoadOp) (answer : FlashAnswer), s.hub.inReset = false → s.hub.store.phase = .load op →
      let failed (r : StoreResult) (h : Hub) : Prop :=
        h.store.phase = .idle ∧ h.store.lastOp = some .load ∧ h.store.lastResult = some r ∧ h.planHas .storeDone = true
        ∧ h.table.slots = s.hub.table.slots ∧ h.table.generation = s.hub.table.generation
        ∧ h.dock.record = s.hub.dock.record
        ∧ (op.startUp = true → h.permit.startUpEnded = true ∧ h.odo.floor = 0)
      (op.step = .header →
        let bytes := s.hub.flashBytes 0 64 answer
        (ImageHeader.decode bytes = none → ∃ h : Hub, Runs (.flashReadDone answer) s h ∧ failed .noImage h)
        ∧ (∀ k, ImageHeader.decode bytes = some k → k.legal = false →
          ∃ h : Hub, Runs (.flashReadDone answer) s h ∧ failed .badCheck h)
        ∧ (∀ k, ImageHeader.decode bytes = some k → k.legal = true → 0 < k.count →
          Runs (.flashReadDone answer) s
            { s.hub with
              store.phase := .load { op with header := some k, step := .judge 0 }
              store.linkOut := [0x03#8 :: be24 4096] })
        ∧ (∀ k, ImageHeader.decode bytes = some k → k.legal = true → k.count = 0 →
          let op' : LoadOp := { op with header := some k }
          (op.bad = true ∨ op.crc ≠ k.crc → ∃ h : Hub, Runs (.flashReadDone answer) s h ∧ failed .badCheck h)
          ∧ (∀ slot, op.bad = false → op.crc = k.crc → s.hub.table.slots.nextOccupied 0 = some slot →
            Runs (.flashReadDone answer) s { s.hub with store.phase := .load { op' with step := .removeRead slot } })
          ∧ (∀ home dockFloor, op.bad = false → op.crc = k.crc → s.hub.table.slots.nextOccupied 0 = none →
            floorOf k.home = some home → floorOf k.dockFloor = some dockFloor →
            ∃ h : Hub, Runs (.flashReadDone answer) s h ∧ h.store.phase = .idle ∧ h.store.lastOp = some .load
              ∧ h.store.lastResult = some (if op.dropped = 0 then .done else .tooMany) ∧ h.planHas .storeDone = true
              ∧ h.store.entryCount = op.inserted ∧ h.table.slots = s.hub.table.slots
              ∧ h.dock.record =
                  (if masks (op.mask &&& k.mask) dockFloor then
                    ⟨k.dockValid, k.dockX, k.dockY, k.dockHeading, dockFloor⟩
                  else s.hub.dock.record)
              ∧ (op.startUp = true → h.permit.startUpEnded = true ∧ h.odo.floor = home))))
      ∧ (∀ i k, op.step = .judge i → op.header = some k →
        let bytes := s.hub.flashBytes (4096 + 16 * i) 16 answer
        let good : Bool := match Entry.decode bytes with
          | none => false
          | some e => masks k.mask e.floor
        let op' : LoadOp := { op with crc := crc16 op.crc bytes, bad := op.bad || !good }
        (i + 1 < k.count →
          Runs (.flashReadDone answer) s
            { s.hub with
              store.phase := .load { op' with step := .judge (i + 1) }
              store.linkOut := [0x03#8 :: be24 (4096 + 16 * (i + 1))] })
        ∧ (k.count ≤ i + 1 → op'.bad = true ∨ op'.crc ≠ k.crc →
          ∃ h : Hub, Runs (.flashReadDone answer) s h ∧ failed .badCheck h)
        ∧ (∀ slot, k.count ≤ i + 1 → op'.bad = false → op'.crc = k.crc → s.hub.table.slots.nextOccupied 0 = some slot →
          Runs (.flashReadDone answer) s { s.hub with store.phase := .load { op' with step := .removeRead slot } })
        ∧ (k.count ≤ i + 1 → 0 < k.count → op'.bad = false → op'.crc = k.crc → s.hub.table.slots.nextOccupied 0 = none →
          Runs (.flashReadDone answer) s
            { s.hub with
              store.phase := .load { op' with step := .fetch 0 }, store.linkOut := [0x03#8 :: be24 4096] }))
      ∧ (∀ i e, op.step = .fetch i → Entry.decode (s.hub.flashBytes (4096 + 16 * i) 16 answer) = some e →
        (masks op.floors e.floor = true →
          Runs (.flashReadDone answer) s { s.hub with store.phase := .load { op with step := .insert i e } })
        ∧ (masks op.floors e.floor = false → i + 1 < op.count →
          Runs (.flashReadDone answer) s
            { s.hub with
              store.phase := .load { op with step := .fetch (i + 1) }
              store.linkOut := [0x03#8 :: be24 (4096 + 16 * (i + 1))] })))
  ∧ (∀ (s : State) (op : LoadOp), s.hub.inReset = false → s.hub.grants .store = true → s.hub.store.phase = .load op →
      let removes (slot : Nat) : Hub := { s.hub with store.phase := .load { op with step := .removeRead slot } }
      let inserts : Hub :=
        { s.hub with store.phase := .load { op with step := .fetch 0 }, store.linkOut := [0x03#8 :: be24 4096] }
      let less (slot : Nat) (h : Hub) : Hub :=
        Hub.setPlan .mapChanged
          { h with
            table.slots := s.hub.table.slots.remove slot, table.generation := (s.hub.table.generation + 1) % 65536 }
      (∀ slot e, op.step = .removeRead slot → s.hub.table.slots.entry slot = some e → masks op.floors e.floor = true →
        Runs .loadRemovalClaim s
          { s.hub with store.phase := .load { op with step := .removeWrite slot }, table.resting := some .store })
      ∧ (∀ slot e, op.step = .removeWrite slot → s.hub.table.slots.entry slot = some e →
        masks op.floors e.floor = true →
        (∀ next, (s.hub.table.slots.remove slot).nextOccupied (slot + 1) = some next →
          Runs .loadRemovalClaim s { less slot (removes next) with table.resting := some .store })
        ∧ ((s.hub.table.slots.remove slot).nextOccupied (slot + 1) = none → 0 < op.count →
          Runs .loadRemovalClaim s { less slot inserts with table.resting := none }))
      ∧ (∀ slot, op.step = .removeRead slot ∨ op.step = .removeWrite slot →
        (s.hub.table.slots.entry slot).all (fun e => !masks op.floors e.floor) = true →
        (∀ next, s.hub.table.slots.nextOccupied (slot + 1) = some next →
          Runs .loadRemovalClaim s { removes next with table.resting := some .store })
        ∧ (s.hub.table.slots.nextOccupied (slot + 1) = none → 0 < op.count →
          Runs .loadRemovalClaim s { inserts with table.resting := none }))
      ∧ (∀ i e, op.step = .insert i e → i + 1 < op.count →
        let go (o : LoadOp) (h : Hub) : Hub :=
          { h with
            store.phase := .load { o with step := .fetch (i + 1) }
            store.linkOut := [0x03#8 :: be24 (4096 + 16 * (i + 1))]
            table.resting := none }
        (e.origin = .sensed → (s.hub.table.sensedAt e.floor ⟨e.x0, e.y0⟩).isSome = true →
          Runs .loadInsertWrite s (go { op with skipped := op.skipped + 1 } s.hub))
        ∧ (∀ slot, e.origin = .planned ∨ s.hub.table.sensedAt e.floor ⟨e.x0, e.y0⟩ = none →
          s.hub.table.slots.free = some slot →
          Runs .loadInsertWrite s
            (go { op with inserted := op.inserted + 1 }
              (Hub.setPlan .mapChanged
                { s.hub with
                  table.slots := s.hub.table.slots.put slot e
                  table.generation := (s.hub.table.generation + 1) % 65536 })))
        ∧ (e.origin = .planned ∨ s.hub.table.sensedAt e.floor ⟨e.x0, e.y0⟩ = none → s.hub.table.slots.free = none →
          Runs .loadInsertWrite s (go { op with dropped := op.dropped + 1 } s.hub))))
  ∧ ∀ (s : State) (op : LoadOp) (k : ImageHeader) (home dockFloor : Floor) (i : Nat), s.hub.inReset = false →
      s.hub.store.phase = .load op → op.header = some k → floorOf k.home = some home →
      floorOf k.dockFloor = some dockFloor → op.count ≤ i + 1 →
      let ended (o : LoadOp) (h : Hub) : Prop :=
        h.store.phase = .idle ∧ h.store.lastOp = some .load
        ∧ h.store.lastResult = some (if o.dropped = 0 then .done else .tooMany)
        ∧ h.store.entryCount = o.inserted ∧ h.store.dropped = o.dropped ∧ h.store.skipped = o.skipped
        ∧ h.planHas .storeDone = true
        ∧ h.dock.record =
            (if masks op.floors dockFloor then ⟨k.dockValid, k.dockX, k.dockY, k.dockHeading, dockFloor⟩
            else s.hub.dock.record)
        ∧ (op.startUp = true → h.permit.startUpEnded = true ∧ h.odo.floor = home)
        ∧ (op.startUp = false →
            h.permit.startUpEnded = s.hub.permit.startUpEnded ∧ h.odo.floor = s.hub.odo.floor)
      (∀ answer e, op.step = .fetch i → Entry.decode (s.hub.flashBytes (4096 + 16 * i) 16 answer) = some e →
        masks op.floors e.floor = false →
        ∃ h : Hub, Runs (.flashReadDone answer) s h ∧ ended op h ∧ h.table.slots = s.hub.table.slots)
      ∧ (∀ e, op.step = .insert i e → s.hub.grants .store = true →
        (e.origin = .sensed → (s.hub.table.sensedAt e.floor ⟨e.x0, e.y0⟩).isSome = true →
          ∃ h : Hub, Runs .loadInsertWrite s h ∧ ended { op with skipped := op.skipped + 1 } h
            ∧ h.table.slots = s.hub.table.slots)
        ∧ (∀ slot, e.origin = .planned ∨ s.hub.table.sensedAt e.floor ⟨e.x0, e.y0⟩ = none →
          s.hub.table.slots.free = some slot →
          ∃ h : Hub, Runs .loadInsertWrite s h ∧ ended { op with inserted := op.inserted + 1 } h
            ∧ h.table.slots = s.hub.table.slots.put slot e
            ∧ h.table.generation = (s.hub.table.generation + 1) % 65536)
        ∧ (e.origin = .planned ∨ s.hub.table.sensedAt e.floor ⟨e.x0, e.y0⟩ = none → s.hub.table.slots.free = none →
          ∃ h : Hub, Runs .loadInsertWrite s h ∧ ended { op with dropped := op.dropped + 1 } h
            ∧ h.table.slots = s.hub.table.slots))
      ∧ (∀ slot, op.count = 0 → op.step = .removeRead slot ∨ op.step = .removeWrite slot → s.hub.grants .store = true →
        ((s.hub.table.slots.entry slot).all (fun e => !masks op.floors e.floor) = true →
          s.hub.table.slots.nextOccupied (slot + 1) = none →
          ∃ h : Hub, Runs .loadRemovalClaim s h ∧ ended op h ∧ h.table.slots = s.hub.table.slots)
        ∧ (∀ e, op.step = .removeWrite slot → s.hub.table.slots.entry slot = some e → masks op.floors e.floor = true →
          (s.hub.table.slots.remove slot).nextOccupied (slot + 1) = none →
          ∃ h : Hub, Runs .loadRemovalClaim s h ∧ ended op h ∧ h.table.slots = s.hub.table.slots.remove slot
            ∧ h.table.generation = (s.hub.table.generation + 1) % 65536))

/-! ## The warm restart -/

/-- WARM_RESTART in every state of the Plan slot: a permit or a stop in progress ends in INHIBITED, the hold set is
{PLAN}, no check, recheck, record, waypoint or operation is left, the return is IDLE, the lease runs or is OFF, every
flag but REPLY_READY of the Plan port is clear, both masks are at their default and the replies are the restart's
alone. The table, position, heading and pose state stay, the active floor where no start-up load is cut, and every
counter of COUNTERS but that of HELD refusals, which rises by 1 when a check in flight is refused. A save cut while
its marker was being programmed leaves no whole marker. The order of its actions is the model's choice (log 14), and
so is what a cut marker leaves (log 21). -/
def Obligations.WarmRestartLeavesItsState : Prop :=
  ∀ s : State, s.hub.inReset = false →
    ∃ h : Hub, Runs (.warmRestart []) s h
      ∧ h.permit.state =
          (match s.hub.permit.state with
            | .still => .still
            | .moving => .inhibited
            | .probing => .inhibited
            | .stopping => .inhibited
            | .inhibited => .inhibited)
      ∧ h.permit.holds = { plan := true, power := false, lease := false, route := false }
      ∧ h.permit.check = none ∧ h.permit.recheck = none ∧ h.permit.active = none ∧ h.permit.expiry = none
      ∧ h.queue = { s.hub.queue with records := [], backlog := false } ∧ h.updater = { s.hub.updater with work := none }
      ∧ h.route.waypoints = [] ∧ h.route.advances = s.hub.route.advances
      ∧ (s.hub.limits.leasePeriod = 0 → h.route.lease = .off ∧ h.route.leaseTimer = none)
      ∧ (s.hub.limits.leasePeriod ≠ 0 →
          h.route.lease = .running ∧ h.route.leaseTimer = some ⟨s.hub.time.ms, s.hub.limits.leasePeriod⟩)
      ∧ h.dock.state = .idle ∧ h.dock.fallbacks = 0 ∧ h.dock.record = s.hub.dock.record
      ∧ h.store.phase = .idle
      ∧ (s.hub.store.phase ≠ .idle → h.store.lastResult = some .aborted)
      ∧ (∀ op, s.hub.store.phase = .save op → s.hub.store.underWay = some (.pageProgram 0 imageMarker) →
          s.hub.flash.wf = true → h.flash.bytes 0 4 ≠ imageMarker)
      ∧ (s.hub.store.phase = .idle ∨ s.hub.store.underWay ≠ some (.pageProgram 0 imageMarker) →
          h.flash = s.hub.flash)
      ∧ h.att.planFlags = 1 ∧ h.att.powerFlags = 0 ∧ h.att.planMask = 1 ∧ h.att.powerMask = 1
      ∧ h.plan.slot = .ready ⟨.done, 0x7F#8, []⟩ ∧ h.power.slot = none
      ∧ h.table = s.hub.table ∧ h.odo.x = s.hub.odo.x ∧ h.odo.y = s.hub.odo.y ∧ h.odo.heading = s.hub.odo.heading
      ∧ h.odo.pose = s.hub.odo.pose
      ∧ ((∀ op, s.hub.store.phase = .load op → op.startUp = false) → h.odo.floor = s.hub.odo.floor)
      ∧ (s.hub.permit.check = none → h.att.refusals = s.hub.att.refusals)
      ∧ (s.hub.permit.check.isSome = true → h.att.refusals = s.hub.att.refusals.modify 0 sat8)
      ∧ h.drive.errors = s.hub.drive.errors ∧ h.beacon.flips = s.hub.beacon.flips
      ∧ h.beacon.foreign = s.hub.beacon.foreign
      ∧ h.limits = s.hub.limits ∧ h.sensors = s.hub.sensors ∧ h.load = s.hub.load
      ∧ h.permit.stopTimeouts = s.hub.permit.stopTimeouts

/-! ## Sensing -/

/-- SCAN at the expiry of the scan timer: the scan joins the block. The eighth ends it: nothing else than the end of
the block follows, and a fresh block with the settings in force begins. A posting block classifies each channel that
has a tile, at the threshold of 3, as NO_RETURN, else LOW_REFLECT, else FLOOR_CLEAR when its tile is not the last
clear one, and offers one record of each kind that has items, in that order, the items in channel order; the last
clear tile of a channel follows its FLOOR_CLEAR item. -/
def Obligations.ScanFillsTheBlock : Prop :=
  ∀ (s : State) (reading : ScanReading), s.hub.inReset = false → s.hub.scanner.timer.due s.hub.time.ms = true →
    let block := s.hub.scanner.block.scan reading s.hub.scanner.averaged
    (block.k ≠ 8 →
      Runs (.scan reading) s
        { s.hub with scanner.timer := s.hub.scanner.timer.reload, scanner.block := block })
    ∧ (block.k = 8 →
      ∃ h : Hub, Runs (.scan reading) s h
        ∧ h.scanner.block =
            { k := 0, counts := Block.cold.counts, nSag := 0, floorT := s.hub.sensors.floorT
              darkT := s.hub.sensors.darkT, sagT := s.hub.sensors.sagT, offsets := s.hub.sensors.offsets
              posting := s.hub.tracking }
        ∧ h.scanner.averaged = h.scanner.pendingAveraged
        ∧ (3 ≤ block.nSag → h.load.sag = true ∧ h.load.sagTimer = some ⟨s.hub.time.ms, 2000⟩)
        ∧ (block.nSag < 3 → h.load = s.hub.load)
        ∧ (s.hub.permit.state = .probing → h.permit.state =
            (if 3 ≤ block.counts.fl.nNone ∧ 3 ≤ block.counts.fr.nNone then .stopping else .probing))
        ∧ (∀ p, s.hub.permit.state = .moving → s.hub.permit.active = some p → h.permit.state =
            (if 0 < p.speed ∧ (3 ≤ block.counts.fl.nNone ∨ 3 ≤ block.counts.fr.nNone) then .stopping else .moving))
        ∧ (s.hub.permit.state ≠ .moving → s.hub.permit.state ≠ .probing → h.permit = s.hub.permit)
        ∧ (block.posting = true →
            let item (kind : EvidenceKind) (c : Channel) : Option Item :=
              (s.hub.pose.channelTile (block.offsets.get c)).bind fun t =>
                let n := block.counts.get c
                if 3 ≤ n.nNone then if kind = .noReturn then some (.noReturn c t n.least n.nNone) else none
                else if 3 ≤ n.nLow then if kind = .lowReflect then some (.lowReflect c t n.least n.nLow) else none
                else if kind = .floorClear ∧ s.hub.scanner.lastClear.get c ≠ some (s.hub.floor, t) then
                  some (.floorClear c t)
                else none
            let items (kind : EvidenceKind) : List Item := [Channel.fl, .fr, .sl, .sr].filterMap (item kind)
            (∀ c t, item .floorClear c = some (.floorClear c t) → h.scanner.lastClear.get c = some (s.hub.floor, t))
            ∧ (∀ c, item .floorClear c = none → h.scanner.lastClear.get c = s.hub.scanner.lastClear.get c)
            ∧ (s.hub.odo.pose ≠ .lifted → s.hub.updater.work.isSome = true ∨ s.hub.loading = true →
              s.hub.queue.count + 3 ≤ 40 → s.hub.queue.bytes + 48 ≤ 640 →
              h.queue.records =
                s.hub.queue.records
                ++ ([EvidenceKind.noReturn, .lowReflect, .floorClear].filter (fun k => !(items k).isEmpty)).map
                    fun k => ⟨k, s.hub.floor, s.hub.time.ms, .floorScanner, items k⟩))
        ∧ (block.posting = false → h.queue = s.hub.queue ∧ h.scanner.lastClear = s.hub.scanner.lastClear)
        ∧ h.odo = s.hub.odo ∧ h.sensors = s.hub.sensors)

/-- LINE_SAMPLE at the expiry of its timer: every line's sample is remembered, and a line changes exactly at the
second of two samples that both differ from it. A sample with which no line changes does nothing more. Where one line
changes: a bump offers its record in TRACKING and stops forward motion by BUMP; a wheel drop offers its record in
TRACKING, begins a fresh block, cancels both wheels' noted tiles, updates the lift or set-down timing, and stops any
motion by WHEEL_DROP, unless the block it ends early has already stopped it by CLIFF_SEEN; a release only updates the
timing. The order in which lines that change at once are taken is the model's choice (log 12), and so is that a wheel
drop's block end comes before its trigger, which the spec leaves without an order: it is why CLIFF_SEEN, and not
WHEEL_DROP, is then the cause of the stop. -/
def Obligations.LineSampleDeglitchesTheLines : Prop :=
  ∀ (s : State) (levels : PerLine Bool), s.hub.inReset = false → s.hub.lines.timer.due s.hub.time.ms = true →
    let now : PerLine Bool :=
      { bmpL := levels.bmpL == s.hub.sensors.activeHigh.bmpL, bmpR := levels.bmpR == s.hub.sensors.activeHigh.bmpR
        wdpL := levels.wdpL == s.hub.sensors.activeHigh.wdpL, wdpR := levels.wdpR == s.hub.sensors.activeHigh.wdpR }
    let stays (l : Line) : Prop :=
      now.get l = s.hub.lines.asserted.get l ∨ s.hub.lines.lastSample.get l = s.hub.lines.asserted.get l
    let room : Prop :=
      (s.hub.updater.work.isSome = true ∨ s.hub.loading = true) ∧ s.hub.queue.count + 1 ≤ 40
      ∧ s.hub.queue.bytes + 14 ≤ 640
    (∃ h : Hub, Runs (.lineSample levels) s h ∧ h.lines.lastSample = now
      ∧ h.lines.timer = s.hub.lines.timer.reload
      ∧ (∀ l, (stays l → h.lines.asserted.get l = s.hub.lines.asserted.get l)
          ∧ (¬ stays l → h.lines.asserted.get l = now.get l))
      ∧ h.table = s.hub.table ∧ h.sensors = s.hub.sensors ∧ h.odo.x = s.hub.odo.x ∧ h.odo.y = s.hub.odo.y
      ∧ h.odo.pose = s.hub.odo.pose ∧ h.route = s.hub.route ∧ h.trail = s.hub.trail ∧ h.dock = s.hub.dock)
    ∧ ((∀ l, stays l) →
      Runs (.lineSample levels) s
        { s.hub with lines.timer := s.hub.lines.timer.reload, lines.lastSample := now })
    ∧ (∀ l, ¬ stays l → (∀ k, k ≠ l → stays k) →
      ∃ h : Hub, Runs (.lineSample levels) s h
        ∧ (∀ side, (l, side) = (.wdpL, .left) ∨ (l, side) = (.wdpR, .right) → now.get l = true →
            let b := s.hub.scanner.block
            let fire := (3 * b.k + 7) / 8
            let fl : Prop := fire ≤ b.counts.fl.nNone
            let fr : Prop := fire ≤ b.counts.fr.nNone
            let edge : Prop :=
              b.k ≠ 0
              ∧ ((s.hub.permit.state = .moving ∧ (∃ r, s.hub.permit.active = some r ∧ 0 < r.speed) ∧ (fl ∨ fr))
                ∨ (s.hub.permit.state = .probing ∧ fl ∧ fr))
            h.odo.left.noted = none ∧ h.odo.right.noted = none ∧ h.scanner.block.k = 0
            ∧ (s.hub.permit.state = .moving ∨ s.hub.permit.state = .probing →
                h.permit.state = .stopping ∧ h.permit.active = none ∧ h.planHas .stopIssued = true
                ∧ (edge → h.permit.lastStop = some .cliffSeen) ∧ (¬ edge → h.permit.lastStop = some .wheelDrop))
            ∧ (s.hub.permit.state ≠ .moving → s.hub.permit.state ≠ .probing →
                h.permit.state = s.hub.permit.state ∧ h.permit.lastStop = s.hub.permit.lastStop)
            ∧ (∀ t, room → s.hub.tracking = true → s.hub.pose.contactTile s.hub.sensors.wheelBase side = some t →
                ∃ rest, h.queue.records =
                    s.hub.queue.records
                      ++ ⟨.wheelDrop, s.hub.floor, s.hub.time.ms, .lineMonitor, [.wheelDrop side t]⟩ :: rest
                  ∧ (b.k = 0 ∨ b.posting = false → rest = []))
            ∧ (s.hub.tracking = false ∨ s.hub.pose.contactTile s.hub.sensors.wheelBase side = none →
                b.k = 0 ∨ b.posting = false → h.queue = s.hub.queue)
            ∧ (s.hub.odo.pose = .lifted → h.lines.setDown = none ∧ h.lines.lift = s.hub.lines.lift)
            ∧ (s.hub.odo.pose ≠ .lifted → h.lines.setDown = s.hub.lines.setDown
                ∧ h.lines.lift =
                    (if s.hub.lines.asserted.wdpL || s.hub.lines.asserted.wdpR then some ⟨s.hub.time.ms, 1000⟩
                    else s.hub.lines.lift)))
        ∧ (∀ side, (l, side) = (.bmpL, .left) ∨ (l, side) = (.bmpR, .right) → now.get l = true →
            (s.hub.forward = true → h.permit.state = .stopping ∧ h.permit.lastStop = some .bump
              ∧ h.permit.active = none ∧ h.planHas .stopIssued = true)
            ∧ (s.hub.forward = false → h.permit = s.hub.permit)
            ∧ (∀ t, room → s.hub.tracking = true → s.hub.pose.bumperTile s.hub.limits.radius side = some t →
                h.queue.records =
                  s.hub.queue.records ++ [⟨.bump, s.hub.floor, s.hub.time.ms, .lineMonitor, [.bump side t]⟩])
            ∧ (s.hub.tracking = false ∨ s.hub.pose.bumperTile s.hub.limits.radius side = none →
                h.queue = s.hub.queue)
            ∧ h.lines.lift = s.hub.lines.lift ∧ h.lines.setDown = s.hub.lines.setDown ∧ h.odo = s.hub.odo
            ∧ h.scanner = s.hub.scanner)
        ∧ (now.get l = false → h.permit = s.hub.permit ∧ h.queue = s.hub.queue ∧ h.odo = s.hub.odo
            ∧ h.scanner = s.hub.scanner
            ∧ (l = .bmpL ∨ l = .bmpR → h.lines.lift = s.hub.lines.lift ∧ h.lines.setDown = s.hub.lines.setDown)
            ∧ (l = .wdpL ∨ l = .wdpR → s.hub.odo.pose ≠ .lifted →
                h.lines.lift = none ∧ h.lines.setDown = s.hub.lines.setDown)
            ∧ (l = .wdpL ∨ l = .wdpR → s.hub.odo.pose = .lifted → h.lines.lift = s.hub.lines.lift
                ∧ h.lines.setDown =
                    (if s.hub.lines.asserted.wdpL && s.hub.lines.asserted.wdpR then s.hub.lines.setDown
                    else some ⟨s.hub.time.ms, 500⟩))))

/-! ## What every step keeps -/

/-- What each kind of command may change: time, table, the arbiter's memory of the last grant, settings, pose, floor,
holds, lines, beacon and flash are changed by the commands named here alone, and no command touches the queue of
waiting commands. -/
def Obligations.CommandsChangeOnlyTheirBlocks : Prop :=
  ∀ (s t : State) (i : Instr), exec i s = .next t → (∀ v n, i ≠ .coldStart v n ∧ i ≠ .coldStartResetEnd v n) →
    t.pending = s.pending ∧ t.hub.inReset = s.hub.inReset
    ∧ (t.hub.freeDraws ≠ s.hub.freeDraws → ∃ w b, i = .flashStatusRead w ∨ i = .warmRestart b)
    ∧ (t.hub.time ≠ s.hub.time → i = .millisecondEnd)
    ∧ (t.hub.table.slots ≠ s.hub.table.slots →
        i ∈ [.applyItem, .evict, .mapPutWrite, .mapDeleteWrite, .mapConfirmWrite, .mapClearClaim, .loadRemovalClaim,
          .loadInsertWrite])
    ∧ (t.hub.table.resting ≠ s.hub.table.resting →
        i ∈ [.checkSweepClaim, .recheckClaim, .applyItem, .plannedRugRead, .evictionSearchRead, .evict,
            .centreTileLookupDone, .mapPutWrite, .mapDeleteWrite, .mapConfirmWrite, .mapQueryRead, .mapClearClaim,
            .saveSlotRead, .loadRemovalClaim, .loadInsertWrite]
          ∨ ∃ side, i = .passOverLookupDone side)
    ∧ (t.hub.sensors ≠ s.hub.sensors → ∃ b, i = .setSensors b)
    ∧ (t.hub.limits ≠ s.hub.limits → ∃ b, i = .setLimits b)
    ∧ (t.hub.lines ≠ s.hub.lines → i = .liftTimerExpiry ∨ i = .setDownTimerExpiry ∨ ∃ g, i = .lineSample g)
    ∧ (t.hub.scanner.averaged ≠ s.hub.scanner.averaged → (∃ g, i = .scan g) ∨ ∃ g, i = .lineSample g)
    ∧ (t.hub.beacon ≠ s.hub.beacon →
        ∃ e p l n b, i = .beaconFrame e p ∨ i = .beaconShadowFrame e p ∨ i = .beaconElement e l n
          ∨ i = .sightingFreshnessExpiry e ∨ i = .beaconSlot b ∨ i = .counters b)
    ∧ (t.hub.flash ≠ s.hub.flash → ∃ w b, i = .flashStatusRead w ∨ i = .warmRestart b)
    ∧ (t.hub.odo.x ≠ s.hub.odo.x ∨ t.hub.odo.y ≠ s.hub.odo.y ∨ t.hub.odo.heading ≠ s.hub.odo.heading →
        ∃ a b, i = .ask a ∨ i = .setPose b ∨ i = .docked b)
    ∧ (t.hub.odo.floor ≠ s.hub.odo.floor →
        i = .loadRemovalClaim ∨ i = .loadInsertWrite
          ∨ ∃ b w a, i = .setPose b ∨ i = .setFloor b ∨ i = .warmRestart b ∨ i = .flashStatusRead w
            ∨ i = .flashReadDone a)
    ∧ (t.hub.permit.holds ≠ s.hub.permit.holds →
        i = .leaseTimerExpiry
          ∨ ∃ p a b, i = .hold p b ∨ i = .release p b ∨ i = .routeAppend b ∨ i = .warmRestart b ∨ i = .ask a
            ∨ i = .setPose b ∨ i = .docked b)

/-- Every step keeps the law of motion: no permit is active, and no check is in flight, while a hold is in place, the
pose is not TRACKING or the Map Store is in LOAD. -/
def Obligations.EveryStepKeepsTheLawOfMotion : Prop :=
  ∀ s t : State, s.hub.permitLaw → step s = .next t → t.hub.permitLaw

/-- Every step keeps the table's law: at most 1024 entries in rising slots, each as R1 has it, and no two SENSED
entries on one floor and tile. -/
def Obligations.EveryStepKeepsTheTableLaw : Prop :=
  ∀ s t : State, s.hub.tableLaw → step s = .next t → t.hub.tableLaw

/-- Every step keeps every capacity and the ranges of the Time Base. Every step keeps the flash's content in its one
form, which speaks of the model's own representation of the external flash (log 20). -/
def Obligations.EveryStepKeepsTheCapacities : Prop :=
  (∀ s t : State, s.hub.capacityLaw → s.hub.time.law → step s = .next t → t.hub.capacityLaw ∧ t.hub.time.law)
  ∧ ∀ s t : State, s.hub.flash.wf = true → step s = .next t → t.hub.flash.wf = true

/-- A protected CLIFF entry leaves its slot, or its protection, only by MAP_DELETE of its slot, by MAP_CLEAR of its
floor, by a map load of its floor, or by cold start. -/
def Obligations.ProtectedEntriesStay : Prop :=
  ∀ (s t : State) (c : Instr) (rest : List Instr) (slot : Nat) (e : Entry), s.hub.table.slots.wf →
    s.pending = c :: rest → step s = .next t → s.hub.table.slots.entry slot = some e → e.isProtected = true →
    (∃ e', t.hub.table.slots.entry slot = some e' ∧ e'.isProtected = true ∧ e'.floor = e.floor ∧ e'.x0 = e.x0
      ∧ e'.y0 = e.y0)
    ∨ (c = .mapDeleteWrite ∧ ∃ g, s.hub.plan.slot = .inService (.delete slot g))
    ∨ (c = .mapClearClaim ∧ ∃ b n g, s.hub.plan.slot = .inService (.clear e.floor slot b n g))
    ∨ (c = .loadRemovalClaim ∧ ∃ op, s.hub.store.phase = .load op ∧ masks op.floors e.floor = true)
    ∨ (∃ vdd nrst, c = .coldStart vdd nrst ∨ c = .coldStartResetEnd vdd nrst)

/-- The state after reset meets every law the steps keep. What reset is, and the flash it holds, is the model's choice
(log 4, log 20). -/
def Obligations.ResetMeetsTheLaws : Prop :=
  State.reset.hub.permitLaw ∧ State.reset.hub.tableLaw ∧ State.reset.hub.capacityLaw ∧ State.reset.hub.time.law
  ∧ State.reset.hub.flash.wf = true ∧ State.reset.pending = [] ∧ State.reset.hub.driveInhibit = true
  ∧ State.reset.hub.permit.state = .still ∧ State.reset.hub.odo.pose = .lost .start
end

