-- ==== Sys2Proof/Laws/State.lean ====
section
/-! SUPPORT. What the plain record updates of the hub leave as it was: one fact per field they do not touch. -/

namespace Sys2Proof.Machine

set_option linter.unnecessarySeqFocus false
set_option linter.unusedTactic false
set_option linter.unreachableTactic false

variable (h : Hub)

@[simp] theorem Hub.setPlan_frame (f : PlanFlag) :
    (Hub.setPlan f h).time = h.time ∧ (Hub.setPlan f h).table = h.table ∧ (Hub.setPlan f h).scanner = h.scanner
    ∧ (Hub.setPlan f h).lines = h.lines ∧ (Hub.setPlan f h).sensors = h.sensors
    ∧ (Hub.setPlan f h).queue = h.queue ∧ (Hub.setPlan f h).updater = h.updater ∧ (Hub.setPlan f h).odo = h.odo
    ∧ (Hub.setPlan f h).permit = h.permit ∧ (Hub.setPlan f h).route = h.route
    ∧ (Hub.setPlan f h).limits = h.limits ∧ (Hub.setPlan f h).trail = h.trail ∧ (Hub.setPlan f h).dock = h.dock
    ∧ (Hub.setPlan f h).beacon = h.beacon ∧ (Hub.setPlan f h).load = h.load ∧ (Hub.setPlan f h).store = h.store
    ∧ (Hub.setPlan f h).flash = h.flash ∧ (Hub.setPlan f h).plan = h.plan ∧ (Hub.setPlan f h).power = h.power
    ∧ (Hub.setPlan f h).drive = h.drive ∧ (Hub.setPlan f h).inReset = h.inReset
    ∧ (Hub.setPlan f h).freeDraws = h.freeDraws :=
  ⟨rfl, rfl, rfl, rfl, rfl, rfl, rfl, rfl, rfl, rfl, rfl, rfl, rfl, rfl, rfl, rfl, rfl, rfl, rfl, rfl, rfl, rfl⟩

@[simp] theorem Hub.setPower_frame (f : PowerFlag) :
    (Hub.setPower f h).time = h.time ∧ (Hub.setPower f h).table = h.table
    ∧ (Hub.setPower f h).scanner = h.scanner ∧ (Hub.setPower f h).lines = h.lines
    ∧ (Hub.setPower f h).sensors = h.sensors ∧ (Hub.setPower f h).queue = h.queue
    ∧ (Hub.setPower f h).updater = h.updater ∧ (Hub.setPower f h).odo = h.odo
    ∧ (Hub.setPower f h).permit = h.permit ∧ (Hub.setPower f h).route = h.route
    ∧ (Hub.setPower f h).limits = h.limits ∧ (Hub.setPower f h).trail = h.trail
    ∧ (Hub.setPower f h).dock = h.dock ∧ (Hub.setPower f h).beacon = h.beacon ∧ (Hub.setPower f h).load = h.load
    ∧ (Hub.setPower f h).store = h.store ∧ (Hub.setPower f h).flash = h.flash ∧ (Hub.setPower f h).plan = h.plan
    ∧ (Hub.setPower f h).power = h.power ∧ (Hub.setPower f h).drive = h.drive
    ∧ (Hub.setPower f h).inReset = h.inReset ∧ (Hub.setPower f h).freeDraws = h.freeDraws :=
  ⟨rfl, rfl, rfl, rfl, rfl, rfl, rfl, rfl, rfl, rfl, rfl, rfl, rfl, rfl, rfl, rfl, rfl, rfl, rfl, rfl, rfl, rfl⟩

@[simp] theorem Hub.clearPlan_frame (f : PlanFlag) :
    (Hub.clearPlan f h).time = h.time ∧ (Hub.clearPlan f h).table = h.table
    ∧ (Hub.clearPlan f h).scanner = h.scanner ∧ (Hub.clearPlan f h).lines = h.lines
    ∧ (Hub.clearPlan f h).sensors = h.sensors ∧ (Hub.clearPlan f h).queue = h.queue
    ∧ (Hub.clearPlan f h).updater = h.updater ∧ (Hub.clearPlan f h).odo = h.odo
    ∧ (Hub.clearPlan f h).permit = h.permit ∧ (Hub.clearPlan f h).route = h.route
    ∧ (Hub.clearPlan f h).limits = h.limits ∧ (Hub.clearPlan f h).trail = h.trail
    ∧ (Hub.clearPlan f h).dock = h.dock ∧ (Hub.clearPlan f h).beacon = h.beacon
    ∧ (Hub.clearPlan f h).load = h.load ∧ (Hub.clearPlan f h).store = h.store
    ∧ (Hub.clearPlan f h).flash = h.flash ∧ (Hub.clearPlan f h).plan = h.plan
    ∧ (Hub.clearPlan f h).power = h.power ∧ (Hub.clearPlan f h).drive = h.drive
    ∧ (Hub.clearPlan f h).inReset = h.inReset ∧ (Hub.clearPlan f h).freeDraws = h.freeDraws :=
  ⟨rfl, rfl, rfl, rfl, rfl, rfl, rfl, rfl, rfl, rfl, rfl, rfl, rfl, rfl, rfl, rfl, rfl, rfl, rfl, rfl, rfl, rfl⟩

@[simp] theorem Hub.clearPower_frame (f : PowerFlag) :
    (Hub.clearPower f h).time = h.time ∧ (Hub.clearPower f h).table = h.table
    ∧ (Hub.clearPower f h).scanner = h.scanner ∧ (Hub.clearPower f h).lines = h.lines
    ∧ (Hub.clearPower f h).sensors = h.sensors ∧ (Hub.clearPower f h).queue = h.queue
    ∧ (Hub.clearPower f h).updater = h.updater ∧ (Hub.clearPower f h).odo = h.odo
    ∧ (Hub.clearPower f h).permit = h.permit ∧ (Hub.clearPower f h).route = h.route
    ∧ (Hub.clearPower f h).limits = h.limits ∧ (Hub.clearPower f h).trail = h.trail
    ∧ (Hub.clearPower f h).dock = h.dock ∧ (Hub.clearPower f h).beacon = h.beacon
    ∧ (Hub.clearPower f h).load = h.load ∧ (Hub.clearPower f h).store = h.store
    ∧ (Hub.clearPower f h).flash = h.flash ∧ (Hub.clearPower f h).plan = h.plan
    ∧ (Hub.clearPower f h).power = h.power ∧ (Hub.clearPower f h).drive = h.drive
    ∧ (Hub.clearPower f h).inReset = h.inReset ∧ (Hub.clearPower f h).freeDraws = h.freeDraws :=
  ⟨rfl, rfl, rfl, rfl, rfl, rfl, rfl, rfl, rfl, rfl, rfl, rfl, rfl, rfl, rfl, rfl, rfl, rfl, rfl, rfl, rfl, rfl⟩

@[simp] theorem Hub.countRefusal_frame (r : Reason) :
    (Hub.countRefusal r h).time = h.time ∧ (Hub.countRefusal r h).table = h.table
    ∧ (Hub.countRefusal r h).scanner = h.scanner ∧ (Hub.countRefusal r h).lines = h.lines
    ∧ (Hub.countRefusal r h).sensors = h.sensors ∧ (Hub.countRefusal r h).queue = h.queue
    ∧ (Hub.countRefusal r h).updater = h.updater ∧ (Hub.countRefusal r h).odo = h.odo
    ∧ (Hub.countRefusal r h).permit = h.permit ∧ (Hub.countRefusal r h).route = h.route
    ∧ (Hub.countRefusal r h).limits = h.limits ∧ (Hub.countRefusal r h).trail = h.trail
    ∧ (Hub.countRefusal r h).dock = h.dock ∧ (Hub.countRefusal r h).beacon = h.beacon
    ∧ (Hub.countRefusal r h).load = h.load ∧ (Hub.countRefusal r h).store = h.store
    ∧ (Hub.countRefusal r h).flash = h.flash ∧ (Hub.countRefusal r h).plan = h.plan
    ∧ (Hub.countRefusal r h).power = h.power ∧ (Hub.countRefusal r h).drive = h.drive
    ∧ (Hub.countRefusal r h).inReset = h.inReset ∧ (Hub.countRefusal r h).freeDraws = h.freeDraws :=
  ⟨rfl, rfl, rfl, rfl, rfl, rfl, rfl, rfl, rfl, rfl, rfl, rfl, rfl, rfl, rfl, rfl, rfl, rfl, rfl, rfl, rfl, rfl⟩

/-! ## The Attention Unit after a flag or a refusal count changes -/

@[simp] theorem Hub.setPlan_att (f : PlanFlag) :
    (h.setPlan f).att.planMask = h.att.planMask ∧ (h.setPlan f).att.powerFlags = h.att.powerFlags
    ∧ (h.setPlan f).att.powerMask = h.att.powerMask ∧ (h.setPlan f).att.refusals = h.att.refusals :=
  ⟨rfl, rfl, rfl, rfl⟩

@[simp] theorem Hub.setPower_att (f : PowerFlag) :
    (h.setPower f).att.planMask = h.att.planMask ∧ (h.setPower f).att.planFlags = h.att.planFlags
    ∧ (h.setPower f).att.powerMask = h.att.powerMask ∧ (h.setPower f).att.refusals = h.att.refusals :=
  ⟨rfl, rfl, rfl, rfl⟩

@[simp] theorem Hub.countRefusal_att (r : Reason) :
    (h.countRefusal r).att = { h.att with refusals := h.att.refusals.modify r.ctorIdx sat8 } := rfl

/-! ## Reading a flag after one is set -/

@[simp] theorem Hub.planHas_setPlan_self (f : PlanFlag) : (h.setPlan f).planHas f = true := by
  cases f <;> simp [Hub.planHas, Hub.setPlan, PlanFlag.bit, PlanFlag.ctorIdx]

theorem Hub.planHas_setPlan (f g : PlanFlag) : (h.setPlan f).planHas g = (decide (f = g) || h.planHas g) := by
  cases f <;> cases g <;> simp [Hub.planHas, Hub.setPlan, PlanFlag.bit, PlanFlag.ctorIdx]

@[simp] theorem Hub.planHas_setPower (f : PowerFlag) (g : PlanFlag) : (h.setPower f).planHas g = h.planHas g := rfl

@[simp] theorem Hub.powerHas_setPower_self (f : PowerFlag) : (h.setPower f).powerHas f = true := by
  cases f <;> simp [Hub.powerHas, Hub.setPower, PowerFlag.bit, PowerFlag.ctorIdx]

theorem Hub.powerHas_setPower (f g : PowerFlag) : (h.setPower f).powerHas g = (decide (f = g) || h.powerHas g) := by
  cases f <;> cases g <;> simp [Hub.powerHas, Hub.setPower, PowerFlag.bit, PowerFlag.ctorIdx]

@[simp] theorem Hub.powerHas_setPlan (f : PlanFlag) (g : PowerFlag) : (h.setPlan f).powerHas g = h.powerHas g := rfl

end Sys2Proof.Machine
end

