-- ==== Sys2Proof/Laws/Ops.lean ====
section
/-! SUPPORT. What the operations on the Hazard Table and its arbiter leave as it was. -/

namespace Sys2Proof.Machine

set_option linter.unnecessarySeqFocus false
set_option linter.unusedTactic false
set_option linter.unreachableTactic false

variable (h : Hub)

@[simp] theorem Hub.advance_frame (n : Nat) :
    (Hub.advance n h).time = h.time ∧ (Hub.advance n h).scanner = h.scanner ∧ (Hub.advance n h).lines = h.lines
    ∧ (Hub.advance n h).sensors = h.sensors ∧ (Hub.advance n h).queue = h.queue
    ∧ (Hub.advance n h).updater = h.updater ∧ (Hub.advance n h).odo = h.odo
    ∧ (Hub.advance n h).permit = h.permit ∧ (Hub.advance n h).route = h.route
    ∧ (Hub.advance n h).limits = h.limits ∧ (Hub.advance n h).trail = h.trail ∧ (Hub.advance n h).dock = h.dock
    ∧ (Hub.advance n h).beacon = h.beacon ∧ (Hub.advance n h).load = h.load ∧ (Hub.advance n h).store = h.store
    ∧ (Hub.advance n h).flash = h.flash ∧ (Hub.advance n h).plan = h.plan ∧ (Hub.advance n h).power = h.power
    ∧ (Hub.advance n h).drive = h.drive ∧ (Hub.advance n h).inReset = h.inReset
    ∧ (Hub.advance n h).freeDraws = h.freeDraws :=
  ⟨rfl, rfl, rfl, rfl, rfl, rfl, rfl, rfl, rfl, rfl, rfl, rfl, rfl, rfl, rfl, rfl, rfl, rfl, rfl, rfl, rfl⟩

@[simp] theorem Hub.createIn_frame (k : Nat) (e : Entry) :
    (Hub.createIn k e h).time = h.time ∧ (Hub.createIn k e h).scanner = h.scanner
    ∧ (Hub.createIn k e h).lines = h.lines ∧ (Hub.createIn k e h).sensors = h.sensors
    ∧ (Hub.createIn k e h).queue = h.queue ∧ (Hub.createIn k e h).updater = h.updater
    ∧ (Hub.createIn k e h).odo = h.odo ∧ (Hub.createIn k e h).permit = h.permit
    ∧ (Hub.createIn k e h).route = h.route ∧ (Hub.createIn k e h).limits = h.limits
    ∧ (Hub.createIn k e h).trail = h.trail ∧ (Hub.createIn k e h).dock = h.dock
    ∧ (Hub.createIn k e h).beacon = h.beacon ∧ (Hub.createIn k e h).load = h.load
    ∧ (Hub.createIn k e h).store = h.store ∧ (Hub.createIn k e h).flash = h.flash
    ∧ (Hub.createIn k e h).plan = h.plan ∧ (Hub.createIn k e h).power = h.power
    ∧ (Hub.createIn k e h).drive = h.drive ∧ (Hub.createIn k e h).inReset = h.inReset
    ∧ (Hub.createIn k e h).freeDraws = h.freeDraws :=
  ⟨rfl, rfl, rfl, rfl, rfl, rfl, rfl, rfl, rfl, rfl, rfl, rfl, rfl, rfl, rfl, rfl, rfl, rfl, rfl, rfl, rfl⟩

@[simp] theorem Hub.removeSlot_frame (k : Nat) :
    (Hub.removeSlot k h).time = h.time ∧ (Hub.removeSlot k h).scanner = h.scanner
    ∧ (Hub.removeSlot k h).lines = h.lines ∧ (Hub.removeSlot k h).sensors = h.sensors
    ∧ (Hub.removeSlot k h).queue = h.queue ∧ (Hub.removeSlot k h).updater = h.updater
    ∧ (Hub.removeSlot k h).odo = h.odo ∧ (Hub.removeSlot k h).permit = h.permit
    ∧ (Hub.removeSlot k h).route = h.route ∧ (Hub.removeSlot k h).limits = h.limits
    ∧ (Hub.removeSlot k h).trail = h.trail ∧ (Hub.removeSlot k h).dock = h.dock
    ∧ (Hub.removeSlot k h).beacon = h.beacon ∧ (Hub.removeSlot k h).load = h.load
    ∧ (Hub.removeSlot k h).store = h.store ∧ (Hub.removeSlot k h).flash = h.flash
    ∧ (Hub.removeSlot k h).plan = h.plan ∧ (Hub.removeSlot k h).power = h.power
    ∧ (Hub.removeSlot k h).drive = h.drive ∧ (Hub.removeSlot k h).inReset = h.inReset
    ∧ (Hub.removeSlot k h).freeDraws = h.freeDraws :=
  ⟨rfl, rfl, rfl, rfl, rfl, rfl, rfl, rfl, rfl, rfl, rfl, rfl, rfl, rfl, rfl, rfl, rfl, rfl, rfl, rfl, rfl⟩

@[simp] theorem Hub.changeSlot_frame (k : Nat) (e e2 : Entry) :
    (Hub.changeSlot k e e2 h).time = h.time ∧ (Hub.changeSlot k e e2 h).scanner = h.scanner
    ∧ (Hub.changeSlot k e e2 h).lines = h.lines ∧ (Hub.changeSlot k e e2 h).sensors = h.sensors
    ∧ (Hub.changeSlot k e e2 h).queue = h.queue ∧ (Hub.changeSlot k e e2 h).updater = h.updater
    ∧ (Hub.changeSlot k e e2 h).odo = h.odo ∧ (Hub.changeSlot k e e2 h).permit = h.permit
    ∧ (Hub.changeSlot k e e2 h).route = h.route ∧ (Hub.changeSlot k e e2 h).limits = h.limits
    ∧ (Hub.changeSlot k e e2 h).trail = h.trail ∧ (Hub.changeSlot k e e2 h).dock = h.dock
    ∧ (Hub.changeSlot k e e2 h).beacon = h.beacon ∧ (Hub.changeSlot k e e2 h).load = h.load
    ∧ (Hub.changeSlot k e e2 h).store = h.store ∧ (Hub.changeSlot k e e2 h).flash = h.flash
    ∧ (Hub.changeSlot k e e2 h).plan = h.plan ∧ (Hub.changeSlot k e e2 h).power = h.power
    ∧ (Hub.changeSlot k e e2 h).drive = h.drive ∧ (Hub.changeSlot k e e2 h).inReset = h.inReset
    ∧ (Hub.changeSlot k e e2 h).freeDraws = h.freeDraws := by
  unfold Hub.changeSlot
  and_intros <;> (try dsimp only) <;> (repeat' split) <;> simp

@[simp] theorem Hub.noteSecond_frame (w : SecondPlace) :
    (Hub.noteSecond w h).time = h.time ∧ (Hub.noteSecond w h).scanner = h.scanner
    ∧ (Hub.noteSecond w h).lines = h.lines ∧ (Hub.noteSecond w h).sensors = h.sensors
    ∧ (Hub.noteSecond w h).queue = h.queue ∧ (Hub.noteSecond w h).updater = h.updater
    ∧ (Hub.noteSecond w h).odo = h.odo ∧ (Hub.noteSecond w h).permit = h.permit
    ∧ (Hub.noteSecond w h).route = h.route ∧ (Hub.noteSecond w h).limits = h.limits
    ∧ (Hub.noteSecond w h).trail = h.trail ∧ (Hub.noteSecond w h).dock = h.dock
    ∧ (Hub.noteSecond w h).beacon = h.beacon ∧ (Hub.noteSecond w h).load = h.load
    ∧ (Hub.noteSecond w h).store = h.store ∧ (Hub.noteSecond w h).flash = h.flash
    ∧ (Hub.noteSecond w h).plan = h.plan ∧ (Hub.noteSecond w h).power = h.power
    ∧ (Hub.noteSecond w h).drive = h.drive ∧ (Hub.noteSecond w h).att = h.att
    ∧ (Hub.noteSecond w h).inReset = h.inReset ∧ (Hub.noteSecond w h).freeDraws = h.freeDraws :=
  ⟨rfl, rfl, rfl, rfl, rfl, rfl, rfl, rfl, rfl, rfl, rfl, rfl, rfl, rfl, rfl, rfl, rfl, rfl, rfl, rfl, rfl, rfl⟩

@[simp] theorem Hub.afterGrant_frame (c : Claimant) :
    (Hub.afterGrant c h).time = h.time ∧ (Hub.afterGrant c h).scanner = h.scanner
    ∧ (Hub.afterGrant c h).lines = h.lines ∧ (Hub.afterGrant c h).sensors = h.sensors
    ∧ (Hub.afterGrant c h).queue = h.queue ∧ (Hub.afterGrant c h).updater = h.updater
    ∧ (Hub.afterGrant c h).odo = h.odo ∧ (Hub.afterGrant c h).permit = h.permit
    ∧ (Hub.afterGrant c h).route = h.route ∧ (Hub.afterGrant c h).limits = h.limits
    ∧ (Hub.afterGrant c h).trail = h.trail ∧ (Hub.afterGrant c h).dock = h.dock
    ∧ (Hub.afterGrant c h).beacon = h.beacon ∧ (Hub.afterGrant c h).load = h.load
    ∧ (Hub.afterGrant c h).store = h.store ∧ (Hub.afterGrant c h).flash = h.flash
    ∧ (Hub.afterGrant c h).plan = h.plan ∧ (Hub.afterGrant c h).power = h.power
    ∧ (Hub.afterGrant c h).drive = h.drive ∧ (Hub.afterGrant c h).att = h.att
    ∧ (Hub.afterGrant c h).inReset = h.inReset ∧ (Hub.afterGrant c h).freeDraws = h.freeDraws :=
  ⟨rfl, rfl, rfl, rfl, rfl, rfl, rfl, rfl, rfl, rfl, rfl, rfl, rfl, rfl, rfl, rfl, rfl, rfl, rfl, rfl, rfl, rfl⟩

/-- A grant noted is the table's last field alone. -/
@[simp] theorem Hub.afterGrant_table (c : Claimant) :
    (Hub.afterGrant c h).table.slots = h.table.slots ∧ (Hub.afterGrant c h).table.generation = h.table.generation
    ∧ (Hub.afterGrant c h).table.evictions = h.table.evictions
    ∧ (Hub.afterGrant c h).table.lastSecond = h.table.lastSecond
    ∧ (Hub.afterGrant c h).table.metBefore = h.table.metBefore
    ∧ (Hub.afterGrant c h).table.resting = if h.unitHasClaim c then some c.unit else none :=
  ⟨rfl, rfl, rfl, rfl, rfl, rfl⟩

/-- A grant noted of a unit that has a further claim to make. -/
theorem Hub.afterGrant_more {c : Claimant} (hc : h.unitHasClaim c = true) :
    h.afterGrant c = { h with table.resting := some c.unit } := by
  simp [Hub.afterGrant, hc]

/-- A grant noted of a unit that has no further claim to make. -/
theorem Hub.afterGrant_last {c : Claimant} (hc : h.unitHasClaim c = false) :
    h.afterGrant c = { h with table.resting := none } := by
  simp [Hub.afterGrant, hc]

/-- The arbiter's choice with every claim waiting is a grant it may make. -/
theorem Hub.grants_of_choice {c : Claimant} (hc : h.choice h.hasClaim = some c) : h.grants c = true := by
  simp [Hub.grants, hc]

/-- The arbiter's choice in a gap is a grant it may make. -/
theorem Hub.grants_in_gap {c : Claimant} (hc : h.choice h.waitsInGap = some c) : h.grants c = true := by
  simp [Hub.grants, hc]

/-! The arbiter's choice, place by place. -/

variable {waits : Claimant → Bool}

theorem Hub.choice_both (hc : waits .check = true) (hr : waits .recheck = true) :
    h.choice waits = some (if h.permit.recheckTurn = .check then .check else .recheck) := by
  unfold Hub.choice
  cases h.permit.recheckTurn <;> simp [hc, hr]

theorem Hub.choice_check (hc : waits .check = true) (hr : waits .recheck = false) :
    h.choice waits = some .check := by
  simp [Hub.choice, hc, hr]

theorem Hub.choice_recheck (hc : waits .check = false) (hr : waits .recheck = true) :
    h.choice waits = some .recheck := by
  simp [Hub.choice, hc, hr]

theorem Hub.choice_second (hc : waits .check = false) (hr : waits .recheck = false) (hu : waits .updater = true)
    (ho : waits .odometry = true) :
    h.choice waits
      = some (if h.table.metBefore = true ∧ h.table.lastSecond = some .updater then .odometry else .updater) := by
  unfold Hub.choice Table.secondTurn
  by_cases hm : h.table.metBefore = true <;> by_cases hl : h.table.lastSecond = some .updater <;>
    simp [hc, hr, hu, ho, hm, hl]

theorem Hub.choice_updater (hc : waits .check = false) (hr : waits .recheck = false) (hu : waits .updater = true)
    (ho : waits .odometry = false) : h.choice waits = some .updater := by
  simp [Hub.choice, hc, hr, hu, ho]

theorem Hub.choice_odometry (hc : waits .check = false) (hr : waits .recheck = false) (hu : waits .updater = false)
    (ho : waits .odometry = true) : h.choice waits = some .odometry := by
  simp [Hub.choice, hc, hr, hu, ho]

theorem Hub.choice_plan (hc : waits .check = false) (hr : waits .recheck = false) (hu : waits .updater = false)
    (ho : waits .odometry = false) (hp : waits .plan = true) : h.choice waits = some .plan := by
  simp [Hub.choice, hc, hr, hu, ho, hp]

theorem Hub.choice_store (hc : waits .check = false) (hr : waits .recheck = false) (hu : waits .updater = false)
    (ho : waits .odometry = false) (hp : waits .plan = false) (hs : waits .store = true) :
    h.choice waits = some .store := by
  simp [Hub.choice, hc, hr, hu, ho, hp, hs]

/-- The arbiter chooses among those that wait. -/
theorem Hub.choice_waits {c : Claimant} (hc : h.choice waits = some c) : waits c = true := by
  unfold Hub.choice at hc
  repeat' split at hc
  all_goals simp_all
  all_goals (first | (cases h.permit.recheckTurn <;> simp_all) | (cases h.table.secondTurn <;> simp_all))

/-- While the Permit Controller waits, it goes first. -/
theorem Hub.choice_first {c : Claimant} (hc : h.choice waits = some c)
    (hw : waits .check = true ∨ waits .recheck = true) : c = .check ∨ c = .recheck := by
  cases h1 : waits .check <;> cases h2 : waits .recheck
  · simp [h1, h2] at hw
  · exact .inr (Option.some.inj ((h.choice_recheck h1 h2).symm.trans hc)).symm
  · exact .inl (Option.some.inj ((h.choice_check h1 h2).symm.trans hc)).symm
  · have he := (Option.some.inj ((h.choice_both h1 h2).symm.trans hc)).symm
    split at he
    · exact .inl he
    · exact .inr he

/-- While a claimant of the first two places waits, neither a Plan request nor the Map Store goes. -/
theorem Hub.choice_firstTwo {c : Claimant} (hc : h.choice waits = some c)
    (hw : waits .updater = true ∨ waits .odometry = true) : c ≠ .plan ∧ c ≠ .store := by
  by_cases hf : waits .check = true ∨ waits .recheck = true
  · rcases h.choice_first hc hf with rfl | rfl <;> simp
  · simp only [not_or, Bool.not_eq_true] at hf
    cases h1 : waits .updater <;> cases h2 : waits .odometry
    · simp [h1, h2] at hw
    · cases (Option.some.inj ((h.choice_odometry hf.1 hf.2 h1 h2).symm.trans hc)); simp
    · cases (Option.some.inj ((h.choice_updater hf.1 hf.2 h1 h2).symm.trans hc)); simp
    · have he := (Option.some.inj ((h.choice_second hf.1 hf.2 h1 h2).symm.trans hc)).symm
      split at he <;> subst he <;> simp

/-- While a Plan request waits, the Map Store does not go. -/
theorem Hub.choice_notStore (hw : waits .plan = true) : h.choice waits ≠ some .store := by
  intro hc
  have hf : waits .check = false ∧ waits .recheck = false := by
    constructor <;> (by_contra hx; simp only [Bool.not_eq_false] at hx)
    · rcases h.choice_first hc (.inl hx) with e | e <;> cases e
    · rcases h.choice_first hc (.inr hx) with e | e <;> cases e
  have hs : waits .updater = false ∧ waits .odometry = false := by
    constructor <;> (by_contra hx; simp only [Bool.not_eq_false] at hx)
    · exact (h.choice_firstTwo hc (.inl hx)).2 rfl
    · exact (h.choice_firstTwo hc (.inr hx)).2 rfl
  cases (Option.some.inj ((h.choice_plan hf.1 hf.2 hs.1 hs.2 hw).symm.trans hc))

/-- Only a claimant with a claim to make is granted. -/
theorem Hub.hasClaim_of_grants {c : Claimant} (hg : h.grants c = true) : h.hasClaim c = true := by
  unfold Hub.grants at hg
  simp only [Bool.or_eq_true, decide_eq_true_eq] at hg
  rcases hg with hg | hg
  · exact h.choice_waits hg
  · have hw := h.choice_waits hg
    simp only [Hub.waitsInGap, Bool.and_eq_true] at hw
    exact hw.1

end Sys2Proof.Machine
end

