-- ==== Sys2Proof/Laws/Permit.lean ====
section
/-! SUPPORT. What the operations of the Drive link's transmit side and of the Permit Controller leave as it was. -/

namespace Sys2Proof.Machine

set_option linter.unnecessarySeqFocus false
set_option linter.unusedTactic false
set_option linter.unreachableTactic false

variable (h : Hub)

@[simp] theorem Hub.send_frame (f : DriveFrame) :
    (Hub.send f h).time = h.time ∧ (Hub.send f h).table = h.table ∧ (Hub.send f h).scanner = h.scanner
    ∧ (Hub.send f h).lines = h.lines ∧ (Hub.send f h).sensors = h.sensors ∧ (Hub.send f h).queue = h.queue
    ∧ (Hub.send f h).updater = h.updater ∧ (Hub.send f h).odo = h.odo ∧ (Hub.send f h).permit = h.permit
    ∧ (Hub.send f h).route = h.route ∧ (Hub.send f h).limits = h.limits ∧ (Hub.send f h).trail = h.trail
    ∧ (Hub.send f h).dock = h.dock ∧ (Hub.send f h).beacon = h.beacon ∧ (Hub.send f h).load = h.load
    ∧ (Hub.send f h).store = h.store ∧ (Hub.send f h).flash = h.flash ∧ (Hub.send f h).plan = h.plan
    ∧ (Hub.send f h).power = h.power ∧ (Hub.send f h).att = h.att ∧ (Hub.send f h).inReset = h.inReset
    ∧ (Hub.send f h).freeDraws = h.freeDraws := by
  unfold Hub.send
  and_intros <;> (try dsimp only) <;> (repeat' split) <;> simp

@[simp] theorem Hub.refuse_frame (q : Byte) (r : Reason) (b : Bool) :
    (Hub.refuse q r b h).time = h.time ∧ (Hub.refuse q r b h).table = h.table
    ∧ (Hub.refuse q r b h).scanner = h.scanner ∧ (Hub.refuse q r b h).lines = h.lines
    ∧ (Hub.refuse q r b h).sensors = h.sensors ∧ (Hub.refuse q r b h).queue = h.queue
    ∧ (Hub.refuse q r b h).updater = h.updater ∧ (Hub.refuse q r b h).odo = h.odo
    ∧ (Hub.refuse q r b h).permit = h.permit ∧ (Hub.refuse q r b h).route = h.route
    ∧ (Hub.refuse q r b h).limits = h.limits ∧ (Hub.refuse q r b h).trail = h.trail
    ∧ (Hub.refuse q r b h).dock = h.dock ∧ (Hub.refuse q r b h).beacon = h.beacon
    ∧ (Hub.refuse q r b h).load = h.load ∧ (Hub.refuse q r b h).store = h.store
    ∧ (Hub.refuse q r b h).flash = h.flash ∧ (Hub.refuse q r b h).plan = h.plan
    ∧ (Hub.refuse q r b h).power = h.power ∧ (Hub.refuse q r b h).inReset = h.inReset
    ∧ (Hub.refuse q r b h).freeDraws = h.freeDraws := by
  unfold Hub.refuse
  simp

@[simp] theorem Hub.grant_frame (c : Check) (v : Verdict) :
    (Hub.grant c v h).time = h.time ∧ (Hub.grant c v h).table = h.table ∧ (Hub.grant c v h).scanner = h.scanner
    ∧ (Hub.grant c v h).lines = h.lines ∧ (Hub.grant c v h).sensors = h.sensors
    ∧ (Hub.grant c v h).queue = h.queue ∧ (Hub.grant c v h).updater = h.updater ∧ (Hub.grant c v h).odo = h.odo
    ∧ (Hub.grant c v h).route = h.route ∧ (Hub.grant c v h).limits = h.limits
    ∧ (Hub.grant c v h).trail = h.trail ∧ (Hub.grant c v h).dock = h.dock ∧ (Hub.grant c v h).beacon = h.beacon
    ∧ (Hub.grant c v h).load = h.load ∧ (Hub.grant c v h).store = h.store ∧ (Hub.grant c v h).flash = h.flash
    ∧ (Hub.grant c v h).plan = h.plan ∧ (Hub.grant c v h).power = h.power ∧ (Hub.grant c v h).att = h.att
    ∧ (Hub.grant c v h).inReset = h.inReset ∧ (Hub.grant c v h).freeDraws = h.freeDraws := by
  unfold Hub.grant
  simp

@[simp] theorem Hub.concludeCheck_frame (c : Check) :
    (Hub.concludeCheck c h).time = h.time ∧ (Hub.concludeCheck c h).table = h.table
    ∧ (Hub.concludeCheck c h).scanner = h.scanner ∧ (Hub.concludeCheck c h).lines = h.lines
    ∧ (Hub.concludeCheck c h).sensors = h.sensors ∧ (Hub.concludeCheck c h).queue = h.queue
    ∧ (Hub.concludeCheck c h).updater = h.updater ∧ (Hub.concludeCheck c h).odo = h.odo
    ∧ (Hub.concludeCheck c h).route = h.route ∧ (Hub.concludeCheck c h).limits = h.limits
    ∧ (Hub.concludeCheck c h).trail = h.trail ∧ (Hub.concludeCheck c h).dock = h.dock
    ∧ (Hub.concludeCheck c h).beacon = h.beacon ∧ (Hub.concludeCheck c h).load = h.load
    ∧ (Hub.concludeCheck c h).store = h.store ∧ (Hub.concludeCheck c h).flash = h.flash
    ∧ (Hub.concludeCheck c h).plan = h.plan ∧ (Hub.concludeCheck c h).power = h.power
    ∧ (Hub.concludeCheck c h).inReset = h.inReset ∧ (Hub.concludeCheck c h).freeDraws = h.freeDraws := by
  unfold Hub.concludeCheck
  and_intros <;> (try dsimp only) <;> (repeat' split) <;> simp

@[simp] theorem Hub.settleCheck_frame (c : Check) :
    (Hub.settleCheck c h).time = h.time ∧ (Hub.settleCheck c h).table = h.table
    ∧ (Hub.settleCheck c h).scanner = h.scanner ∧ (Hub.settleCheck c h).lines = h.lines
    ∧ (Hub.settleCheck c h).sensors = h.sensors ∧ (Hub.settleCheck c h).queue = h.queue
    ∧ (Hub.settleCheck c h).updater = h.updater ∧ (Hub.settleCheck c h).odo = h.odo
    ∧ (Hub.settleCheck c h).route = h.route ∧ (Hub.settleCheck c h).limits = h.limits
    ∧ (Hub.settleCheck c h).trail = h.trail ∧ (Hub.settleCheck c h).dock = h.dock
    ∧ (Hub.settleCheck c h).beacon = h.beacon ∧ (Hub.settleCheck c h).load = h.load
    ∧ (Hub.settleCheck c h).store = h.store ∧ (Hub.settleCheck c h).flash = h.flash
    ∧ (Hub.settleCheck c h).plan = h.plan ∧ (Hub.settleCheck c h).power = h.power
    ∧ (Hub.settleCheck c h).inReset = h.inReset ∧ (Hub.settleCheck c h).freeDraws = h.freeDraws := by
  unfold Hub.settleCheck
  and_intros <;> (try dsimp only) <;> (repeat' split) <;> simp

@[simp] theorem Hub.startCheck_frame (a : AskFrame) :
    (Hub.startCheck a h).time = h.time ∧ (Hub.startCheck a h).table = h.table
    ∧ (Hub.startCheck a h).scanner = h.scanner ∧ (Hub.startCheck a h).lines = h.lines
    ∧ (Hub.startCheck a h).sensors = h.sensors ∧ (Hub.startCheck a h).queue = h.queue
    ∧ (Hub.startCheck a h).updater = h.updater ∧ (Hub.startCheck a h).odo = h.odo
    ∧ (Hub.startCheck a h).route = h.route ∧ (Hub.startCheck a h).limits = h.limits
    ∧ (Hub.startCheck a h).trail = h.trail ∧ (Hub.startCheck a h).dock = h.dock
    ∧ (Hub.startCheck a h).beacon = h.beacon ∧ (Hub.startCheck a h).load = h.load
    ∧ (Hub.startCheck a h).store = h.store ∧ (Hub.startCheck a h).flash = h.flash
    ∧ (Hub.startCheck a h).plan = h.plan ∧ (Hub.startCheck a h).power = h.power
    ∧ (Hub.startCheck a h).inReset = h.inReset ∧ (Hub.startCheck a h).freeDraws = h.freeDraws := by
  unfold Hub.startCheck
  simp

@[simp] theorem Hub.abandonCheck_frame (r : Reason) :
    (Hub.abandonCheck r h).time = h.time ∧ (Hub.abandonCheck r h).table = h.table
    ∧ (Hub.abandonCheck r h).scanner = h.scanner ∧ (Hub.abandonCheck r h).lines = h.lines
    ∧ (Hub.abandonCheck r h).sensors = h.sensors ∧ (Hub.abandonCheck r h).queue = h.queue
    ∧ (Hub.abandonCheck r h).updater = h.updater ∧ (Hub.abandonCheck r h).odo = h.odo
    ∧ (Hub.abandonCheck r h).route = h.route ∧ (Hub.abandonCheck r h).limits = h.limits
    ∧ (Hub.abandonCheck r h).trail = h.trail ∧ (Hub.abandonCheck r h).dock = h.dock
    ∧ (Hub.abandonCheck r h).beacon = h.beacon ∧ (Hub.abandonCheck r h).load = h.load
    ∧ (Hub.abandonCheck r h).store = h.store ∧ (Hub.abandonCheck r h).flash = h.flash
    ∧ (Hub.abandonCheck r h).plan = h.plan ∧ (Hub.abandonCheck r h).power = h.power
    ∧ (Hub.abandonCheck r h).inReset = h.inReset ∧ (Hub.abandonCheck r h).freeDraws = h.freeDraws := by
  unfold Hub.abandonCheck
  and_intros <;> (try dsimp only) <;> (repeat' split) <;> simp

@[simp] theorem Hub.sendStop_frame (c : StopCause) :
    (Hub.sendStop c h).time = h.time ∧ (Hub.sendStop c h).table = h.table
    ∧ (Hub.sendStop c h).scanner = h.scanner ∧ (Hub.sendStop c h).lines = h.lines
    ∧ (Hub.sendStop c h).sensors = h.sensors ∧ (Hub.sendStop c h).queue = h.queue
    ∧ (Hub.sendStop c h).updater = h.updater ∧ (Hub.sendStop c h).odo = h.odo
    ∧ (Hub.sendStop c h).route = h.route ∧ (Hub.sendStop c h).limits = h.limits
    ∧ (Hub.sendStop c h).trail = h.trail ∧ (Hub.sendStop c h).dock = h.dock
    ∧ (Hub.sendStop c h).beacon = h.beacon ∧ (Hub.sendStop c h).load = h.load
    ∧ (Hub.sendStop c h).store = h.store ∧ (Hub.sendStop c h).flash = h.flash ∧ (Hub.sendStop c h).plan = h.plan
    ∧ (Hub.sendStop c h).power = h.power ∧ (Hub.sendStop c h).att = h.att
    ∧ (Hub.sendStop c h).inReset = h.inReset ∧ (Hub.sendStop c h).freeDraws = h.freeDraws := by
  unfold Hub.sendStop
  simp

@[simp] theorem Hub.endPermit_frame :
    (Hub.endPermit h).time = h.time ∧ (Hub.endPermit h).table = h.table ∧ (Hub.endPermit h).scanner = h.scanner
    ∧ (Hub.endPermit h).lines = h.lines ∧ (Hub.endPermit h).sensors = h.sensors
    ∧ (Hub.endPermit h).queue = h.queue ∧ (Hub.endPermit h).updater = h.updater ∧ (Hub.endPermit h).odo = h.odo
    ∧ (Hub.endPermit h).route = h.route ∧ (Hub.endPermit h).limits = h.limits
    ∧ (Hub.endPermit h).trail = h.trail ∧ (Hub.endPermit h).dock = h.dock ∧ (Hub.endPermit h).beacon = h.beacon
    ∧ (Hub.endPermit h).load = h.load ∧ (Hub.endPermit h).store = h.store ∧ (Hub.endPermit h).flash = h.flash
    ∧ (Hub.endPermit h).plan = h.plan ∧ (Hub.endPermit h).power = h.power ∧ (Hub.endPermit h).drive = h.drive
    ∧ (Hub.endPermit h).att = h.att ∧ (Hub.endPermit h).inReset = h.inReset
    ∧ (Hub.endPermit h).freeDraws = h.freeDraws :=
  ⟨rfl, rfl, rfl, rfl, rfl, rfl, rfl, rfl, rfl, rfl, rfl, rfl, rfl, rfl, rfl, rfl, rfl, rfl, rfl, rfl, rfl, rfl⟩

@[simp] theorem Hub.stopSequence_frame (c : StopCause) :
    (Hub.stopSequence c h).time = h.time ∧ (Hub.stopSequence c h).table = h.table
    ∧ (Hub.stopSequence c h).scanner = h.scanner ∧ (Hub.stopSequence c h).lines = h.lines
    ∧ (Hub.stopSequence c h).sensors = h.sensors ∧ (Hub.stopSequence c h).queue = h.queue
    ∧ (Hub.stopSequence c h).updater = h.updater ∧ (Hub.stopSequence c h).odo = h.odo
    ∧ (Hub.stopSequence c h).route = h.route ∧ (Hub.stopSequence c h).limits = h.limits
    ∧ (Hub.stopSequence c h).trail = h.trail ∧ (Hub.stopSequence c h).dock = h.dock
    ∧ (Hub.stopSequence c h).beacon = h.beacon ∧ (Hub.stopSequence c h).load = h.load
    ∧ (Hub.stopSequence c h).store = h.store ∧ (Hub.stopSequence c h).flash = h.flash
    ∧ (Hub.stopSequence c h).plan = h.plan ∧ (Hub.stopSequence c h).power = h.power
    ∧ (Hub.stopSequence c h).inReset = h.inReset ∧ (Hub.stopSequence c h).freeDraws = h.freeDraws := by
  unfold Hub.stopSequence
  simp

@[simp] theorem Hub.inhibit_frame :
    (Hub.inhibit h).time = h.time ∧ (Hub.inhibit h).table = h.table ∧ (Hub.inhibit h).scanner = h.scanner
    ∧ (Hub.inhibit h).lines = h.lines ∧ (Hub.inhibit h).sensors = h.sensors ∧ (Hub.inhibit h).queue = h.queue
    ∧ (Hub.inhibit h).updater = h.updater ∧ (Hub.inhibit h).odo = h.odo ∧ (Hub.inhibit h).route = h.route
    ∧ (Hub.inhibit h).limits = h.limits ∧ (Hub.inhibit h).trail = h.trail ∧ (Hub.inhibit h).dock = h.dock
    ∧ (Hub.inhibit h).beacon = h.beacon ∧ (Hub.inhibit h).load = h.load ∧ (Hub.inhibit h).store = h.store
    ∧ (Hub.inhibit h).flash = h.flash ∧ (Hub.inhibit h).plan = h.plan ∧ (Hub.inhibit h).power = h.power
    ∧ (Hub.inhibit h).drive = h.drive ∧ (Hub.inhibit h).att = h.att ∧ (Hub.inhibit h).inReset = h.inReset
    ∧ (Hub.inhibit h).freeDraws = h.freeDraws :=
  ⟨rfl, rfl, rfl, rfl, rfl, rfl, rfl, rfl, rfl, rfl, rfl, rfl, rfl, rfl, rfl, rfl, rfl, rfl, rfl, rfl, rfl, rfl⟩

@[simp] theorem Hub.markStale_frame :
    (Hub.markStale h).time = h.time ∧ (Hub.markStale h).table = h.table ∧ (Hub.markStale h).scanner = h.scanner
    ∧ (Hub.markStale h).lines = h.lines ∧ (Hub.markStale h).sensors = h.sensors
    ∧ (Hub.markStale h).queue = h.queue ∧ (Hub.markStale h).updater = h.updater ∧ (Hub.markStale h).odo = h.odo
    ∧ (Hub.markStale h).route = h.route ∧ (Hub.markStale h).limits = h.limits
    ∧ (Hub.markStale h).trail = h.trail ∧ (Hub.markStale h).dock = h.dock ∧ (Hub.markStale h).beacon = h.beacon
    ∧ (Hub.markStale h).load = h.load ∧ (Hub.markStale h).store = h.store ∧ (Hub.markStale h).flash = h.flash
    ∧ (Hub.markStale h).plan = h.plan ∧ (Hub.markStale h).power = h.power
    ∧ (Hub.markStale h).inReset = h.inReset ∧ (Hub.markStale h).freeDraws = h.freeDraws := by
  unfold Hub.markStale
  and_intros <;> (try dsimp only) <;> (repeat' split) <;> simp

@[simp] theorem Hub.linkTrigger_frame :
    (Hub.linkTrigger h).time = h.time ∧ (Hub.linkTrigger h).table = h.table
    ∧ (Hub.linkTrigger h).scanner = h.scanner ∧ (Hub.linkTrigger h).lines = h.lines
    ∧ (Hub.linkTrigger h).sensors = h.sensors ∧ (Hub.linkTrigger h).queue = h.queue
    ∧ (Hub.linkTrigger h).updater = h.updater ∧ (Hub.linkTrigger h).odo = h.odo
    ∧ (Hub.linkTrigger h).route = h.route ∧ (Hub.linkTrigger h).limits = h.limits
    ∧ (Hub.linkTrigger h).trail = h.trail ∧ (Hub.linkTrigger h).dock = h.dock
    ∧ (Hub.linkTrigger h).beacon = h.beacon ∧ (Hub.linkTrigger h).load = h.load
    ∧ (Hub.linkTrigger h).store = h.store ∧ (Hub.linkTrigger h).flash = h.flash
    ∧ (Hub.linkTrigger h).plan = h.plan ∧ (Hub.linkTrigger h).power = h.power
    ∧ (Hub.linkTrigger h).inReset = h.inReset ∧ (Hub.linkTrigger h).freeDraws = h.freeDraws := by
  unfold Hub.linkTrigger
  and_intros <;> (try dsimp only) <;> (repeat' split) <;> simp

@[simp] theorem Hub.restartTrigger_frame :
    (Hub.restartTrigger h).time = h.time ∧ (Hub.restartTrigger h).table = h.table
    ∧ (Hub.restartTrigger h).scanner = h.scanner ∧ (Hub.restartTrigger h).lines = h.lines
    ∧ (Hub.restartTrigger h).sensors = h.sensors ∧ (Hub.restartTrigger h).queue = h.queue
    ∧ (Hub.restartTrigger h).updater = h.updater ∧ (Hub.restartTrigger h).odo = h.odo
    ∧ (Hub.restartTrigger h).route = h.route ∧ (Hub.restartTrigger h).limits = h.limits
    ∧ (Hub.restartTrigger h).trail = h.trail ∧ (Hub.restartTrigger h).dock = h.dock
    ∧ (Hub.restartTrigger h).beacon = h.beacon ∧ (Hub.restartTrigger h).load = h.load
    ∧ (Hub.restartTrigger h).store = h.store ∧ (Hub.restartTrigger h).flash = h.flash
    ∧ (Hub.restartTrigger h).plan = h.plan ∧ (Hub.restartTrigger h).power = h.power
    ∧ (Hub.restartTrigger h).inReset = h.inReset ∧ (Hub.restartTrigger h).freeDraws = h.freeDraws := by
  unfold Hub.restartTrigger
  dsimp only
  split <;> simp

@[simp] theorem Hub.trigger_frame (c : StopCause) :
    (Hub.trigger c h).time = h.time ∧ (Hub.trigger c h).table = h.table ∧ (Hub.trigger c h).scanner = h.scanner
    ∧ (Hub.trigger c h).lines = h.lines ∧ (Hub.trigger c h).sensors = h.sensors
    ∧ (Hub.trigger c h).queue = h.queue ∧ (Hub.trigger c h).updater = h.updater ∧ (Hub.trigger c h).odo = h.odo
    ∧ (Hub.trigger c h).route = h.route ∧ (Hub.trigger c h).limits = h.limits
    ∧ (Hub.trigger c h).trail = h.trail ∧ (Hub.trigger c h).dock = h.dock ∧ (Hub.trigger c h).beacon = h.beacon
    ∧ (Hub.trigger c h).load = h.load ∧ (Hub.trigger c h).store = h.store ∧ (Hub.trigger c h).flash = h.flash
    ∧ (Hub.trigger c h).plan = h.plan ∧ (Hub.trigger c h).power = h.power
    ∧ (Hub.trigger c h).inReset = h.inReset ∧ (Hub.trigger c h).freeDraws = h.freeDraws := by
  unfold Hub.trigger
  and_intros <;> (try dsimp only) <;> (repeat' split) <;> simp

@[simp] theorem Hub.placeHold_frame (k : Hold) :
    (Hub.placeHold k h).time = h.time ∧ (Hub.placeHold k h).table = h.table
    ∧ (Hub.placeHold k h).scanner = h.scanner ∧ (Hub.placeHold k h).lines = h.lines
    ∧ (Hub.placeHold k h).sensors = h.sensors ∧ (Hub.placeHold k h).queue = h.queue
    ∧ (Hub.placeHold k h).updater = h.updater ∧ (Hub.placeHold k h).odo = h.odo
    ∧ (Hub.placeHold k h).route = h.route ∧ (Hub.placeHold k h).limits = h.limits
    ∧ (Hub.placeHold k h).trail = h.trail ∧ (Hub.placeHold k h).dock = h.dock
    ∧ (Hub.placeHold k h).beacon = h.beacon ∧ (Hub.placeHold k h).load = h.load
    ∧ (Hub.placeHold k h).store = h.store ∧ (Hub.placeHold k h).flash = h.flash
    ∧ (Hub.placeHold k h).plan = h.plan ∧ (Hub.placeHold k h).power = h.power
    ∧ (Hub.placeHold k h).inReset = h.inReset ∧ (Hub.placeHold k h).freeDraws = h.freeDraws := by
  unfold Hub.placeHold
  and_intros <;> (try dsimp only) <;> (repeat' split) <;> simp

@[simp] theorem Hub.removeHold_frame (k : Hold) :
    (Hub.removeHold k h).time = h.time ∧ (Hub.removeHold k h).table = h.table
    ∧ (Hub.removeHold k h).scanner = h.scanner ∧ (Hub.removeHold k h).lines = h.lines
    ∧ (Hub.removeHold k h).sensors = h.sensors ∧ (Hub.removeHold k h).queue = h.queue
    ∧ (Hub.removeHold k h).updater = h.updater ∧ (Hub.removeHold k h).odo = h.odo
    ∧ (Hub.removeHold k h).route = h.route ∧ (Hub.removeHold k h).limits = h.limits
    ∧ (Hub.removeHold k h).trail = h.trail ∧ (Hub.removeHold k h).dock = h.dock
    ∧ (Hub.removeHold k h).beacon = h.beacon ∧ (Hub.removeHold k h).load = h.load
    ∧ (Hub.removeHold k h).store = h.store ∧ (Hub.removeHold k h).flash = h.flash
    ∧ (Hub.removeHold k h).plan = h.plan ∧ (Hub.removeHold k h).power = h.power
    ∧ (Hub.removeHold k h).drive = h.drive ∧ (Hub.removeHold k h).att = h.att
    ∧ (Hub.removeHold k h).inReset = h.inReset ∧ (Hub.removeHold k h).freeDraws = h.freeDraws :=
  ⟨rfl, rfl, rfl, rfl, rfl, rfl, rfl, rfl, rfl, rfl, rfl, rfl, rfl, rfl, rfl, rfl, rfl, rfl, rfl, rfl, rfl, rfl⟩

@[simp] theorem Hub.settleRecheck_frame (sw : Sweep) :
    (Hub.settleRecheck sw h).time = h.time ∧ (Hub.settleRecheck sw h).table = h.table
    ∧ (Hub.settleRecheck sw h).scanner = h.scanner ∧ (Hub.settleRecheck sw h).lines = h.lines
    ∧ (Hub.settleRecheck sw h).sensors = h.sensors ∧ (Hub.settleRecheck sw h).queue = h.queue
    ∧ (Hub.settleRecheck sw h).updater = h.updater ∧ (Hub.settleRecheck sw h).odo = h.odo
    ∧ (Hub.settleRecheck sw h).route = h.route ∧ (Hub.settleRecheck sw h).limits = h.limits
    ∧ (Hub.settleRecheck sw h).trail = h.trail ∧ (Hub.settleRecheck sw h).dock = h.dock
    ∧ (Hub.settleRecheck sw h).beacon = h.beacon ∧ (Hub.settleRecheck sw h).load = h.load
    ∧ (Hub.settleRecheck sw h).store = h.store ∧ (Hub.settleRecheck sw h).flash = h.flash
    ∧ (Hub.settleRecheck sw h).plan = h.plan ∧ (Hub.settleRecheck sw h).power = h.power
    ∧ (Hub.settleRecheck sw h).inReset = h.inReset ∧ (Hub.settleRecheck sw h).freeDraws = h.freeDraws := by
  unfold Hub.settleRecheck
  and_intros <;> (try dsimp only) <;> (repeat' split) <;> simp

@[simp] theorem Hub.startRecheck_frame :
    (Hub.startRecheck h).time = h.time ∧ (Hub.startRecheck h).table = h.table
    ∧ (Hub.startRecheck h).scanner = h.scanner ∧ (Hub.startRecheck h).lines = h.lines
    ∧ (Hub.startRecheck h).sensors = h.sensors ∧ (Hub.startRecheck h).queue = h.queue
    ∧ (Hub.startRecheck h).updater = h.updater ∧ (Hub.startRecheck h).odo = h.odo
    ∧ (Hub.startRecheck h).route = h.route ∧ (Hub.startRecheck h).limits = h.limits
    ∧ (Hub.startRecheck h).trail = h.trail ∧ (Hub.startRecheck h).dock = h.dock
    ∧ (Hub.startRecheck h).beacon = h.beacon ∧ (Hub.startRecheck h).load = h.load
    ∧ (Hub.startRecheck h).store = h.store ∧ (Hub.startRecheck h).flash = h.flash
    ∧ (Hub.startRecheck h).plan = h.plan ∧ (Hub.startRecheck h).power = h.power
    ∧ (Hub.startRecheck h).inReset = h.inReset ∧ (Hub.startRecheck h).freeDraws = h.freeDraws := by
  unfold Hub.startRecheck
  and_intros <;> (try dsimp only) <;> (repeat' split) <;> simp

@[simp] theorem Hub.startPending_frame :
    (Hub.startPending h).time = h.time ∧ (Hub.startPending h).table = h.table
    ∧ (Hub.startPending h).scanner = h.scanner ∧ (Hub.startPending h).lines = h.lines
    ∧ (Hub.startPending h).sensors = h.sensors ∧ (Hub.startPending h).queue = h.queue
    ∧ (Hub.startPending h).updater = h.updater ∧ (Hub.startPending h).odo = h.odo
    ∧ (Hub.startPending h).route = h.route ∧ (Hub.startPending h).limits = h.limits
    ∧ (Hub.startPending h).trail = h.trail ∧ (Hub.startPending h).dock = h.dock
    ∧ (Hub.startPending h).beacon = h.beacon ∧ (Hub.startPending h).load = h.load
    ∧ (Hub.startPending h).store = h.store ∧ (Hub.startPending h).flash = h.flash
    ∧ (Hub.startPending h).plan = h.plan ∧ (Hub.startPending h).power = h.power
    ∧ (Hub.startPending h).inReset = h.inReset ∧ (Hub.startPending h).freeDraws = h.freeDraws := by
  unfold Hub.startPending
  and_intros <;> (try dsimp only) <;> (repeat' split) <;> simp

@[simp] theorem Hub.recheckAsked_frame :
    (Hub.recheckAsked h).time = h.time ∧ (Hub.recheckAsked h).table = h.table
    ∧ (Hub.recheckAsked h).scanner = h.scanner ∧ (Hub.recheckAsked h).lines = h.lines
    ∧ (Hub.recheckAsked h).sensors = h.sensors ∧ (Hub.recheckAsked h).queue = h.queue
    ∧ (Hub.recheckAsked h).updater = h.updater ∧ (Hub.recheckAsked h).odo = h.odo
    ∧ (Hub.recheckAsked h).route = h.route ∧ (Hub.recheckAsked h).limits = h.limits
    ∧ (Hub.recheckAsked h).trail = h.trail ∧ (Hub.recheckAsked h).dock = h.dock
    ∧ (Hub.recheckAsked h).beacon = h.beacon ∧ (Hub.recheckAsked h).load = h.load
    ∧ (Hub.recheckAsked h).store = h.store ∧ (Hub.recheckAsked h).flash = h.flash
    ∧ (Hub.recheckAsked h).plan = h.plan ∧ (Hub.recheckAsked h).power = h.power
    ∧ (Hub.recheckAsked h).inReset = h.inReset ∧ (Hub.recheckAsked h).freeDraws = h.freeDraws := by
  unfold Hub.recheckAsked
  and_intros <;> (try dsimp only) <;> (repeat' split) <;> simp

@[simp] theorem Hub.notify_frame :
    (Hub.notify h).time = h.time ∧ (Hub.notify h).table = h.table ∧ (Hub.notify h).scanner = h.scanner
    ∧ (Hub.notify h).lines = h.lines ∧ (Hub.notify h).sensors = h.sensors ∧ (Hub.notify h).queue = h.queue
    ∧ (Hub.notify h).updater = h.updater ∧ (Hub.notify h).odo = h.odo ∧ (Hub.notify h).route = h.route
    ∧ (Hub.notify h).limits = h.limits ∧ (Hub.notify h).trail = h.trail ∧ (Hub.notify h).dock = h.dock
    ∧ (Hub.notify h).beacon = h.beacon ∧ (Hub.notify h).load = h.load ∧ (Hub.notify h).store = h.store
    ∧ (Hub.notify h).flash = h.flash ∧ (Hub.notify h).plan = h.plan ∧ (Hub.notify h).power = h.power
    ∧ (Hub.notify h).inReset = h.inReset ∧ (Hub.notify h).freeDraws = h.freeDraws := by
  unfold Hub.notify
  simp

/-! ## The frames -/

/-- What a frame does to the link depends on the link alone (R190). -/
theorem Hub.send_drive (f : DriveFrame) :
    (h.send f).drive =
      match h.drive.sending with
      | none => { h.drive with sending := some f }
      | some _ => { h.drive with waiting := enqueueFrame h.drive.waiting f } := by
  unfold Hub.send
  split <;> rename_i e <;> simp only [e]

/-- The guidance depends on pose, dock, waypoints, trail, beacon alone (R130). -/
theorem Hub.guidance_congr (g : Hub) (ho : g.odo = h.odo) (hd : g.dock = h.dock)
    (hr : g.route.waypoints = h.route.waypoints) (ht : g.trail = h.trail) (hb : g.beacon = h.beacon) : g.guidance = h.guidance := by
  simp only [Hub.guidance, Hub.tracking, Hub.guideTo, Hub.aim, Hub.dockUsable, Hub.floor, Hub.beaconHint, Hub.freshOf,
    ho, hd, hr, ht, hb]

/-- A refusal's frame and count depend on the link, the hold set and what the guidance depends on (R90). -/
theorem Hub.refuse_drive (g : Hub) (q : Byte) (r : Reason) (b : Bool) (hv : g.drive = h.drive)
    (hh : g.permit.holds = h.permit.holds) (ho : g.odo = h.odo) (hd : g.dock = h.dock)
    (hr : g.route.waypoints = h.route.waypoints) (ht : g.trail = h.trail) (hb : g.beacon = h.beacon) : (g.refuse q r b).drive = (h.refuse q r b).drive := by
  simp [Hub.refuse, Hub.send_drive, hv, hh, Hub.guidance_congr h g ho hd hr ht hb]

@[simp] theorem Hub.refuse_att (q : Byte) (r : Reason) (b : Bool) :
    (h.refuse q r b).att = { h.att with refusals := h.att.refusals.modify r.ctorIdx sat8 } := by
  simp [Hub.refuse]

/-! ## What the stop sequence and the triggers make of the permit -/

@[simp] theorem Hub.abandonCheck_permit (r : Reason) : (h.abandonCheck r).permit = { h.permit with check := none } := by
  unfold Hub.abandonCheck
  split
  · rename_i e
    rw [← e]
  · simp

theorem Hub.abandonCheck_none (r : Reason) (e : h.permit.check = none) : h.abandonCheck r = h := by
  simp [Hub.abandonCheck, e]

theorem Hub.abandonCheck_some (r : Reason) (c : Check) (e : h.permit.check = some c) :
    h.abandonCheck r = { h with permit.check := none }.refuse c.ask.seq r false := by
  simp [Hub.abandonCheck, e]

@[simp] theorem Hub.sendStop_permit (c : StopCause) :
    (h.sendStop c).permit = { h.permit with lastStop := some c } := by
  simp [Hub.sendStop]

/-- The permit after the stop sequence (R104). -/
@[simp] theorem Hub.stopSequence_permit (c : StopCause) :
    (h.stopSequence c).permit =
      { h.permit with
        state := .stopping, active := none, expiry := none, check := none, recheck := none, recheckPending := false
        lastStop := some c, stopTimer := some ⟨h.time.ms, 250⟩ } := by
  simp [Hub.stopSequence, Hub.endPermit, Hub.timer]

/-- In MOVING and PROBING every trigger but LINK and RESTART runs the stop sequence (R104). -/
theorem Hub.trigger_in_motion (c : StopCause) (hs : h.permit.state = .moving ∨ h.permit.state = .probing)
    (hl : c ≠ .link) (hr : c ≠ .restart) : h.trigger c = h.stopSequence c := by
  unfold Hub.trigger
  rcases hs with hs | hs <;> cases c <;> simp_all

/-- In STOPPING and INHIBITED no trigger but LINK and RESTART has an effect (R105). -/
theorem Hub.trigger_at_rest (c : StopCause) (hs : h.permit.state = .stopping ∨ h.permit.state = .inhibited)
    (hl : c ≠ .link) (hr : c ≠ .restart) : h.trigger c = h := by
  unfold Hub.trigger
  rcases hs with hs | hs <;> cases c <;> simp_all

/-- In STILL without a check in flight no trigger but LINK and RESTART has an effect (R105). -/
theorem Hub.trigger_still (c : StopCause) (hs : h.permit.state = .still) (hc : h.permit.check = none)
    (hl : c ≠ .link) (hr : c ≠ .restart) : h.trigger c = h := by
  unfold Hub.trigger
  cases c <;> simp_all [Hub.abandonCheck, Hub.markStale]

/-- No trigger but RESTART touches the hold set. -/
theorem Hub.trigger_holds (c : StopCause) (hr : c ≠ .restart) : (h.trigger c).permit.holds = h.permit.holds := by
  have hm : h.markStale.permit.holds = h.permit.holds := by
    unfold Hub.markStale
    repeat' split
    all_goals simp
  unfold Hub.trigger Hub.linkTrigger
  cases c <;> dsimp only <;> (repeat' split) <;> simp_all [Hub.inhibit, Hub.endPermit]

/-- The permit after the trigger LINK (R110). -/
theorem Hub.linkTrigger_permit :
    h.linkTrigger.permit =
      match h.permit.state with
      | .inhibited => h.permit
      | .still => { h.permit with state := .inhibited, driveStopped := false, check := none }
      | .moving | .probing | .stopping =>
        { h.permit with
          state := .inhibited, driveStopped := false, active := none, expiry := none, check := none, recheck := none
          recheckPending := false, stopTimer := none, lastStop := some .link } := by
  unfold Hub.linkTrigger
  cases h.permit.state <;> simp [Hub.inhibit, Hub.endPermit]

/-- The permit after the trigger RESTART (R120). -/
theorem Hub.restartTrigger_permit :
    h.restartTrigger.permit =
      match h.permit.state with
      | .moving | .probing | .stopping =>
        { h.permit with
          holds := { plan := true, power := false, lease := false, route := false }
          active := none, expiry := none, check := none, recheck := none, recheckPending := false
          state := .inhibited, driveStopped := false, stopTimer := none, lastStop := some .restart }
      | .still | .inhibited =>
        { h.permit with
          holds := { plan := true, power := false, lease := false, route := false }
          active := none, expiry := none, check := none, recheck := none, recheckPending := false } := by
  unfold Hub.restartTrigger
  dsimp only
  cases h.permit.state <;> simp [Hub.endPermit, Hub.inhibit]

theorem Hub.placeHold_present (k : Hold) (e : h.permit.holds.has k = true) : h.placeHold k = h := by
  simp [Hub.placeHold, e]

theorem Hub.placeHold_absent (k : Hold) (e : h.permit.holds.has k = false) :
    h.placeHold k = Hub.trigger .hold { h with permit.holds := h.permit.holds.set k true } := by
  simp [Hub.placeHold, e]

/-- A hold placed is in the set, and the others stay (R115). -/
theorem Hub.placeHold_holds (k : Hold) : (h.placeHold k).permit.holds = h.permit.holds.set k true := by
  cases e : h.permit.holds.has k
  · rw [Hub.placeHold_absent h k e, Hub.trigger_holds _ _ (by simp)]
  · rw [Hub.placeHold_present h k e]
    cases k <;> simp only [Holds.has] at e <;> simp [Holds.set, ← e]

/-! ## What a sweep depends on -/

/-- Examining tiles depends on the slots and the active floor alone. -/
theorem Hub.examine_congr {g : Hub} (ht : g.table.slots = h.table.slots) (hf : g.odo.floor = h.odo.floor)
    (stop : Sweep → FootTile → Bool) (blocks : Seen → Bool) (tiles : List FootTile) (sw : Sweep) :
    g.examine stop blocks tiles sw = h.examine stop blocks tiles sw := by
  induction tiles generalizing sw with
  | nil => rfl
  | cons f rest ih =>
    have hs : g.table.sensedAt g.floor f.tile = h.table.sensedAt h.floor f.tile := by
      simp only [Table.sensedAt, Hub.floor, ht, hf]
    simp only [Hub.examine, hs, ih]

/-- A sweep that begins depends on the slots and the active floor alone. -/
theorem Hub.beginSweep_congr {g : Hub} (ht : g.table.slots = h.table.slots) (hf : g.odo.floor = h.odo.floor)
    (stop : Sweep → FootTile → Bool) (blocks : Seen → Bool) (tiles : List FootTile) :
    g.beginSweep stop blocks tiles = h.beginSweep stop blocks tiles := by
  have hn : g.table.nextPlanned g.floor 0 = h.table.nextPlanned h.floor 0 := by
    simp only [Table.nextPlanned, Hub.floor, ht, hf]
  simp only [Hub.beginSweep, hn, h.examine_congr ht hf]

/-- A recheck that begins depends on the slots and the pose alone. -/
theorem Hub.newRecheck_congr {g : Hub} (ht : g.table.slots = h.table.slots) (ho : g.odo = h.odo) (p : PermitRecord) :
    g.newRecheck p = h.newRecheck p := by
  simp only [Hub.newRecheck, Hub.remainingPath, ho, h.beginSweep_congr ht (by rw [ho])]

/-- A check that begins does not depend on what the permit record does not hold. -/
theorem Hub.newCheck_permit {p : PermitCtl} (hp : p.active = h.permit.active) (a : AskFrame) (restarted : Bool) :
    Hub.newCheck { h with permit := p } a restarted = h.newCheck a restarted := by
  have hq : Hub.probing { h with permit := p } = h.probing := by simp only [Hub.probing, hp]
  have hb := fun stop blocks tiles =>
    h.beginSweep_congr (g := { h with permit := p }) rfl rfl stop blocks tiles
  simp only [Hub.newCheck, hq, hb]
  rfl

end Sys2Proof.Machine
end

