-- ==== Sys2Proof/Laws/Evidence.lean ====
section
/-! SUPPORT. What the operations of the Load Supervisor, the Evidence Queue and the Map Updater leave as it was. -/

namespace Sys2Proof.Machine

set_option linter.unnecessarySeqFocus false
set_option linter.unusedTactic false
set_option linter.unreachableTactic false

variable (h : Hub)

@[simp] theorem Hub.setCauses_frame (l : LoadSup) :
    (Hub.setCauses l h).time = h.time ∧ (Hub.setCauses l h).table = h.table
    ∧ (Hub.setCauses l h).lines = h.lines ∧ (Hub.setCauses l h).sensors = h.sensors
    ∧ (Hub.setCauses l h).queue = h.queue ∧ (Hub.setCauses l h).updater = h.updater
    ∧ (Hub.setCauses l h).odo = h.odo ∧ (Hub.setCauses l h).permit = h.permit
    ∧ (Hub.setCauses l h).route = h.route ∧ (Hub.setCauses l h).limits = h.limits
    ∧ (Hub.setCauses l h).trail = h.trail ∧ (Hub.setCauses l h).dock = h.dock
    ∧ (Hub.setCauses l h).beacon = h.beacon ∧ (Hub.setCauses l h).store = h.store
    ∧ (Hub.setCauses l h).flash = h.flash ∧ (Hub.setCauses l h).plan = h.plan
    ∧ (Hub.setCauses l h).power = h.power ∧ (Hub.setCauses l h).drive = h.drive
    ∧ (Hub.setCauses l h).inReset = h.inReset ∧ (Hub.setCauses l h).freeDraws = h.freeDraws := by
  unfold Hub.setCauses
  and_intros <;> (try dsimp only) <;> (repeat' split) <;> simp

@[simp] theorem Hub.reportRug_frame (b : Bool) :
    (Hub.reportRug b h).time = h.time ∧ (Hub.reportRug b h).table = h.table
    ∧ (Hub.reportRug b h).lines = h.lines ∧ (Hub.reportRug b h).sensors = h.sensors
    ∧ (Hub.reportRug b h).queue = h.queue ∧ (Hub.reportRug b h).updater = h.updater
    ∧ (Hub.reportRug b h).odo = h.odo ∧ (Hub.reportRug b h).permit = h.permit
    ∧ (Hub.reportRug b h).route = h.route ∧ (Hub.reportRug b h).limits = h.limits
    ∧ (Hub.reportRug b h).trail = h.trail ∧ (Hub.reportRug b h).dock = h.dock
    ∧ (Hub.reportRug b h).beacon = h.beacon ∧ (Hub.reportRug b h).store = h.store
    ∧ (Hub.reportRug b h).flash = h.flash ∧ (Hub.reportRug b h).plan = h.plan
    ∧ (Hub.reportRug b h).power = h.power ∧ (Hub.reportRug b h).drive = h.drive
    ∧ (Hub.reportRug b h).inReset = h.inReset ∧ (Hub.reportRug b h).freeDraws = h.freeDraws := by
  unfold Hub.reportRug
  simp

@[simp] theorem Hub.reportSag_frame :
    (Hub.reportSag h).time = h.time ∧ (Hub.reportSag h).table = h.table ∧ (Hub.reportSag h).lines = h.lines
    ∧ (Hub.reportSag h).sensors = h.sensors ∧ (Hub.reportSag h).queue = h.queue
    ∧ (Hub.reportSag h).updater = h.updater ∧ (Hub.reportSag h).odo = h.odo
    ∧ (Hub.reportSag h).permit = h.permit ∧ (Hub.reportSag h).route = h.route
    ∧ (Hub.reportSag h).limits = h.limits ∧ (Hub.reportSag h).trail = h.trail ∧ (Hub.reportSag h).dock = h.dock
    ∧ (Hub.reportSag h).beacon = h.beacon ∧ (Hub.reportSag h).store = h.store
    ∧ (Hub.reportSag h).flash = h.flash ∧ (Hub.reportSag h).plan = h.plan ∧ (Hub.reportSag h).power = h.power
    ∧ (Hub.reportSag h).drive = h.drive ∧ (Hub.reportSag h).inReset = h.inReset
    ∧ (Hub.reportSag h).freeDraws = h.freeDraws := by
  unfold Hub.reportSag
  simp

@[simp] theorem Hub.testBacklog_frame :
    (Hub.testBacklog h).time = h.time ∧ (Hub.testBacklog h).table = h.table
    ∧ (Hub.testBacklog h).scanner = h.scanner ∧ (Hub.testBacklog h).lines = h.lines
    ∧ (Hub.testBacklog h).sensors = h.sensors ∧ (Hub.testBacklog h).updater = h.updater
    ∧ (Hub.testBacklog h).odo = h.odo ∧ (Hub.testBacklog h).permit = h.permit
    ∧ (Hub.testBacklog h).route = h.route ∧ (Hub.testBacklog h).limits = h.limits
    ∧ (Hub.testBacklog h).trail = h.trail ∧ (Hub.testBacklog h).dock = h.dock
    ∧ (Hub.testBacklog h).beacon = h.beacon ∧ (Hub.testBacklog h).load = h.load
    ∧ (Hub.testBacklog h).store = h.store ∧ (Hub.testBacklog h).flash = h.flash
    ∧ (Hub.testBacklog h).plan = h.plan ∧ (Hub.testBacklog h).power = h.power
    ∧ (Hub.testBacklog h).drive = h.drive ∧ (Hub.testBacklog h).inReset = h.inReset
    ∧ (Hub.testBacklog h).freeDraws = h.freeDraws := by
  unfold Hub.testBacklog
  and_intros <;> (try dsimp only) <;> (repeat' split) <;> simp

@[simp] theorem Hub.dropHead_frame :
    (Hub.dropHead h).time = h.time ∧ (Hub.dropHead h).table = h.table ∧ (Hub.dropHead h).scanner = h.scanner
    ∧ (Hub.dropHead h).lines = h.lines ∧ (Hub.dropHead h).sensors = h.sensors
    ∧ (Hub.dropHead h).updater = h.updater ∧ (Hub.dropHead h).odo = h.odo ∧ (Hub.dropHead h).permit = h.permit
    ∧ (Hub.dropHead h).route = h.route ∧ (Hub.dropHead h).limits = h.limits ∧ (Hub.dropHead h).trail = h.trail
    ∧ (Hub.dropHead h).dock = h.dock ∧ (Hub.dropHead h).beacon = h.beacon ∧ (Hub.dropHead h).load = h.load
    ∧ (Hub.dropHead h).store = h.store ∧ (Hub.dropHead h).flash = h.flash ∧ (Hub.dropHead h).plan = h.plan
    ∧ (Hub.dropHead h).power = h.power ∧ (Hub.dropHead h).drive = h.drive ∧ (Hub.dropHead h).inReset = h.inReset
    ∧ (Hub.dropHead h).freeDraws = h.freeDraws := by
  unfold Hub.dropHead
  simp

@[simp] theorem Hub.beginItems_frame (fl : Floor) (l : List Item) :
    (Hub.beginItems fl l h).1.time = h.time ∧ (Hub.beginItems fl l h).1.table = h.table
    ∧ (Hub.beginItems fl l h).1.scanner = h.scanner ∧ (Hub.beginItems fl l h).1.lines = h.lines
    ∧ (Hub.beginItems fl l h).1.sensors = h.sensors ∧ (Hub.beginItems fl l h).1.odo = h.odo
    ∧ (Hub.beginItems fl l h).1.permit = h.permit ∧ (Hub.beginItems fl l h).1.route = h.route
    ∧ (Hub.beginItems fl l h).1.limits = h.limits ∧ (Hub.beginItems fl l h).1.trail = h.trail
    ∧ (Hub.beginItems fl l h).1.dock = h.dock ∧ (Hub.beginItems fl l h).1.beacon = h.beacon
    ∧ (Hub.beginItems fl l h).1.load = h.load ∧ (Hub.beginItems fl l h).1.store = h.store
    ∧ (Hub.beginItems fl l h).1.flash = h.flash ∧ (Hub.beginItems fl l h).1.plan = h.plan
    ∧ (Hub.beginItems fl l h).1.power = h.power ∧ (Hub.beginItems fl l h).1.drive = h.drive
    ∧ (Hub.beginItems fl l h).1.inReset = h.inReset ∧ (Hub.beginItems fl l h).1.freeDraws = h.freeDraws := by
  induction l generalizing h with
  | nil => simp [Hub.beginItems]
  | cons i l ih =>
    unfold Hub.beginItems
    and_intros <;> (try dsimp only) <;> (repeat' split) <;> simp [ih]

@[simp] theorem Hub.takeRecords_frame (l : List Record) :
    (Hub.takeRecords l h).time = h.time ∧ (Hub.takeRecords l h).table = h.table
    ∧ (Hub.takeRecords l h).scanner = h.scanner ∧ (Hub.takeRecords l h).lines = h.lines
    ∧ (Hub.takeRecords l h).sensors = h.sensors ∧ (Hub.takeRecords l h).odo = h.odo
    ∧ (Hub.takeRecords l h).permit = h.permit ∧ (Hub.takeRecords l h).route = h.route
    ∧ (Hub.takeRecords l h).limits = h.limits ∧ (Hub.takeRecords l h).trail = h.trail
    ∧ (Hub.takeRecords l h).dock = h.dock ∧ (Hub.takeRecords l h).beacon = h.beacon
    ∧ (Hub.takeRecords l h).load = h.load ∧ (Hub.takeRecords l h).store = h.store
    ∧ (Hub.takeRecords l h).flash = h.flash ∧ (Hub.takeRecords l h).plan = h.plan
    ∧ (Hub.takeRecords l h).power = h.power ∧ (Hub.takeRecords l h).drive = h.drive
    ∧ (Hub.takeRecords l h).inReset = h.inReset ∧ (Hub.takeRecords l h).freeDraws = h.freeDraws := by
  induction l generalizing h with
  | nil => simp [Hub.takeRecords]
  | cons r l ih =>
    unfold Hub.takeRecords
    and_intros <;> (try dsimp only) <;> (repeat' split) <;> simp [ih]

@[simp] theorem Hub.kickUpdater_frame :
    (Hub.kickUpdater h).time = h.time ∧ (Hub.kickUpdater h).table = h.table
    ∧ (Hub.kickUpdater h).scanner = h.scanner ∧ (Hub.kickUpdater h).lines = h.lines
    ∧ (Hub.kickUpdater h).sensors = h.sensors ∧ (Hub.kickUpdater h).odo = h.odo
    ∧ (Hub.kickUpdater h).permit = h.permit ∧ (Hub.kickUpdater h).route = h.route
    ∧ (Hub.kickUpdater h).limits = h.limits ∧ (Hub.kickUpdater h).trail = h.trail
    ∧ (Hub.kickUpdater h).dock = h.dock ∧ (Hub.kickUpdater h).beacon = h.beacon
    ∧ (Hub.kickUpdater h).load = h.load ∧ (Hub.kickUpdater h).store = h.store
    ∧ (Hub.kickUpdater h).flash = h.flash ∧ (Hub.kickUpdater h).plan = h.plan
    ∧ (Hub.kickUpdater h).power = h.power ∧ (Hub.kickUpdater h).drive = h.drive
    ∧ (Hub.kickUpdater h).inReset = h.inReset ∧ (Hub.kickUpdater h).freeDraws = h.freeDraws := by
  unfold Hub.kickUpdater
  and_intros <;> (try dsimp only) <;> (repeat' split) <;> simp

@[simp] theorem Hub.itemDone_frame :
    (Hub.itemDone h).time = h.time ∧ (Hub.itemDone h).table = h.table ∧ (Hub.itemDone h).scanner = h.scanner
    ∧ (Hub.itemDone h).lines = h.lines ∧ (Hub.itemDone h).sensors = h.sensors ∧ (Hub.itemDone h).odo = h.odo
    ∧ (Hub.itemDone h).permit = h.permit ∧ (Hub.itemDone h).route = h.route ∧ (Hub.itemDone h).limits = h.limits
    ∧ (Hub.itemDone h).trail = h.trail ∧ (Hub.itemDone h).dock = h.dock ∧ (Hub.itemDone h).beacon = h.beacon
    ∧ (Hub.itemDone h).load = h.load ∧ (Hub.itemDone h).store = h.store ∧ (Hub.itemDone h).flash = h.flash
    ∧ (Hub.itemDone h).plan = h.plan ∧ (Hub.itemDone h).power = h.power ∧ (Hub.itemDone h).drive = h.drive
    ∧ (Hub.itemDone h).inReset = h.inReset ∧ (Hub.itemDone h).freeDraws = h.freeDraws := by
  unfold Hub.itemDone
  and_intros <;> (try dsimp only) <;> (repeat' split) <;> simp

@[simp] theorem Hub.offer_frame (r : Record) :
    (Hub.offer r h).time = h.time ∧ (Hub.offer r h).table = h.table ∧ (Hub.offer r h).scanner = h.scanner
    ∧ (Hub.offer r h).lines = h.lines ∧ (Hub.offer r h).sensors = h.sensors ∧ (Hub.offer r h).odo = h.odo
    ∧ (Hub.offer r h).permit = h.permit ∧ (Hub.offer r h).route = h.route ∧ (Hub.offer r h).limits = h.limits
    ∧ (Hub.offer r h).trail = h.trail ∧ (Hub.offer r h).dock = h.dock ∧ (Hub.offer r h).beacon = h.beacon
    ∧ (Hub.offer r h).load = h.load ∧ (Hub.offer r h).store = h.store ∧ (Hub.offer r h).flash = h.flash
    ∧ (Hub.offer r h).plan = h.plan ∧ (Hub.offer r h).power = h.power ∧ (Hub.offer r h).drive = h.drive
    ∧ (Hub.offer r h).inReset = h.inReset ∧ (Hub.offer r h).freeDraws = h.freeDraws := by
  unfold Hub.offer
  and_intros <;> (try dsimp only) <;> (repeat' split) <;> simp

@[simp] theorem Hub.post_frame (k : EvidenceKind) (o : Source) (l : List Item) :
    (Hub.post k o l h).time = h.time ∧ (Hub.post k o l h).table = h.table
    ∧ (Hub.post k o l h).scanner = h.scanner ∧ (Hub.post k o l h).lines = h.lines
    ∧ (Hub.post k o l h).sensors = h.sensors ∧ (Hub.post k o l h).odo = h.odo
    ∧ (Hub.post k o l h).permit = h.permit ∧ (Hub.post k o l h).route = h.route
    ∧ (Hub.post k o l h).limits = h.limits ∧ (Hub.post k o l h).trail = h.trail
    ∧ (Hub.post k o l h).dock = h.dock ∧ (Hub.post k o l h).beacon = h.beacon ∧ (Hub.post k o l h).load = h.load
    ∧ (Hub.post k o l h).store = h.store ∧ (Hub.post k o l h).flash = h.flash ∧ (Hub.post k o l h).plan = h.plan
    ∧ (Hub.post k o l h).power = h.power ∧ (Hub.post k o l h).drive = h.drive
    ∧ (Hub.post k o l h).inReset = h.inReset ∧ (Hub.post k o l h).freeDraws = h.freeDraws := by
  unfold Hub.post
  and_intros <;> (try dsimp only) <;> (repeat' split) <;> simp

@[simp] theorem Hub.setPhase_frame (p : ApplyPhase) :
    (Hub.setPhase p h).time = h.time ∧ (Hub.setPhase p h).table = h.table
    ∧ (Hub.setPhase p h).scanner = h.scanner ∧ (Hub.setPhase p h).lines = h.lines
    ∧ (Hub.setPhase p h).sensors = h.sensors ∧ (Hub.setPhase p h).queue = h.queue
    ∧ (Hub.setPhase p h).odo = h.odo ∧ (Hub.setPhase p h).permit = h.permit ∧ (Hub.setPhase p h).route = h.route
    ∧ (Hub.setPhase p h).limits = h.limits ∧ (Hub.setPhase p h).trail = h.trail
    ∧ (Hub.setPhase p h).dock = h.dock ∧ (Hub.setPhase p h).beacon = h.beacon ∧ (Hub.setPhase p h).load = h.load
    ∧ (Hub.setPhase p h).store = h.store ∧ (Hub.setPhase p h).flash = h.flash ∧ (Hub.setPhase p h).plan = h.plan
    ∧ (Hub.setPhase p h).power = h.power ∧ (Hub.setPhase p h).drive = h.drive ∧ (Hub.setPhase p h).att = h.att
    ∧ (Hub.setPhase p h).inReset = h.inReset ∧ (Hub.setPhase p h).freeDraws = h.freeDraws :=
  ⟨rfl, rfl, rfl, rfl, rfl, rfl, rfl, rfl, rfl, rfl, rfl, rfl, rfl, rfl, rfl, rfl, rfl, rfl, rfl, rfl, rfl, rfl⟩

@[simp] theorem Hub.writeEffect_frame (k : Nat) (e : Entry) (x : Effect) :
    (Hub.writeEffect k e x h).time = h.time ∧ (Hub.writeEffect k e x h).scanner = h.scanner
    ∧ (Hub.writeEffect k e x h).lines = h.lines ∧ (Hub.writeEffect k e x h).sensors = h.sensors
    ∧ (Hub.writeEffect k e x h).queue = h.queue ∧ (Hub.writeEffect k e x h).odo = h.odo
    ∧ (Hub.writeEffect k e x h).route = h.route ∧ (Hub.writeEffect k e x h).limits = h.limits
    ∧ (Hub.writeEffect k e x h).trail = h.trail ∧ (Hub.writeEffect k e x h).dock = h.dock
    ∧ (Hub.writeEffect k e x h).beacon = h.beacon ∧ (Hub.writeEffect k e x h).load = h.load
    ∧ (Hub.writeEffect k e x h).store = h.store ∧ (Hub.writeEffect k e x h).flash = h.flash
    ∧ (Hub.writeEffect k e x h).plan = h.plan ∧ (Hub.writeEffect k e x h).power = h.power
    ∧ (Hub.writeEffect k e x h).inReset = h.inReset ∧ (Hub.writeEffect k e x h).freeDraws = h.freeDraws := by
  unfold Hub.writeEffect
  and_intros <;> (try dsimp only) <;> (repeat' split) <;> simp

@[simp] theorem Hub.writeCreate_frame (k : Nat) (e : Entry) :
    (Hub.writeCreate k e h).time = h.time ∧ (Hub.writeCreate k e h).scanner = h.scanner
    ∧ (Hub.writeCreate k e h).lines = h.lines ∧ (Hub.writeCreate k e h).sensors = h.sensors
    ∧ (Hub.writeCreate k e h).queue = h.queue ∧ (Hub.writeCreate k e h).updater = h.updater
    ∧ (Hub.writeCreate k e h).odo = h.odo ∧ (Hub.writeCreate k e h).route = h.route
    ∧ (Hub.writeCreate k e h).limits = h.limits ∧ (Hub.writeCreate k e h).trail = h.trail
    ∧ (Hub.writeCreate k e h).dock = h.dock ∧ (Hub.writeCreate k e h).beacon = h.beacon
    ∧ (Hub.writeCreate k e h).load = h.load ∧ (Hub.writeCreate k e h).store = h.store
    ∧ (Hub.writeCreate k e h).flash = h.flash ∧ (Hub.writeCreate k e h).plan = h.plan
    ∧ (Hub.writeCreate k e h).power = h.power ∧ (Hub.writeCreate k e h).inReset = h.inReset
    ∧ (Hub.writeCreate k e h).freeDraws = h.freeDraws := by
  unfold Hub.writeCreate
  and_intros <;> (try dsimp only) <;> (repeat' split) <;> simp

@[simp] theorem Hub.beginSearch_frame :
    (Hub.beginSearch h).time = h.time ∧ (Hub.beginSearch h).table = h.table
    ∧ (Hub.beginSearch h).scanner = h.scanner ∧ (Hub.beginSearch h).lines = h.lines
    ∧ (Hub.beginSearch h).sensors = h.sensors ∧ (Hub.beginSearch h).odo = h.odo
    ∧ (Hub.beginSearch h).permit = h.permit ∧ (Hub.beginSearch h).route = h.route
    ∧ (Hub.beginSearch h).limits = h.limits ∧ (Hub.beginSearch h).trail = h.trail
    ∧ (Hub.beginSearch h).dock = h.dock ∧ (Hub.beginSearch h).beacon = h.beacon
    ∧ (Hub.beginSearch h).load = h.load ∧ (Hub.beginSearch h).store = h.store
    ∧ (Hub.beginSearch h).flash = h.flash ∧ (Hub.beginSearch h).plan = h.plan
    ∧ (Hub.beginSearch h).power = h.power ∧ (Hub.beginSearch h).drive = h.drive
    ∧ (Hub.beginSearch h).inReset = h.inReset ∧ (Hub.beginSearch h).freeDraws = h.freeDraws := by
  unfold Hub.beginSearch
  and_intros <;> (try dsimp only) <;> (repeat' split) <;> simp

@[simp] theorem Hub.applyWrite_frame (i : Item) (fl : Floor) (t : Tile) :
    (Hub.applyWrite i fl t h).time = h.time ∧ (Hub.applyWrite i fl t h).scanner = h.scanner
    ∧ (Hub.applyWrite i fl t h).lines = h.lines ∧ (Hub.applyWrite i fl t h).sensors = h.sensors
    ∧ (Hub.applyWrite i fl t h).odo = h.odo ∧ (Hub.applyWrite i fl t h).route = h.route
    ∧ (Hub.applyWrite i fl t h).limits = h.limits ∧ (Hub.applyWrite i fl t h).trail = h.trail
    ∧ (Hub.applyWrite i fl t h).dock = h.dock ∧ (Hub.applyWrite i fl t h).beacon = h.beacon
    ∧ (Hub.applyWrite i fl t h).load = h.load ∧ (Hub.applyWrite i fl t h).store = h.store
    ∧ (Hub.applyWrite i fl t h).flash = h.flash ∧ (Hub.applyWrite i fl t h).plan = h.plan
    ∧ (Hub.applyWrite i fl t h).power = h.power ∧ (Hub.applyWrite i fl t h).inReset = h.inReset
    ∧ (Hub.applyWrite i fl t h).freeDraws = h.freeDraws := by
  unfold Hub.applyWrite
  and_intros <;> (try dsimp only) <;> (repeat' split) <;> simp

@[simp] theorem Hub.brushWrite_frame (i : Item) (fl : Floor) (k : Nat) (t : Tile) :
    (Hub.brushWrite i fl k t h).time = h.time ∧ (Hub.brushWrite i fl k t h).scanner = h.scanner
    ∧ (Hub.brushWrite i fl k t h).lines = h.lines ∧ (Hub.brushWrite i fl k t h).sensors = h.sensors
    ∧ (Hub.brushWrite i fl k t h).odo = h.odo ∧ (Hub.brushWrite i fl k t h).route = h.route
    ∧ (Hub.brushWrite i fl k t h).limits = h.limits ∧ (Hub.brushWrite i fl k t h).trail = h.trail
    ∧ (Hub.brushWrite i fl k t h).dock = h.dock ∧ (Hub.brushWrite i fl k t h).beacon = h.beacon
    ∧ (Hub.brushWrite i fl k t h).load = h.load ∧ (Hub.brushWrite i fl k t h).store = h.store
    ∧ (Hub.brushWrite i fl k t h).flash = h.flash ∧ (Hub.brushWrite i fl k t h).plan = h.plan
    ∧ (Hub.brushWrite i fl k t h).power = h.power ∧ (Hub.brushWrite i fl k t h).inReset = h.inReset
    ∧ (Hub.brushWrite i fl k t h).freeDraws = h.freeDraws := by
  unfold Hub.brushWrite
  and_intros <;> (try dsimp only) <;> (repeat' split) <;> simp

@[simp] theorem Hub.applyGrant_frame :
    (Hub.applyGrant h).time = h.time ∧ (Hub.applyGrant h).scanner = h.scanner
    ∧ (Hub.applyGrant h).lines = h.lines ∧ (Hub.applyGrant h).sensors = h.sensors
    ∧ (Hub.applyGrant h).odo = h.odo ∧ (Hub.applyGrant h).route = h.route ∧ (Hub.applyGrant h).limits = h.limits
    ∧ (Hub.applyGrant h).trail = h.trail ∧ (Hub.applyGrant h).dock = h.dock
    ∧ (Hub.applyGrant h).beacon = h.beacon ∧ (Hub.applyGrant h).load = h.load
    ∧ (Hub.applyGrant h).store = h.store ∧ (Hub.applyGrant h).flash = h.flash ∧ (Hub.applyGrant h).plan = h.plan
    ∧ (Hub.applyGrant h).power = h.power ∧ (Hub.applyGrant h).inReset = h.inReset
    ∧ (Hub.applyGrant h).freeDraws = h.freeDraws := by
  unfold Hub.applyGrant
  and_intros <;> (try dsimp only) <;> (repeat' split) <;> simp

@[simp] theorem Hub.plannedGrant_frame :
    (Hub.plannedGrant h).time = h.time ∧ (Hub.plannedGrant h).scanner = h.scanner
    ∧ (Hub.plannedGrant h).lines = h.lines ∧ (Hub.plannedGrant h).sensors = h.sensors
    ∧ (Hub.plannedGrant h).odo = h.odo ∧ (Hub.plannedGrant h).route = h.route
    ∧ (Hub.plannedGrant h).limits = h.limits ∧ (Hub.plannedGrant h).trail = h.trail
    ∧ (Hub.plannedGrant h).dock = h.dock ∧ (Hub.plannedGrant h).beacon = h.beacon
    ∧ (Hub.plannedGrant h).load = h.load ∧ (Hub.plannedGrant h).store = h.store
    ∧ (Hub.plannedGrant h).flash = h.flash ∧ (Hub.plannedGrant h).plan = h.plan
    ∧ (Hub.plannedGrant h).power = h.power ∧ (Hub.plannedGrant h).inReset = h.inReset
    ∧ (Hub.plannedGrant h).freeDraws = h.freeDraws := by
  unfold Hub.plannedGrant
  and_intros <;> (try dsimp only) <;> (repeat' split) <;> simp

@[simp] theorem Hub.searchGrant_frame :
    (Hub.searchGrant h).time = h.time ∧ (Hub.searchGrant h).scanner = h.scanner
    ∧ (Hub.searchGrant h).lines = h.lines ∧ (Hub.searchGrant h).sensors = h.sensors
    ∧ (Hub.searchGrant h).odo = h.odo ∧ (Hub.searchGrant h).route = h.route
    ∧ (Hub.searchGrant h).limits = h.limits ∧ (Hub.searchGrant h).trail = h.trail
    ∧ (Hub.searchGrant h).dock = h.dock ∧ (Hub.searchGrant h).beacon = h.beacon
    ∧ (Hub.searchGrant h).load = h.load ∧ (Hub.searchGrant h).store = h.store
    ∧ (Hub.searchGrant h).flash = h.flash ∧ (Hub.searchGrant h).plan = h.plan
    ∧ (Hub.searchGrant h).power = h.power ∧ (Hub.searchGrant h).inReset = h.inReset
    ∧ (Hub.searchGrant h).freeDraws = h.freeDraws := by
  unfold Hub.searchGrant
  and_intros <;> (try dsimp only) <;> (repeat' split) <;> simp

@[simp] theorem Hub.replaceVictim_frame (k : Nat) (e : Entry) :
    (Hub.replaceVictim k e h).time = h.time ∧ (Hub.replaceVictim k e h).scanner = h.scanner
    ∧ (Hub.replaceVictim k e h).lines = h.lines ∧ (Hub.replaceVictim k e h).sensors = h.sensors
    ∧ (Hub.replaceVictim k e h).queue = h.queue ∧ (Hub.replaceVictim k e h).updater = h.updater
    ∧ (Hub.replaceVictim k e h).odo = h.odo ∧ (Hub.replaceVictim k e h).route = h.route
    ∧ (Hub.replaceVictim k e h).limits = h.limits ∧ (Hub.replaceVictim k e h).trail = h.trail
    ∧ (Hub.replaceVictim k e h).dock = h.dock ∧ (Hub.replaceVictim k e h).beacon = h.beacon
    ∧ (Hub.replaceVictim k e h).load = h.load ∧ (Hub.replaceVictim k e h).store = h.store
    ∧ (Hub.replaceVictim k e h).flash = h.flash ∧ (Hub.replaceVictim k e h).plan = h.plan
    ∧ (Hub.replaceVictim k e h).power = h.power ∧ (Hub.replaceVictim k e h).inReset = h.inReset
    ∧ (Hub.replaceVictim k e h).freeDraws = h.freeDraws := by
  unfold Hub.replaceVictim
  and_intros <;> (try dsimp only) <;> (repeat' split) <;> simp

@[simp] theorem Hub.evictGrant_frame :
    (Hub.evictGrant h).time = h.time ∧ (Hub.evictGrant h).scanner = h.scanner
    ∧ (Hub.evictGrant h).lines = h.lines ∧ (Hub.evictGrant h).sensors = h.sensors
    ∧ (Hub.evictGrant h).odo = h.odo ∧ (Hub.evictGrant h).route = h.route ∧ (Hub.evictGrant h).limits = h.limits
    ∧ (Hub.evictGrant h).trail = h.trail ∧ (Hub.evictGrant h).dock = h.dock
    ∧ (Hub.evictGrant h).beacon = h.beacon ∧ (Hub.evictGrant h).load = h.load
    ∧ (Hub.evictGrant h).store = h.store ∧ (Hub.evictGrant h).flash = h.flash ∧ (Hub.evictGrant h).plan = h.plan
    ∧ (Hub.evictGrant h).power = h.power ∧ (Hub.evictGrant h).inReset = h.inReset
    ∧ (Hub.evictGrant h).freeDraws = h.freeDraws := by
  unfold Hub.evictGrant
  and_intros <;> (try dsimp only) <;> (repeat' split) <;> simp

/-! ## The cause set -/

@[simp] theorem Hub.setCauses_load (l : LoadSup) : (h.setCauses l).load = l := by
  unfold Hub.setCauses
  split <;> simp

@[simp] theorem Hub.reportRug_load (b : Bool) : (h.reportRug b).load = { h.load with rug := b } := by
  simp [Hub.reportRug]

@[simp] theorem Hub.setCauses_scanner (l : LoadSup) :
    (h.setCauses l).scanner.block = h.scanner.block ∧ (h.setCauses l).scanner.averaged = h.scanner.averaged
    ∧ (h.setCauses l).scanner.timer = h.scanner.timer ∧ (h.setCauses l).scanner.lastClear = h.scanner.lastClear := by
  unfold Hub.setCauses
  split <;> simp

@[simp] theorem Hub.reportRug_scanner (b : Bool) :
    (h.reportRug b).scanner.block = h.scanner.block ∧ (h.reportRug b).scanner.averaged = h.scanner.averaged
    ∧ (h.reportRug b).scanner.timer = h.scanner.timer ∧ (h.reportRug b).scanner.lastClear = h.scanner.lastClear := by
  simp [Hub.reportRug]

end Sys2Proof.Machine
end

