-- ==== Sys2Proof/Laws/Return.lean ====
section
/-! SUPPORT. What the operations of the Trail Unit, the Dock Tracker and the Route Queue leave as it was. -/

namespace Sys2Proof.Machine

set_option linter.unnecessarySeqFocus false
set_option linter.unusedTactic false
set_option linter.unreachableTactic false

variable (h : Hub)

@[simp] theorem Hub.pushCrumb_frame :
    (Hub.pushCrumb h).time = h.time ∧ (Hub.pushCrumb h).table = h.table ∧ (Hub.pushCrumb h).scanner = h.scanner
    ∧ (Hub.pushCrumb h).lines = h.lines ∧ (Hub.pushCrumb h).sensors = h.sensors
    ∧ (Hub.pushCrumb h).queue = h.queue ∧ (Hub.pushCrumb h).updater = h.updater ∧ (Hub.pushCrumb h).odo = h.odo
    ∧ (Hub.pushCrumb h).permit = h.permit ∧ (Hub.pushCrumb h).route = h.route
    ∧ (Hub.pushCrumb h).limits = h.limits ∧ (Hub.pushCrumb h).dock = h.dock
    ∧ (Hub.pushCrumb h).beacon = h.beacon ∧ (Hub.pushCrumb h).load = h.load ∧ (Hub.pushCrumb h).store = h.store
    ∧ (Hub.pushCrumb h).flash = h.flash ∧ (Hub.pushCrumb h).plan = h.plan ∧ (Hub.pushCrumb h).power = h.power
    ∧ (Hub.pushCrumb h).drive = h.drive ∧ (Hub.pushCrumb h).att = h.att ∧ (Hub.pushCrumb h).inReset = h.inReset
    ∧ (Hub.pushCrumb h).freeDraws = h.freeDraws :=
  ⟨rfl, rfl, rfl, rfl, rfl, rfl, rfl, rfl, rfl, rfl, rfl, rfl, rfl, rfl, rfl, rfl, rfl, rfl, rfl, rfl, rfl, rfl⟩

@[simp] theorem Hub.pushTest_frame :
    (Hub.pushTest h).time = h.time ∧ (Hub.pushTest h).table = h.table ∧ (Hub.pushTest h).scanner = h.scanner
    ∧ (Hub.pushTest h).lines = h.lines ∧ (Hub.pushTest h).sensors = h.sensors ∧ (Hub.pushTest h).queue = h.queue
    ∧ (Hub.pushTest h).updater = h.updater ∧ (Hub.pushTest h).odo = h.odo ∧ (Hub.pushTest h).permit = h.permit
    ∧ (Hub.pushTest h).route = h.route ∧ (Hub.pushTest h).limits = h.limits ∧ (Hub.pushTest h).dock = h.dock
    ∧ (Hub.pushTest h).beacon = h.beacon ∧ (Hub.pushTest h).load = h.load ∧ (Hub.pushTest h).store = h.store
    ∧ (Hub.pushTest h).flash = h.flash ∧ (Hub.pushTest h).plan = h.plan ∧ (Hub.pushTest h).power = h.power
    ∧ (Hub.pushTest h).drive = h.drive ∧ (Hub.pushTest h).att = h.att ∧ (Hub.pushTest h).inReset = h.inReset
    ∧ (Hub.pushTest h).freeDraws = h.freeDraws := by
  unfold Hub.pushTest
  and_intros <;> (try dsimp only) <;> (repeat' split) <;> simp

@[simp] theorem Hub.trailUpdate_frame :
    (Hub.trailUpdate h).time = h.time ∧ (Hub.trailUpdate h).table = h.table
    ∧ (Hub.trailUpdate h).scanner = h.scanner ∧ (Hub.trailUpdate h).lines = h.lines
    ∧ (Hub.trailUpdate h).sensors = h.sensors ∧ (Hub.trailUpdate h).queue = h.queue
    ∧ (Hub.trailUpdate h).updater = h.updater ∧ (Hub.trailUpdate h).odo = h.odo
    ∧ (Hub.trailUpdate h).permit = h.permit ∧ (Hub.trailUpdate h).route = h.route
    ∧ (Hub.trailUpdate h).limits = h.limits ∧ (Hub.trailUpdate h).dock = h.dock
    ∧ (Hub.trailUpdate h).beacon = h.beacon ∧ (Hub.trailUpdate h).load = h.load
    ∧ (Hub.trailUpdate h).store = h.store ∧ (Hub.trailUpdate h).flash = h.flash
    ∧ (Hub.trailUpdate h).plan = h.plan ∧ (Hub.trailUpdate h).power = h.power
    ∧ (Hub.trailUpdate h).drive = h.drive ∧ (Hub.trailUpdate h).att = h.att
    ∧ (Hub.trailUpdate h).inReset = h.inReset ∧ (Hub.trailUpdate h).freeDraws = h.freeDraws := by
  unfold Hub.trailUpdate
  and_intros <;> (try dsimp only) <;> (repeat' split) <;> simp

@[simp] theorem Hub.emptyTrail_frame :
    (Hub.emptyTrail h).time = h.time ∧ (Hub.emptyTrail h).table = h.table
    ∧ (Hub.emptyTrail h).scanner = h.scanner ∧ (Hub.emptyTrail h).lines = h.lines
    ∧ (Hub.emptyTrail h).sensors = h.sensors ∧ (Hub.emptyTrail h).queue = h.queue
    ∧ (Hub.emptyTrail h).updater = h.updater ∧ (Hub.emptyTrail h).odo = h.odo
    ∧ (Hub.emptyTrail h).permit = h.permit ∧ (Hub.emptyTrail h).route = h.route
    ∧ (Hub.emptyTrail h).limits = h.limits ∧ (Hub.emptyTrail h).dock = h.dock
    ∧ (Hub.emptyTrail h).beacon = h.beacon ∧ (Hub.emptyTrail h).load = h.load
    ∧ (Hub.emptyTrail h).store = h.store ∧ (Hub.emptyTrail h).flash = h.flash ∧ (Hub.emptyTrail h).plan = h.plan
    ∧ (Hub.emptyTrail h).power = h.power ∧ (Hub.emptyTrail h).drive = h.drive ∧ (Hub.emptyTrail h).att = h.att
    ∧ (Hub.emptyTrail h).inReset = h.inReset ∧ (Hub.emptyTrail h).freeDraws = h.freeDraws :=
  ⟨rfl, rfl, rfl, rfl, rfl, rfl, rfl, rfl, rfl, rfl, rfl, rfl, rfl, rfl, rfl, rfl, rfl, rfl, rfl, rfl, rfl, rfl⟩

@[simp] theorem Hub.dockingTimer_frame :
    (Hub.dockingTimer h).time = h.time ∧ (Hub.dockingTimer h).table = h.table
    ∧ (Hub.dockingTimer h).scanner = h.scanner ∧ (Hub.dockingTimer h).lines = h.lines
    ∧ (Hub.dockingTimer h).sensors = h.sensors ∧ (Hub.dockingTimer h).queue = h.queue
    ∧ (Hub.dockingTimer h).updater = h.updater ∧ (Hub.dockingTimer h).odo = h.odo
    ∧ (Hub.dockingTimer h).permit = h.permit ∧ (Hub.dockingTimer h).route = h.route
    ∧ (Hub.dockingTimer h).limits = h.limits ∧ (Hub.dockingTimer h).trail = h.trail
    ∧ (Hub.dockingTimer h).beacon = h.beacon ∧ (Hub.dockingTimer h).load = h.load
    ∧ (Hub.dockingTimer h).store = h.store ∧ (Hub.dockingTimer h).flash = h.flash
    ∧ (Hub.dockingTimer h).plan = h.plan ∧ (Hub.dockingTimer h).power = h.power
    ∧ (Hub.dockingTimer h).drive = h.drive ∧ (Hub.dockingTimer h).att = h.att
    ∧ (Hub.dockingTimer h).inReset = h.inReset ∧ (Hub.dockingTimer h).freeDraws = h.freeDraws :=
  ⟨rfl, rfl, rfl, rfl, rfl, rfl, rfl, rfl, rfl, rfl, rfl, rfl, rfl, rfl, rfl, rfl, rfl, rfl, rfl, rfl, rfl, rfl⟩

@[simp] theorem Hub.setReturn_frame (st : ReturnState) :
    (Hub.setReturn st h).time = h.time ∧ (Hub.setReturn st h).table = h.table
    ∧ (Hub.setReturn st h).scanner = h.scanner ∧ (Hub.setReturn st h).lines = h.lines
    ∧ (Hub.setReturn st h).sensors = h.sensors ∧ (Hub.setReturn st h).queue = h.queue
    ∧ (Hub.setReturn st h).updater = h.updater ∧ (Hub.setReturn st h).odo = h.odo
    ∧ (Hub.setReturn st h).permit = h.permit ∧ (Hub.setReturn st h).route = h.route
    ∧ (Hub.setReturn st h).limits = h.limits ∧ (Hub.setReturn st h).trail = h.trail
    ∧ (Hub.setReturn st h).beacon = h.beacon ∧ (Hub.setReturn st h).load = h.load
    ∧ (Hub.setReturn st h).store = h.store ∧ (Hub.setReturn st h).flash = h.flash
    ∧ (Hub.setReturn st h).plan = h.plan ∧ (Hub.setReturn st h).power = h.power
    ∧ (Hub.setReturn st h).drive = h.drive ∧ (Hub.setReturn st h).inReset = h.inReset
    ∧ (Hub.setReturn st h).freeDraws = h.freeDraws := by
  unfold Hub.setReturn
  and_intros <;> (try dsimp only) <;> (repeat' split) <;> simp

@[simp] theorem Hub.approachTests_frame :
    (Hub.approachTests h).time = h.time ∧ (Hub.approachTests h).table = h.table
    ∧ (Hub.approachTests h).scanner = h.scanner ∧ (Hub.approachTests h).lines = h.lines
    ∧ (Hub.approachTests h).sensors = h.sensors ∧ (Hub.approachTests h).queue = h.queue
    ∧ (Hub.approachTests h).updater = h.updater ∧ (Hub.approachTests h).odo = h.odo
    ∧ (Hub.approachTests h).permit = h.permit ∧ (Hub.approachTests h).route = h.route
    ∧ (Hub.approachTests h).limits = h.limits ∧ (Hub.approachTests h).trail = h.trail
    ∧ (Hub.approachTests h).beacon = h.beacon ∧ (Hub.approachTests h).load = h.load
    ∧ (Hub.approachTests h).store = h.store ∧ (Hub.approachTests h).flash = h.flash
    ∧ (Hub.approachTests h).plan = h.plan ∧ (Hub.approachTests h).power = h.power
    ∧ (Hub.approachTests h).drive = h.drive ∧ (Hub.approachTests h).inReset = h.inReset
    ∧ (Hub.approachTests h).freeDraws = h.freeDraws := by
  unfold Hub.approachTests
  and_intros <;> (try dsimp only) <;> (repeat' split) <;> simp

@[simp] theorem Hub.trailDone_frame :
    (Hub.trailDone h).time = h.time ∧ (Hub.trailDone h).table = h.table ∧ (Hub.trailDone h).scanner = h.scanner
    ∧ (Hub.trailDone h).lines = h.lines ∧ (Hub.trailDone h).sensors = h.sensors
    ∧ (Hub.trailDone h).queue = h.queue ∧ (Hub.trailDone h).updater = h.updater ∧ (Hub.trailDone h).odo = h.odo
    ∧ (Hub.trailDone h).permit = h.permit ∧ (Hub.trailDone h).route = h.route
    ∧ (Hub.trailDone h).limits = h.limits ∧ (Hub.trailDone h).trail = h.trail
    ∧ (Hub.trailDone h).beacon = h.beacon ∧ (Hub.trailDone h).load = h.load ∧ (Hub.trailDone h).store = h.store
    ∧ (Hub.trailDone h).flash = h.flash ∧ (Hub.trailDone h).plan = h.plan ∧ (Hub.trailDone h).power = h.power
    ∧ (Hub.trailDone h).drive = h.drive ∧ (Hub.trailDone h).inReset = h.inReset
    ∧ (Hub.trailDone h).freeDraws = h.freeDraws := by
  unfold Hub.trailDone
  and_intros <;> (try dsimp only) <;> (repeat' split) <;> simp

@[simp] theorem Hub.dockUpdate_frame :
    (Hub.dockUpdate h).time = h.time ∧ (Hub.dockUpdate h).table = h.table
    ∧ (Hub.dockUpdate h).scanner = h.scanner ∧ (Hub.dockUpdate h).lines = h.lines
    ∧ (Hub.dockUpdate h).sensors = h.sensors ∧ (Hub.dockUpdate h).queue = h.queue
    ∧ (Hub.dockUpdate h).updater = h.updater ∧ (Hub.dockUpdate h).odo = h.odo
    ∧ (Hub.dockUpdate h).permit = h.permit ∧ (Hub.dockUpdate h).route = h.route
    ∧ (Hub.dockUpdate h).limits = h.limits ∧ (Hub.dockUpdate h).beacon = h.beacon
    ∧ (Hub.dockUpdate h).load = h.load ∧ (Hub.dockUpdate h).store = h.store ∧ (Hub.dockUpdate h).flash = h.flash
    ∧ (Hub.dockUpdate h).plan = h.plan ∧ (Hub.dockUpdate h).power = h.power ∧ (Hub.dockUpdate h).drive = h.drive
    ∧ (Hub.dockUpdate h).inReset = h.inReset ∧ (Hub.dockUpdate h).freeDraws = h.freeDraws := by
  unfold Hub.dockUpdate
  and_intros <;> (try dsimp only) <;> (repeat' split) <;> simp

@[simp] theorem Hub.dockFloorChange_frame :
    (Hub.dockFloorChange h).time = h.time ∧ (Hub.dockFloorChange h).table = h.table
    ∧ (Hub.dockFloorChange h).scanner = h.scanner ∧ (Hub.dockFloorChange h).lines = h.lines
    ∧ (Hub.dockFloorChange h).sensors = h.sensors ∧ (Hub.dockFloorChange h).queue = h.queue
    ∧ (Hub.dockFloorChange h).updater = h.updater ∧ (Hub.dockFloorChange h).odo = h.odo
    ∧ (Hub.dockFloorChange h).permit = h.permit ∧ (Hub.dockFloorChange h).route = h.route
    ∧ (Hub.dockFloorChange h).limits = h.limits ∧ (Hub.dockFloorChange h).trail = h.trail
    ∧ (Hub.dockFloorChange h).beacon = h.beacon ∧ (Hub.dockFloorChange h).load = h.load
    ∧ (Hub.dockFloorChange h).store = h.store ∧ (Hub.dockFloorChange h).flash = h.flash
    ∧ (Hub.dockFloorChange h).plan = h.plan ∧ (Hub.dockFloorChange h).power = h.power
    ∧ (Hub.dockFloorChange h).drive = h.drive ∧ (Hub.dockFloorChange h).inReset = h.inReset
    ∧ (Hub.dockFloorChange h).freeDraws = h.freeDraws := by
  unfold Hub.dockFloorChange
  and_intros <;> (try dsimp only) <;> (repeat' split) <;> simp

@[simp] theorem Hub.writeDock_frame (d : DockRecord) :
    (Hub.writeDock d h).time = h.time ∧ (Hub.writeDock d h).table = h.table
    ∧ (Hub.writeDock d h).scanner = h.scanner ∧ (Hub.writeDock d h).lines = h.lines
    ∧ (Hub.writeDock d h).sensors = h.sensors ∧ (Hub.writeDock d h).queue = h.queue
    ∧ (Hub.writeDock d h).updater = h.updater ∧ (Hub.writeDock d h).odo = h.odo
    ∧ (Hub.writeDock d h).permit = h.permit ∧ (Hub.writeDock d h).route = h.route
    ∧ (Hub.writeDock d h).limits = h.limits ∧ (Hub.writeDock d h).trail = h.trail
    ∧ (Hub.writeDock d h).beacon = h.beacon ∧ (Hub.writeDock d h).load = h.load
    ∧ (Hub.writeDock d h).store = h.store ∧ (Hub.writeDock d h).flash = h.flash
    ∧ (Hub.writeDock d h).plan = h.plan ∧ (Hub.writeDock d h).power = h.power
    ∧ (Hub.writeDock d h).drive = h.drive ∧ (Hub.writeDock d h).inReset = h.inReset
    ∧ (Hub.writeDock d h).freeDraws = h.freeDraws := by
  unfold Hub.writeDock
  simp

@[simp] theorem Hub.flushRoute_frame :
    (Hub.flushRoute h).time = h.time ∧ (Hub.flushRoute h).table = h.table
    ∧ (Hub.flushRoute h).scanner = h.scanner ∧ (Hub.flushRoute h).lines = h.lines
    ∧ (Hub.flushRoute h).sensors = h.sensors ∧ (Hub.flushRoute h).queue = h.queue
    ∧ (Hub.flushRoute h).updater = h.updater ∧ (Hub.flushRoute h).odo = h.odo
    ∧ (Hub.flushRoute h).permit = h.permit ∧ (Hub.flushRoute h).limits = h.limits
    ∧ (Hub.flushRoute h).trail = h.trail ∧ (Hub.flushRoute h).dock = h.dock
    ∧ (Hub.flushRoute h).beacon = h.beacon ∧ (Hub.flushRoute h).load = h.load
    ∧ (Hub.flushRoute h).store = h.store ∧ (Hub.flushRoute h).flash = h.flash ∧ (Hub.flushRoute h).plan = h.plan
    ∧ (Hub.flushRoute h).power = h.power ∧ (Hub.flushRoute h).drive = h.drive
    ∧ (Hub.flushRoute h).inReset = h.inReset ∧ (Hub.flushRoute h).freeDraws = h.freeDraws :=
  ⟨rfl, rfl, rfl, rfl, rfl, rfl, rfl, rfl, rfl, rfl, rfl, rfl, rfl, rfl, rfl, rfl, rfl, rfl, rfl, rfl, rfl⟩

@[simp] theorem Hub.returnStart_frame :
    (Hub.returnStart h).time = h.time ∧ (Hub.returnStart h).table = h.table
    ∧ (Hub.returnStart h).scanner = h.scanner ∧ (Hub.returnStart h).lines = h.lines
    ∧ (Hub.returnStart h).sensors = h.sensors ∧ (Hub.returnStart h).queue = h.queue
    ∧ (Hub.returnStart h).updater = h.updater ∧ (Hub.returnStart h).odo = h.odo
    ∧ (Hub.returnStart h).permit = h.permit ∧ (Hub.returnStart h).limits = h.limits
    ∧ (Hub.returnStart h).trail = h.trail ∧ (Hub.returnStart h).beacon = h.beacon
    ∧ (Hub.returnStart h).load = h.load ∧ (Hub.returnStart h).store = h.store
    ∧ (Hub.returnStart h).flash = h.flash ∧ (Hub.returnStart h).plan = h.plan
    ∧ (Hub.returnStart h).power = h.power ∧ (Hub.returnStart h).drive = h.drive
    ∧ (Hub.returnStart h).inReset = h.inReset ∧ (Hub.returnStart h).freeDraws = h.freeDraws := by
  unfold Hub.returnStart
  and_intros <;> (try dsimp only) <;> (repeat' split) <;> simp

@[simp] theorem Hub.sightingTaken_frame :
    (Hub.sightingTaken h).time = h.time ∧ (Hub.sightingTaken h).table = h.table
    ∧ (Hub.sightingTaken h).scanner = h.scanner ∧ (Hub.sightingTaken h).lines = h.lines
    ∧ (Hub.sightingTaken h).sensors = h.sensors ∧ (Hub.sightingTaken h).queue = h.queue
    ∧ (Hub.sightingTaken h).updater = h.updater ∧ (Hub.sightingTaken h).odo = h.odo
    ∧ (Hub.sightingTaken h).permit = h.permit ∧ (Hub.sightingTaken h).route = h.route
    ∧ (Hub.sightingTaken h).limits = h.limits ∧ (Hub.sightingTaken h).trail = h.trail
    ∧ (Hub.sightingTaken h).beacon = h.beacon ∧ (Hub.sightingTaken h).load = h.load
    ∧ (Hub.sightingTaken h).store = h.store ∧ (Hub.sightingTaken h).flash = h.flash
    ∧ (Hub.sightingTaken h).plan = h.plan ∧ (Hub.sightingTaken h).power = h.power
    ∧ (Hub.sightingTaken h).drive = h.drive ∧ (Hub.sightingTaken h).inReset = h.inReset
    ∧ (Hub.sightingTaken h).freeDraws = h.freeDraws := by
  unfold Hub.sightingTaken
  and_intros <;> (try dsimp only) <;> (repeat' split) <;> simp

@[simp] theorem Hub.freshnessEnded_frame :
    (Hub.freshnessEnded h).time = h.time ∧ (Hub.freshnessEnded h).table = h.table
    ∧ (Hub.freshnessEnded h).scanner = h.scanner ∧ (Hub.freshnessEnded h).lines = h.lines
    ∧ (Hub.freshnessEnded h).sensors = h.sensors ∧ (Hub.freshnessEnded h).queue = h.queue
    ∧ (Hub.freshnessEnded h).updater = h.updater ∧ (Hub.freshnessEnded h).odo = h.odo
    ∧ (Hub.freshnessEnded h).permit = h.permit ∧ (Hub.freshnessEnded h).route = h.route
    ∧ (Hub.freshnessEnded h).limits = h.limits ∧ (Hub.freshnessEnded h).trail = h.trail
    ∧ (Hub.freshnessEnded h).beacon = h.beacon ∧ (Hub.freshnessEnded h).load = h.load
    ∧ (Hub.freshnessEnded h).store = h.store ∧ (Hub.freshnessEnded h).flash = h.flash
    ∧ (Hub.freshnessEnded h).plan = h.plan ∧ (Hub.freshnessEnded h).power = h.power
    ∧ (Hub.freshnessEnded h).drive = h.drive ∧ (Hub.freshnessEnded h).att = h.att
    ∧ (Hub.freshnessEnded h).inReset = h.inReset ∧ (Hub.freshnessEnded h).freeDraws = h.freeDraws := by
  unfold Hub.freshnessEnded
  and_intros <;> (try dsimp only) <;> (repeat' split) <;> simp

@[simp] theorem Hub.dockingExpired_frame :
    (Hub.dockingExpired h).time = h.time ∧ (Hub.dockingExpired h).table = h.table
    ∧ (Hub.dockingExpired h).scanner = h.scanner ∧ (Hub.dockingExpired h).lines = h.lines
    ∧ (Hub.dockingExpired h).sensors = h.sensors ∧ (Hub.dockingExpired h).queue = h.queue
    ∧ (Hub.dockingExpired h).updater = h.updater ∧ (Hub.dockingExpired h).odo = h.odo
    ∧ (Hub.dockingExpired h).permit = h.permit ∧ (Hub.dockingExpired h).route = h.route
    ∧ (Hub.dockingExpired h).limits = h.limits ∧ (Hub.dockingExpired h).trail = h.trail
    ∧ (Hub.dockingExpired h).beacon = h.beacon ∧ (Hub.dockingExpired h).load = h.load
    ∧ (Hub.dockingExpired h).store = h.store ∧ (Hub.dockingExpired h).flash = h.flash
    ∧ (Hub.dockingExpired h).plan = h.plan ∧ (Hub.dockingExpired h).power = h.power
    ∧ (Hub.dockingExpired h).drive = h.drive ∧ (Hub.dockingExpired h).inReset = h.inReset
    ∧ (Hub.dockingExpired h).freeDraws = h.freeDraws := by
  unfold Hub.dockingExpired
  and_intros <;> (try dsimp only) <;> (repeat' split) <;> simp

@[simp] theorem Hub.advanceRoute_frame (l : List Waypoint) :
    (Hub.advanceRoute l h).time = h.time ∧ (Hub.advanceRoute l h).table = h.table
    ∧ (Hub.advanceRoute l h).scanner = h.scanner ∧ (Hub.advanceRoute l h).lines = h.lines
    ∧ (Hub.advanceRoute l h).sensors = h.sensors ∧ (Hub.advanceRoute l h).queue = h.queue
    ∧ (Hub.advanceRoute l h).updater = h.updater ∧ (Hub.advanceRoute l h).odo = h.odo
    ∧ (Hub.advanceRoute l h).permit = h.permit ∧ (Hub.advanceRoute l h).limits = h.limits
    ∧ (Hub.advanceRoute l h).trail = h.trail ∧ (Hub.advanceRoute l h).dock = h.dock
    ∧ (Hub.advanceRoute l h).beacon = h.beacon ∧ (Hub.advanceRoute l h).load = h.load
    ∧ (Hub.advanceRoute l h).store = h.store ∧ (Hub.advanceRoute l h).flash = h.flash
    ∧ (Hub.advanceRoute l h).plan = h.plan ∧ (Hub.advanceRoute l h).power = h.power
    ∧ (Hub.advanceRoute l h).drive = h.drive ∧ (Hub.advanceRoute l h).inReset = h.inReset
    ∧ (Hub.advanceRoute l h).freeDraws = h.freeDraws :=
  ⟨rfl, rfl, rfl, rfl, rfl, rfl, rfl, rfl, rfl, rfl, rfl, rfl, rfl, rfl, rfl, rfl, rfl, rfl, rfl, rfl, rfl⟩

@[simp] theorem Hub.noteRouteEmpty_frame (l : List Waypoint) :
    (Hub.noteRouteEmpty l h).time = h.time ∧ (Hub.noteRouteEmpty l h).table = h.table
    ∧ (Hub.noteRouteEmpty l h).scanner = h.scanner ∧ (Hub.noteRouteEmpty l h).lines = h.lines
    ∧ (Hub.noteRouteEmpty l h).sensors = h.sensors ∧ (Hub.noteRouteEmpty l h).queue = h.queue
    ∧ (Hub.noteRouteEmpty l h).updater = h.updater ∧ (Hub.noteRouteEmpty l h).odo = h.odo
    ∧ (Hub.noteRouteEmpty l h).permit = h.permit ∧ (Hub.noteRouteEmpty l h).route = h.route
    ∧ (Hub.noteRouteEmpty l h).limits = h.limits ∧ (Hub.noteRouteEmpty l h).trail = h.trail
    ∧ (Hub.noteRouteEmpty l h).dock = h.dock ∧ (Hub.noteRouteEmpty l h).beacon = h.beacon
    ∧ (Hub.noteRouteEmpty l h).load = h.load ∧ (Hub.noteRouteEmpty l h).store = h.store
    ∧ (Hub.noteRouteEmpty l h).flash = h.flash ∧ (Hub.noteRouteEmpty l h).plan = h.plan
    ∧ (Hub.noteRouteEmpty l h).power = h.power ∧ (Hub.noteRouteEmpty l h).drive = h.drive
    ∧ (Hub.noteRouteEmpty l h).inReset = h.inReset ∧ (Hub.noteRouteEmpty l h).freeDraws = h.freeDraws := by
  unfold Hub.noteRouteEmpty
  and_intros <;> (try dsimp only) <;> (repeat' split) <;> simp

@[simp] theorem Hub.arrive_frame (l : List Waypoint) :
    (Hub.arrive l h).time = h.time ∧ (Hub.arrive l h).table = h.table ∧ (Hub.arrive l h).scanner = h.scanner
    ∧ (Hub.arrive l h).lines = h.lines ∧ (Hub.arrive l h).sensors = h.sensors ∧ (Hub.arrive l h).queue = h.queue
    ∧ (Hub.arrive l h).updater = h.updater ∧ (Hub.arrive l h).odo = h.odo ∧ (Hub.arrive l h).limits = h.limits
    ∧ (Hub.arrive l h).trail = h.trail ∧ (Hub.arrive l h).dock = h.dock ∧ (Hub.arrive l h).beacon = h.beacon
    ∧ (Hub.arrive l h).load = h.load ∧ (Hub.arrive l h).store = h.store ∧ (Hub.arrive l h).flash = h.flash
    ∧ (Hub.arrive l h).plan = h.plan ∧ (Hub.arrive l h).power = h.power ∧ (Hub.arrive l h).inReset = h.inReset
    ∧ (Hub.arrive l h).freeDraws = h.freeDraws := by
  induction l generalizing h with
  | nil => simp [Hub.arrive]
  | cons w l ih =>
    unfold Hub.arrive
    and_intros <;> (try dsimp only) <;> (repeat' split) <;> simp [ih]

/-! ## The return state -/

theorem Hub.setReturn_same : h.setReturn h.dock.state = h := by simp [Hub.setReturn]

/-- The Dock Tracker after a change of the return state (R143, R147). -/
theorem Hub.setReturn_dock (st : ReturnState) (e : st ≠ h.dock.state) :
    (h.setReturn st).dock =
      { h.dock with
        state := st, timer := if st = .docking ∧ h.freshSighting = false then some ⟨h.time.ms, 10000⟩ else none } := by
  unfold Hub.setReturn
  rw [if_neg e]
  split
  · rename_i hd
    have hf : ∀ g : Hub, g.beacon = h.beacon → g.freshSighting = h.freshSighting := by
      intro g hb
      simp [Hub.freshSighting, hb]
    rw [Hub.dockingTimer, hf _ (by simp)]
    cases h.freshSighting <;> simp [Hub.timer, hd]
  · simp_all

@[simp] theorem Hub.setReturn_state (st : ReturnState) : (h.setReturn st).dock.state = st := by
  by_cases e : st = h.dock.state
  · subst e
    rw [Hub.setReturn_same]
  · rw [Hub.setReturn_dock h st e]

@[simp] theorem Hub.setReturn_dock_kept (st : ReturnState) :
    (h.setReturn st).dock.record = h.dock.record ∧ (h.setReturn st).dock.fallbacks = h.dock.fallbacks := by
  by_cases e : st = h.dock.state
  · subst e
    rw [Hub.setReturn_same]
    simp
  · rw [Hub.setReturn_dock h st e]
    simp

/-- A change of the return state is flagged on both ports (R143). -/
theorem Hub.setReturn_flags (st : ReturnState) (e : st ≠ h.dock.state) :
    (h.setReturn st).planHas .returnChanged = true ∧ (h.setReturn st).powerHas .returnChanged = true := by
  have keep : ∀ g : Hub, g.dockingTimer.planHas = g.planHas ∧ g.dockingTimer.powerHas = g.powerHas := fun _ => ⟨rfl, rfl⟩
  unfold Hub.setReturn
  rw [if_neg e]
  dsimp only
  split <;> simp [keep]

/-- Whether the tests of APPROACH make it DOCKING (R146). -/
def Hub.approachEnds (h : Hub) : Prop :=
  h.dockUsable = false ∨ (h.tracking = true ∧ h.within h.dock.record.approach 150 = true) ∨ h.freshOf .centre = true

theorem Hub.approachTests_ends (hs : h.dock.state = .approach) (e : h.approachEnds) :
    h.approachTests = h.setReturn .docking := by
  unfold Hub.approachTests
  rw [if_pos ⟨hs, e⟩]

theorem Hub.approachTests_stays (e : h.dock.state ≠ .approach ∨ ¬ h.approachEnds) : h.approachTests = h := by
  unfold Hub.approachTests
  rw [if_neg]
  rintro ⟨a, b⟩
  exact e.elim (· a) (· b)

@[simp] theorem Hub.approachTests_dock_kept :
    h.approachTests.dock.record = h.dock.record ∧ h.approachTests.dock.fallbacks = h.dock.fallbacks := by
  unfold Hub.approachTests
  split <;> simp

/-- The tests of APPROACH leave it or make it DOCKING. -/
theorem Hub.approachTests_state :
    h.approachTests.dock.state = h.dock.state
    ∨ (h.dock.state = .approach ∧ h.approachTests.dock.state = .docking) := by
  unfold Hub.approachTests
  split
  · rename_i e
    exact Or.inr ⟨e.1, by simp⟩
  · exact Or.inl rfl

/-- The tests of APPROACH keep a flag that is set. -/
theorem Hub.approachTests_flags (hp : h.planHas .returnChanged = true) (hq : h.powerHas .returnChanged = true) :
    h.approachTests.planHas .returnChanged = true ∧ h.approachTests.powerHas .returnChanged = true := by
  unfold Hub.approachTests
  split
  · rename_i e
    exact Hub.setReturn_flags h _ (by simp [e.1])
  · exact ⟨hp, hq⟩

end Sys2Proof.Machine
end

