-- ==== Sys2Proof/Laws/Travel.lean ====
section
/-! SUPPORT. What the operations of the Odometry Unit leave as it was. -/

namespace Sys2Proof.Machine

set_option linter.unnecessarySeqFocus false
set_option linter.unusedTactic false
set_option linter.unreachableTactic false

variable (h : Hub)

@[simp] theorem Hub.cancelPassOver_frame :
    (Hub.cancelPassOver h).time = h.time ∧ (Hub.cancelPassOver h).table = h.table
    ∧ (Hub.cancelPassOver h).scanner = h.scanner ∧ (Hub.cancelPassOver h).lines = h.lines
    ∧ (Hub.cancelPassOver h).sensors = h.sensors ∧ (Hub.cancelPassOver h).queue = h.queue
    ∧ (Hub.cancelPassOver h).updater = h.updater ∧ (Hub.cancelPassOver h).permit = h.permit
    ∧ (Hub.cancelPassOver h).route = h.route ∧ (Hub.cancelPassOver h).limits = h.limits
    ∧ (Hub.cancelPassOver h).trail = h.trail ∧ (Hub.cancelPassOver h).dock = h.dock
    ∧ (Hub.cancelPassOver h).beacon = h.beacon ∧ (Hub.cancelPassOver h).load = h.load
    ∧ (Hub.cancelPassOver h).store = h.store ∧ (Hub.cancelPassOver h).flash = h.flash
    ∧ (Hub.cancelPassOver h).plan = h.plan ∧ (Hub.cancelPassOver h).power = h.power
    ∧ (Hub.cancelPassOver h).drive = h.drive ∧ (Hub.cancelPassOver h).att = h.att
    ∧ (Hub.cancelPassOver h).inReset = h.inReset ∧ (Hub.cancelPassOver h).freeDraws = h.freeDraws :=
  ⟨rfl, rfl, rfl, rfl, rfl, rfl, rfl, rfl, rfl, rfl, rfl, rfl, rfl, rfl, rfl, rfl, rfl, rfl, rfl, rfl, rfl, rfl⟩

@[simp] theorem Hub.restartTracking_frame :
    (Hub.restartTracking h).time = h.time ∧ (Hub.restartTracking h).table = h.table
    ∧ (Hub.restartTracking h).scanner = h.scanner ∧ (Hub.restartTracking h).lines = h.lines
    ∧ (Hub.restartTracking h).sensors = h.sensors ∧ (Hub.restartTracking h).queue = h.queue
    ∧ (Hub.restartTracking h).updater = h.updater ∧ (Hub.restartTracking h).permit = h.permit
    ∧ (Hub.restartTracking h).route = h.route ∧ (Hub.restartTracking h).limits = h.limits
    ∧ (Hub.restartTracking h).trail = h.trail ∧ (Hub.restartTracking h).dock = h.dock
    ∧ (Hub.restartTracking h).beacon = h.beacon ∧ (Hub.restartTracking h).load = h.load
    ∧ (Hub.restartTracking h).store = h.store ∧ (Hub.restartTracking h).flash = h.flash
    ∧ (Hub.restartTracking h).plan = h.plan ∧ (Hub.restartTracking h).power = h.power
    ∧ (Hub.restartTracking h).drive = h.drive ∧ (Hub.restartTracking h).att = h.att
    ∧ (Hub.restartTracking h).inReset = h.inReset ∧ (Hub.restartTracking h).freeDraws = h.freeDraws :=
  ⟨rfl, rfl, rfl, rfl, rfl, rfl, rfl, rfl, rfl, rfl, rfl, rfl, rfl, rfl, rfl, rfl, rfl, rfl, rfl, rfl, rfl, rfl⟩

@[simp] theorem Hub.startCentreLookup_frame :
    (Hub.startCentreLookup h).time = h.time ∧ (Hub.startCentreLookup h).table = h.table
    ∧ (Hub.startCentreLookup h).scanner = h.scanner ∧ (Hub.startCentreLookup h).lines = h.lines
    ∧ (Hub.startCentreLookup h).sensors = h.sensors ∧ (Hub.startCentreLookup h).queue = h.queue
    ∧ (Hub.startCentreLookup h).updater = h.updater ∧ (Hub.startCentreLookup h).permit = h.permit
    ∧ (Hub.startCentreLookup h).route = h.route ∧ (Hub.startCentreLookup h).limits = h.limits
    ∧ (Hub.startCentreLookup h).trail = h.trail ∧ (Hub.startCentreLookup h).dock = h.dock
    ∧ (Hub.startCentreLookup h).beacon = h.beacon ∧ (Hub.startCentreLookup h).load = h.load
    ∧ (Hub.startCentreLookup h).store = h.store ∧ (Hub.startCentreLookup h).flash = h.flash
    ∧ (Hub.startCentreLookup h).plan = h.plan ∧ (Hub.startCentreLookup h).power = h.power
    ∧ (Hub.startCentreLookup h).drive = h.drive ∧ (Hub.startCentreLookup h).att = h.att
    ∧ (Hub.startCentreLookup h).inReset = h.inReset ∧ (Hub.startCentreLookup h).freeDraws = h.freeDraws := by
  unfold Hub.startCentreLookup
  and_intros <;> (try dsimp only) <;> (repeat' split) <;> simp

@[simp] theorem Hub.trackWheel_frame (sd : Side) :
    (Hub.trackWheel sd h).1.time = h.time ∧ (Hub.trackWheel sd h).1.table = h.table
    ∧ (Hub.trackWheel sd h).1.scanner = h.scanner ∧ (Hub.trackWheel sd h).1.lines = h.lines
    ∧ (Hub.trackWheel sd h).1.sensors = h.sensors ∧ (Hub.trackWheel sd h).1.queue = h.queue
    ∧ (Hub.trackWheel sd h).1.updater = h.updater ∧ (Hub.trackWheel sd h).1.permit = h.permit
    ∧ (Hub.trackWheel sd h).1.route = h.route ∧ (Hub.trackWheel sd h).1.limits = h.limits
    ∧ (Hub.trackWheel sd h).1.trail = h.trail ∧ (Hub.trackWheel sd h).1.dock = h.dock
    ∧ (Hub.trackWheel sd h).1.beacon = h.beacon ∧ (Hub.trackWheel sd h).1.load = h.load
    ∧ (Hub.trackWheel sd h).1.store = h.store ∧ (Hub.trackWheel sd h).1.flash = h.flash
    ∧ (Hub.trackWheel sd h).1.plan = h.plan ∧ (Hub.trackWheel sd h).1.power = h.power
    ∧ (Hub.trackWheel sd h).1.drive = h.drive ∧ (Hub.trackWheel sd h).1.att = h.att
    ∧ (Hub.trackWheel sd h).1.inReset = h.inReset ∧ (Hub.trackWheel sd h).1.freeDraws = h.freeDraws := by
  unfold Hub.trackWheel
  and_intros <;> (try dsimp only) <;> (repeat' split) <;> simp

@[simp] theorem Hub.trackWheels_frame :
    (Hub.trackWheels h).time = h.time ∧ (Hub.trackWheels h).table = h.table
    ∧ (Hub.trackWheels h).scanner = h.scanner ∧ (Hub.trackWheels h).lines = h.lines
    ∧ (Hub.trackWheels h).sensors = h.sensors ∧ (Hub.trackWheels h).permit = h.permit
    ∧ (Hub.trackWheels h).route = h.route ∧ (Hub.trackWheels h).limits = h.limits
    ∧ (Hub.trackWheels h).trail = h.trail ∧ (Hub.trackWheels h).dock = h.dock
    ∧ (Hub.trackWheels h).beacon = h.beacon ∧ (Hub.trackWheels h).load = h.load
    ∧ (Hub.trackWheels h).store = h.store ∧ (Hub.trackWheels h).flash = h.flash
    ∧ (Hub.trackWheels h).plan = h.plan ∧ (Hub.trackWheels h).power = h.power
    ∧ (Hub.trackWheels h).drive = h.drive ∧ (Hub.trackWheels h).inReset = h.inReset
    ∧ (Hub.trackWheels h).freeDraws = h.freeDraws := by
  unfold Hub.trackWheels
  simp

@[simp] theorem Hub.poseUpdated_frame :
    (Hub.poseUpdated h).time = h.time ∧ (Hub.poseUpdated h).table = h.table
    ∧ (Hub.poseUpdated h).scanner = h.scanner ∧ (Hub.poseUpdated h).lines = h.lines
    ∧ (Hub.poseUpdated h).sensors = h.sensors ∧ (Hub.poseUpdated h).limits = h.limits
    ∧ (Hub.poseUpdated h).beacon = h.beacon ∧ (Hub.poseUpdated h).load = h.load
    ∧ (Hub.poseUpdated h).store = h.store ∧ (Hub.poseUpdated h).flash = h.flash
    ∧ (Hub.poseUpdated h).plan = h.plan ∧ (Hub.poseUpdated h).power = h.power
    ∧ (Hub.poseUpdated h).inReset = h.inReset ∧ (Hub.poseUpdated h).freeDraws = h.freeDraws := by
  unfold Hub.poseUpdated
  simp

@[simp] theorem Hub.poseEntry_frame (p : PoseState) :
    (Hub.poseEntry p h).time = h.time ∧ (Hub.poseEntry p h).table = h.table
    ∧ (Hub.poseEntry p h).lines = h.lines ∧ (Hub.poseEntry p h).sensors = h.sensors
    ∧ (Hub.poseEntry p h).queue = h.queue ∧ (Hub.poseEntry p h).updater = h.updater
    ∧ (Hub.poseEntry p h).route = h.route ∧ (Hub.poseEntry p h).limits = h.limits
    ∧ (Hub.poseEntry p h).trail = h.trail ∧ (Hub.poseEntry p h).dock = h.dock
    ∧ (Hub.poseEntry p h).beacon = h.beacon ∧ (Hub.poseEntry p h).store = h.store
    ∧ (Hub.poseEntry p h).flash = h.flash ∧ (Hub.poseEntry p h).plan = h.plan
    ∧ (Hub.poseEntry p h).power = h.power ∧ (Hub.poseEntry p h).inReset = h.inReset
    ∧ (Hub.poseEntry p h).freeDraws = h.freeDraws := by
  unfold Hub.poseEntry
  simp

@[simp] theorem Hub.enterLost_frame (c : LossCause) :
    (Hub.enterLost c h).time = h.time ∧ (Hub.enterLost c h).table = h.table
    ∧ (Hub.enterLost c h).lines = h.lines ∧ (Hub.enterLost c h).sensors = h.sensors
    ∧ (Hub.enterLost c h).queue = h.queue ∧ (Hub.enterLost c h).updater = h.updater
    ∧ (Hub.enterLost c h).route = h.route ∧ (Hub.enterLost c h).limits = h.limits
    ∧ (Hub.enterLost c h).trail = h.trail ∧ (Hub.enterLost c h).dock = h.dock
    ∧ (Hub.enterLost c h).beacon = h.beacon ∧ (Hub.enterLost c h).store = h.store
    ∧ (Hub.enterLost c h).flash = h.flash ∧ (Hub.enterLost c h).plan = h.plan
    ∧ (Hub.enterLost c h).power = h.power ∧ (Hub.enterLost c h).inReset = h.inReset
    ∧ (Hub.enterLost c h).freeDraws = h.freeDraws := by
  unfold Hub.enterLost
  simp

@[simp] theorem Hub.enterLifted_frame :
    (Hub.enterLifted h).time = h.time ∧ (Hub.enterLifted h).table = h.table
    ∧ (Hub.enterLifted h).lines = h.lines ∧ (Hub.enterLifted h).sensors = h.sensors
    ∧ (Hub.enterLifted h).queue = h.queue ∧ (Hub.enterLifted h).updater = h.updater
    ∧ (Hub.enterLifted h).route = h.route ∧ (Hub.enterLifted h).limits = h.limits
    ∧ (Hub.enterLifted h).trail = h.trail ∧ (Hub.enterLifted h).dock = h.dock
    ∧ (Hub.enterLifted h).beacon = h.beacon ∧ (Hub.enterLifted h).store = h.store
    ∧ (Hub.enterLifted h).flash = h.flash ∧ (Hub.enterLifted h).plan = h.plan
    ∧ (Hub.enterLifted h).power = h.power ∧ (Hub.enterLifted h).inReset = h.inReset
    ∧ (Hub.enterLifted h).freeDraws = h.freeDraws := by
  unfold Hub.enterLifted
  simp

@[simp] theorem Hub.loadPose_frame (p : Pose) :
    (Hub.loadPose p h).time = h.time ∧ (Hub.loadPose p h).table = h.table
    ∧ (Hub.loadPose p h).scanner = h.scanner ∧ (Hub.loadPose p h).lines = h.lines
    ∧ (Hub.loadPose p h).sensors = h.sensors ∧ (Hub.loadPose p h).queue = h.queue
    ∧ (Hub.loadPose p h).updater = h.updater ∧ (Hub.loadPose p h).permit = h.permit
    ∧ (Hub.loadPose p h).route = h.route ∧ (Hub.loadPose p h).limits = h.limits
    ∧ (Hub.loadPose p h).trail = h.trail ∧ (Hub.loadPose p h).dock = h.dock
    ∧ (Hub.loadPose p h).beacon = h.beacon ∧ (Hub.loadPose p h).load = h.load
    ∧ (Hub.loadPose p h).store = h.store ∧ (Hub.loadPose p h).flash = h.flash ∧ (Hub.loadPose p h).plan = h.plan
    ∧ (Hub.loadPose p h).power = h.power ∧ (Hub.loadPose p h).drive = h.drive ∧ (Hub.loadPose p h).att = h.att
    ∧ (Hub.loadPose p h).inReset = h.inReset ∧ (Hub.loadPose p h).freeDraws = h.freeDraws :=
  ⟨rfl, rfl, rfl, rfl, rfl, rfl, rfl, rfl, rfl, rfl, rfl, rfl, rfl, rfl, rfl, rfl, rfl, rfl, rfl, rfl, rfl, rfl⟩

@[simp] theorem Hub.applyTicks_frame (l r : Int) :
    (Hub.applyTicks l r h).time = h.time ∧ (Hub.applyTicks l r h).table = h.table
    ∧ (Hub.applyTicks l r h).lines = h.lines ∧ (Hub.applyTicks l r h).sensors = h.sensors
    ∧ (Hub.applyTicks l r h).limits = h.limits ∧ (Hub.applyTicks l r h).beacon = h.beacon
    ∧ (Hub.applyTicks l r h).store = h.store ∧ (Hub.applyTicks l r h).flash = h.flash
    ∧ (Hub.applyTicks l r h).plan = h.plan ∧ (Hub.applyTicks l r h).power = h.power
    ∧ (Hub.applyTicks l r h).inReset = h.inReset ∧ (Hub.applyTicks l r h).freeDraws = h.freeDraws := by
  unfold Hub.applyTicks
  and_intros <;> (try dsimp only) <;> (repeat' split) <;> simp

@[simp] theorem Hub.changeFloor_frame (fl : Floor) :
    (Hub.changeFloor fl h).time = h.time ∧ (Hub.changeFloor fl h).table = h.table
    ∧ (Hub.changeFloor fl h).scanner = h.scanner ∧ (Hub.changeFloor fl h).lines = h.lines
    ∧ (Hub.changeFloor fl h).sensors = h.sensors ∧ (Hub.changeFloor fl h).queue = h.queue
    ∧ (Hub.changeFloor fl h).updater = h.updater ∧ (Hub.changeFloor fl h).permit = h.permit
    ∧ (Hub.changeFloor fl h).limits = h.limits ∧ (Hub.changeFloor fl h).beacon = h.beacon
    ∧ (Hub.changeFloor fl h).load = h.load ∧ (Hub.changeFloor fl h).store = h.store
    ∧ (Hub.changeFloor fl h).flash = h.flash ∧ (Hub.changeFloor fl h).plan = h.plan
    ∧ (Hub.changeFloor fl h).power = h.power ∧ (Hub.changeFloor fl h).drive = h.drive
    ∧ (Hub.changeFloor fl h).inReset = h.inReset ∧ (Hub.changeFloor fl h).freeDraws = h.freeDraws := by
  unfold Hub.changeFloor
  and_intros <;> (try dsimp only) <;> (repeat' split) <;> simp

@[simp] theorem Hub.place_frame (p : Pose) :
    (Hub.place p h).time = h.time ∧ (Hub.place p h).table = h.table ∧ (Hub.place p h).lines = h.lines
    ∧ (Hub.place p h).sensors = h.sensors ∧ (Hub.place p h).queue = h.queue
    ∧ (Hub.place p h).updater = h.updater ∧ (Hub.place p h).permit = h.permit ∧ (Hub.place p h).route = h.route
    ∧ (Hub.place p h).limits = h.limits ∧ (Hub.place p h).trail = h.trail ∧ (Hub.place p h).dock = h.dock
    ∧ (Hub.place p h).beacon = h.beacon ∧ (Hub.place p h).load = h.load ∧ (Hub.place p h).store = h.store
    ∧ (Hub.place p h).flash = h.flash ∧ (Hub.place p h).plan = h.plan ∧ (Hub.place p h).power = h.power
    ∧ (Hub.place p h).drive = h.drive ∧ (Hub.place p h).att = h.att ∧ (Hub.place p h).inReset = h.inReset
    ∧ (Hub.place p h).freeDraws = h.freeDraws :=
  ⟨rfl, rfl, rfl, rfl, rfl, rfl, rfl, rfl, rfl, rfl, rfl, rfl, rfl, rfl, rfl, rfl, rfl, rfl, rfl, rfl, rfl⟩

@[simp] theorem Hub.dockedCorrection_frame :
    (Hub.dockedCorrection h).time = h.time ∧ (Hub.dockedCorrection h).table = h.table
    ∧ (Hub.dockedCorrection h).lines = h.lines ∧ (Hub.dockedCorrection h).sensors = h.sensors
    ∧ (Hub.dockedCorrection h).limits = h.limits ∧ (Hub.dockedCorrection h).beacon = h.beacon
    ∧ (Hub.dockedCorrection h).load = h.load ∧ (Hub.dockedCorrection h).store = h.store
    ∧ (Hub.dockedCorrection h).flash = h.flash ∧ (Hub.dockedCorrection h).plan = h.plan
    ∧ (Hub.dockedCorrection h).power = h.power ∧ (Hub.dockedCorrection h).inReset = h.inReset
    ∧ (Hub.dockedCorrection h).freeDraws = h.freeDraws := by
  unfold Hub.dockedCorrection
  and_intros <;> (try dsimp only) <;> (repeat' split) <;> simp

@[simp] theorem Hub.endLookup_frame (w : LookupFor) :
    (Hub.endLookup w h).time = h.time ∧ (Hub.endLookup w h).table = h.table
    ∧ (Hub.endLookup w h).scanner = h.scanner ∧ (Hub.endLookup w h).lines = h.lines
    ∧ (Hub.endLookup w h).sensors = h.sensors ∧ (Hub.endLookup w h).queue = h.queue
    ∧ (Hub.endLookup w h).updater = h.updater ∧ (Hub.endLookup w h).permit = h.permit
    ∧ (Hub.endLookup w h).route = h.route ∧ (Hub.endLookup w h).limits = h.limits
    ∧ (Hub.endLookup w h).trail = h.trail ∧ (Hub.endLookup w h).dock = h.dock
    ∧ (Hub.endLookup w h).beacon = h.beacon ∧ (Hub.endLookup w h).load = h.load
    ∧ (Hub.endLookup w h).store = h.store ∧ (Hub.endLookup w h).flash = h.flash
    ∧ (Hub.endLookup w h).plan = h.plan ∧ (Hub.endLookup w h).power = h.power
    ∧ (Hub.endLookup w h).drive = h.drive ∧ (Hub.endLookup w h).att = h.att
    ∧ (Hub.endLookup w h).inReset = h.inReset ∧ (Hub.endLookup w h).freeDraws = h.freeDraws :=
  ⟨rfl, rfl, rfl, rfl, rfl, rfl, rfl, rfl, rfl, rfl, rfl, rfl, rfl, rfl, rfl, rfl, rfl, rfl, rfl, rfl, rfl, rfl⟩

@[simp] theorem Hub.readOn_frame (r : TileRead) :
    (Hub.readOn r h).time = h.time ∧ (Hub.readOn r h).table = h.table ∧ (Hub.readOn r h).scanner = h.scanner
    ∧ (Hub.readOn r h).lines = h.lines ∧ (Hub.readOn r h).sensors = h.sensors
    ∧ (Hub.readOn r h).queue = h.queue ∧ (Hub.readOn r h).updater = h.updater
    ∧ (Hub.readOn r h).permit = h.permit ∧ (Hub.readOn r h).route = h.route
    ∧ (Hub.readOn r h).limits = h.limits ∧ (Hub.readOn r h).trail = h.trail ∧ (Hub.readOn r h).dock = h.dock
    ∧ (Hub.readOn r h).beacon = h.beacon ∧ (Hub.readOn r h).load = h.load ∧ (Hub.readOn r h).store = h.store
    ∧ (Hub.readOn r h).flash = h.flash ∧ (Hub.readOn r h).plan = h.plan ∧ (Hub.readOn r h).power = h.power
    ∧ (Hub.readOn r h).drive = h.drive ∧ (Hub.readOn r h).att = h.att ∧ (Hub.readOn r h).inReset = h.inReset
    ∧ (Hub.readOn r h).freeDraws = h.freeDraws :=
  ⟨rfl, rfl, rfl, rfl, rfl, rfl, rfl, rfl, rfl, rfl, rfl, rfl, rfl, rfl, rfl, rfl, rfl, rfl, rfl, rfl, rfl, rfl⟩

@[simp] theorem Hub.centreEnd_frame (b : Bool) (p : Option Pile) :
    (Hub.centreEnd b p h).time = h.time ∧ (Hub.centreEnd b p h).table = h.table ∧ (Hub.centreEnd b p h).lines = h.lines
    ∧ (Hub.centreEnd b p h).sensors = h.sensors ∧ (Hub.centreEnd b p h).queue = h.queue
    ∧ (Hub.centreEnd b p h).updater = h.updater ∧ (Hub.centreEnd b p h).permit = h.permit
    ∧ (Hub.centreEnd b p h).route = h.route ∧ (Hub.centreEnd b p h).limits = h.limits
    ∧ (Hub.centreEnd b p h).trail = h.trail ∧ (Hub.centreEnd b p h).dock = h.dock
    ∧ (Hub.centreEnd b p h).beacon = h.beacon ∧ (Hub.centreEnd b p h).store = h.store
    ∧ (Hub.centreEnd b p h).flash = h.flash ∧ (Hub.centreEnd b p h).plan = h.plan
    ∧ (Hub.centreEnd b p h).power = h.power ∧ (Hub.centreEnd b p h).drive = h.drive
    ∧ (Hub.centreEnd b p h).inReset = h.inReset ∧ (Hub.centreEnd b p h).freeDraws = h.freeDraws := by
  unfold Hub.centreEnd
  and_intros <;> (try dsimp only) <;> (repeat' split) <;> simp

@[simp] theorem Hub.centreDone_frame :
    (Hub.centreDone h).time = h.time ∧ (Hub.centreDone h).lines = h.lines
    ∧ (Hub.centreDone h).sensors = h.sensors ∧ (Hub.centreDone h).queue = h.queue
    ∧ (Hub.centreDone h).updater = h.updater ∧ (Hub.centreDone h).permit = h.permit
    ∧ (Hub.centreDone h).route = h.route ∧ (Hub.centreDone h).limits = h.limits
    ∧ (Hub.centreDone h).trail = h.trail ∧ (Hub.centreDone h).dock = h.dock
    ∧ (Hub.centreDone h).beacon = h.beacon ∧ (Hub.centreDone h).store = h.store
    ∧ (Hub.centreDone h).flash = h.flash ∧ (Hub.centreDone h).plan = h.plan ∧ (Hub.centreDone h).power = h.power
    ∧ (Hub.centreDone h).drive = h.drive ∧ (Hub.centreDone h).inReset = h.inReset
    ∧ (Hub.centreDone h).freeDraws = h.freeDraws := by
  unfold Hub.centreDone
  and_intros <;> (try dsimp only) <;> (repeat' split) <;> simp [Hub.lookupGranted]

@[simp] theorem Hub.passOverEnd_frame (sd : Side) (l : Lookup) :
    (Hub.passOverEnd sd l h).time = h.time ∧ (Hub.passOverEnd sd l h).scanner = h.scanner
    ∧ (Hub.passOverEnd sd l h).lines = h.lines ∧ (Hub.passOverEnd sd l h).sensors = h.sensors
    ∧ (Hub.passOverEnd sd l h).queue = h.queue ∧ (Hub.passOverEnd sd l h).updater = h.updater
    ∧ (Hub.passOverEnd sd l h).permit = h.permit ∧ (Hub.passOverEnd sd l h).route = h.route
    ∧ (Hub.passOverEnd sd l h).limits = h.limits ∧ (Hub.passOverEnd sd l h).trail = h.trail
    ∧ (Hub.passOverEnd sd l h).dock = h.dock ∧ (Hub.passOverEnd sd l h).beacon = h.beacon
    ∧ (Hub.passOverEnd sd l h).load = h.load ∧ (Hub.passOverEnd sd l h).store = h.store
    ∧ (Hub.passOverEnd sd l h).flash = h.flash ∧ (Hub.passOverEnd sd l h).plan = h.plan
    ∧ (Hub.passOverEnd sd l h).power = h.power ∧ (Hub.passOverEnd sd l h).drive = h.drive
    ∧ (Hub.passOverEnd sd l h).att = h.att ∧ (Hub.passOverEnd sd l h).inReset = h.inReset
    ∧ (Hub.passOverEnd sd l h).freeDraws = h.freeDraws := by
  unfold Hub.passOverEnd
  and_intros <;> (try dsimp only) <;> (repeat' split) <;> simp

@[simp] theorem Hub.passOverDone_frame (sd : Side) :
    (Hub.passOverDone sd h).time = h.time ∧ (Hub.passOverDone sd h).scanner = h.scanner
    ∧ (Hub.passOverDone sd h).lines = h.lines ∧ (Hub.passOverDone sd h).sensors = h.sensors
    ∧ (Hub.passOverDone sd h).queue = h.queue ∧ (Hub.passOverDone sd h).updater = h.updater
    ∧ (Hub.passOverDone sd h).permit = h.permit ∧ (Hub.passOverDone sd h).route = h.route
    ∧ (Hub.passOverDone sd h).limits = h.limits ∧ (Hub.passOverDone sd h).trail = h.trail
    ∧ (Hub.passOverDone sd h).dock = h.dock ∧ (Hub.passOverDone sd h).beacon = h.beacon
    ∧ (Hub.passOverDone sd h).load = h.load ∧ (Hub.passOverDone sd h).store = h.store
    ∧ (Hub.passOverDone sd h).flash = h.flash ∧ (Hub.passOverDone sd h).plan = h.plan
    ∧ (Hub.passOverDone sd h).power = h.power ∧ (Hub.passOverDone sd h).drive = h.drive
    ∧ (Hub.passOverDone sd h).att = h.att ∧ (Hub.passOverDone sd h).inReset = h.inReset
    ∧ (Hub.passOverDone sd h).freeDraws = h.freeDraws := by
  unfold Hub.passOverDone
  and_intros <;> (repeat' split) <;> simp [Hub.lookupGranted]

/-! ## What becomes of the pose -/

@[simp] theorem Hub.restartTracking_odo :
    h.restartTracking.odo =
      { h.odo with left := ⟨none, none⟩, right := ⟨none, none⟩, lookups := discarding (·.isWheel) h.odo.lookups } := rfl

/-- The unit after an entry into LOST or LIFTED (R76, R77, R84). -/
theorem Hub.poseEntry_odo (st : PoseState) :
    (h.poseEntry st).odo =
      { h.odo with
        pose := st, slip := none, left := ⟨none, none⟩, right := ⟨none, none⟩, centreAgain := false
        lookups :=
          discarding (fun w => decide (w = LookupFor.centre)) (discarding (·.isWheel) h.odo.lookups) } := by
  simp [Hub.poseEntry]

/-- Every lookup is of a wheel or of the centre, so both discards leave none to be taken. -/
theorem discarding_both (l : List Lookup) :
    ∀ k ∈ discarding (fun w => decide (w = LookupFor.centre)) (discarding (·.isWheel) l), k.discard = true := by
  simp only [discarding, List.mem_map]
  rintro k ⟨a, ⟨⟨w, t, d, r⟩, _, rfl⟩, rfl⟩
  cases w <;> simp [LookupFor.isWheel]

/-- A centre-tile lookup that starts leaves the pose and the wheels. -/
@[simp] theorem Hub.startCentreLookup_odo :
    h.startCentreLookup.odo.x = h.odo.x ∧ h.startCentreLookup.odo.y = h.odo.y
    ∧ h.startCentreLookup.odo.heading = h.odo.heading ∧ h.startCentreLookup.odo.rangeSet = h.odo.rangeSet
    ∧ h.startCentreLookup.odo.pose = h.odo.pose ∧ h.startCentreLookup.odo.floor = h.odo.floor
    ∧ h.startCentreLookup.odo.slip = h.odo.slip ∧ h.startCentreLookup.odo.left = h.odo.left
    ∧ h.startCentreLookup.odo.right = h.odo.right := by
  unfold Hub.startCentreLookup
  repeat' split
  all_goals simp

@[simp] theorem Hub.trackWheel_odo (sd : Side) :
    (h.trackWheel sd).1.odo.x = h.odo.x ∧ (h.trackWheel sd).1.odo.y = h.odo.y
    ∧ (h.trackWheel sd).1.odo.heading = h.odo.heading ∧ (h.trackWheel sd).1.odo.rangeSet = h.odo.rangeSet
    ∧ (h.trackWheel sd).1.odo.pose = h.odo.pose ∧ (h.trackWheel sd).1.odo.floor = h.odo.floor
    ∧ (h.trackWheel sd).1.odo.slip = h.odo.slip := by
  unfold Hub.trackWheel
  cases sd <;> dsimp only <;> split <;> simp [Odometry.setWheel]

/-- Both wheels tracked, the pose stays. -/
@[simp] theorem Hub.trackWheels_odo :
    h.trackWheels.odo.x = h.odo.x ∧ h.trackWheels.odo.y = h.odo.y ∧ h.trackWheels.odo.heading = h.odo.heading
    ∧ h.trackWheels.odo.rangeSet = h.odo.rangeSet ∧ h.trackWheels.odo.pose = h.odo.pose
    ∧ h.trackWheels.odo.floor = h.odo.floor ∧ h.trackWheels.odo.slip = h.odo.slip := by
  simp [Hub.trackWheels]

/-- What follows a pose update leaves the pose. -/
@[simp] theorem Hub.poseUpdated_odo :
    h.poseUpdated.odo.x = h.odo.x ∧ h.poseUpdated.odo.y = h.odo.y ∧ h.poseUpdated.odo.heading = h.odo.heading
    ∧ h.poseUpdated.odo.rangeSet = h.odo.rangeSet ∧ h.poseUpdated.odo.pose = h.odo.pose
    ∧ h.poseUpdated.odo.floor = h.odo.floor ∧ h.poseUpdated.odo.slip = h.odo.slip := by
  simp [Hub.poseUpdated]

/-- A change of the active floor changes nothing else of the unit. -/
@[simp] theorem Hub.changeFloor_odo (fl : Floor) : (h.changeFloor fl).odo = { h.odo with floor := fl } := by
  unfold Hub.changeFloor
  split
  · rename_i e
    rw [e]
  · simp

end Sys2Proof.Machine
end

