-- ==== Sys2Proof/Laws/Flash.lean ====
section
/-! SUPPORT. What the operations of the Map Store leave as it was. -/

namespace Sys2Proof.Machine

set_option linter.unnecessarySeqFocus false
set_option linter.unusedTactic false
set_option linter.unreachableTactic false

variable (h : Hub)

@[simp] theorem Hub.flashSend_frame (l : List FlashCommand) :
    (Hub.flashSend l h).time = h.time ∧ (Hub.flashSend l h).table = h.table
    ∧ (Hub.flashSend l h).scanner = h.scanner ∧ (Hub.flashSend l h).lines = h.lines
    ∧ (Hub.flashSend l h).sensors = h.sensors ∧ (Hub.flashSend l h).queue = h.queue
    ∧ (Hub.flashSend l h).updater = h.updater ∧ (Hub.flashSend l h).odo = h.odo
    ∧ (Hub.flashSend l h).permit = h.permit ∧ (Hub.flashSend l h).route = h.route
    ∧ (Hub.flashSend l h).limits = h.limits ∧ (Hub.flashSend l h).trail = h.trail
    ∧ (Hub.flashSend l h).dock = h.dock ∧ (Hub.flashSend l h).beacon = h.beacon
    ∧ (Hub.flashSend l h).load = h.load ∧ (Hub.flashSend l h).plan = h.plan
    ∧ (Hub.flashSend l h).power = h.power ∧ (Hub.flashSend l h).drive = h.drive
    ∧ (Hub.flashSend l h).att = h.att ∧ (Hub.flashSend l h).inReset = h.inReset
    ∧ (Hub.flashSend l h).freeDraws = h.freeDraws := by
  have keeps : ∀ (l : List FlashCommand) (g : Hub),
      { l.foldl Hub.flashCommand g with flash := g.flash, store := g.store } = g := by
    intro l
    induction l with
    | nil => intro g; rfl
    | cons c l ih =>
      intro g
      have e := congrArg (fun k : Hub => { k with flash := g.flash, store := g.store }) (ih (g.flashCommand c))
      cases c <;> exact e
  have e := keeps l h
  exact ⟨(congrArg Hub.time e :), (congrArg Hub.table e :), (congrArg Hub.scanner e :), (congrArg Hub.lines e :),
    (congrArg Hub.sensors e :), (congrArg Hub.queue e :), (congrArg Hub.updater e :), (congrArg Hub.odo e :),
    (congrArg Hub.permit e :), (congrArg Hub.route e :), (congrArg Hub.limits e :), (congrArg Hub.trail e :),
    (congrArg Hub.dock e :), (congrArg Hub.beacon e :), (congrArg Hub.load e :), (congrArg Hub.plan e :),
    (congrArg Hub.power e :), (congrArg Hub.drive e :), (congrArg Hub.att e :), (congrArg Hub.inReset e :),
    (congrArg Hub.freeDraws e :)⟩

@[simp] theorem Hub.flashDone_frame :
    (Hub.flashDone h).time = h.time ∧ (Hub.flashDone h).table = h.table
    ∧ (Hub.flashDone h).scanner = h.scanner ∧ (Hub.flashDone h).lines = h.lines
    ∧ (Hub.flashDone h).sensors = h.sensors ∧ (Hub.flashDone h).queue = h.queue
    ∧ (Hub.flashDone h).updater = h.updater ∧ (Hub.flashDone h).odo = h.odo
    ∧ (Hub.flashDone h).permit = h.permit ∧ (Hub.flashDone h).route = h.route
    ∧ (Hub.flashDone h).limits = h.limits ∧ (Hub.flashDone h).trail = h.trail
    ∧ (Hub.flashDone h).dock = h.dock ∧ (Hub.flashDone h).beacon = h.beacon
    ∧ (Hub.flashDone h).load = h.load ∧ (Hub.flashDone h).plan = h.plan ∧ (Hub.flashDone h).power = h.power
    ∧ (Hub.flashDone h).drive = h.drive ∧ (Hub.flashDone h).att = h.att
    ∧ (Hub.flashDone h).inReset = h.inReset ∧ (Hub.flashDone h).freeDraws = h.freeDraws :=
  ⟨rfl, rfl, rfl, rfl, rfl, rfl, rfl, rfl, rfl, rfl, rfl, rfl, rfl, rfl, rfl, rfl, rfl, rfl, rfl, rfl, rfl⟩

@[simp] theorem Hub.cutMarker_frame :
    (Hub.cutMarker h).time = h.time ∧ (Hub.cutMarker h).table = h.table
    ∧ (Hub.cutMarker h).scanner = h.scanner ∧ (Hub.cutMarker h).lines = h.lines
    ∧ (Hub.cutMarker h).sensors = h.sensors ∧ (Hub.cutMarker h).queue = h.queue
    ∧ (Hub.cutMarker h).updater = h.updater ∧ (Hub.cutMarker h).odo = h.odo
    ∧ (Hub.cutMarker h).permit = h.permit ∧ (Hub.cutMarker h).route = h.route
    ∧ (Hub.cutMarker h).limits = h.limits ∧ (Hub.cutMarker h).trail = h.trail
    ∧ (Hub.cutMarker h).dock = h.dock ∧ (Hub.cutMarker h).beacon = h.beacon
    ∧ (Hub.cutMarker h).load = h.load ∧ (Hub.cutMarker h).plan = h.plan ∧ (Hub.cutMarker h).power = h.power
    ∧ (Hub.cutMarker h).drive = h.drive ∧ (Hub.cutMarker h).att = h.att
    ∧ (Hub.cutMarker h).inReset = h.inReset := by
  unfold Hub.cutMarker
  and_intros <;> (try dsimp only) <;> (repeat' split) <;> simp

/-- Cutting the marker's program leaves what the store was doing, and its last results. -/
@[simp] theorem Hub.cutMarker_store :
    (Hub.cutMarker h).store.phase = h.store.phase ∧ (Hub.cutMarker h).store.lastOp = h.store.lastOp
    ∧ (Hub.cutMarker h).store.lastResult = h.store.lastResult
    ∧ (Hub.cutMarker h).store.entryCount = h.store.entryCount
    ∧ (Hub.cutMarker h).store.dropped = h.store.dropped ∧ (Hub.cutMarker h).store.skipped = h.store.skipped
    ∧ (Hub.cutMarker h).store.linkOut = h.store.linkOut := by
  unfold Hub.cutMarker
  and_intros <;> (try dsimp only) <;> (repeat' split) <;> rfl

@[simp] theorem Hub.setSave_frame (o : SaveOp) :
    (Hub.setSave o h).time = h.time ∧ (Hub.setSave o h).table = h.table ∧ (Hub.setSave o h).scanner = h.scanner
    ∧ (Hub.setSave o h).lines = h.lines ∧ (Hub.setSave o h).sensors = h.sensors
    ∧ (Hub.setSave o h).queue = h.queue ∧ (Hub.setSave o h).updater = h.updater ∧ (Hub.setSave o h).odo = h.odo
    ∧ (Hub.setSave o h).permit = h.permit ∧ (Hub.setSave o h).route = h.route
    ∧ (Hub.setSave o h).limits = h.limits ∧ (Hub.setSave o h).trail = h.trail ∧ (Hub.setSave o h).dock = h.dock
    ∧ (Hub.setSave o h).beacon = h.beacon ∧ (Hub.setSave o h).load = h.load ∧ (Hub.setSave o h).flash = h.flash
    ∧ (Hub.setSave o h).plan = h.plan ∧ (Hub.setSave o h).power = h.power ∧ (Hub.setSave o h).drive = h.drive
    ∧ (Hub.setSave o h).att = h.att ∧ (Hub.setSave o h).inReset = h.inReset
    ∧ (Hub.setSave o h).freeDraws = h.freeDraws :=
  ⟨rfl, rfl, rfl, rfl, rfl, rfl, rfl, rfl, rfl, rfl, rfl, rfl, rfl, rfl, rfl, rfl, rfl, rfl, rfl, rfl, rfl, rfl⟩

@[simp] theorem Hub.setLoad_frame (o : LoadOp) :
    (Hub.setLoad o h).time = h.time ∧ (Hub.setLoad o h).table = h.table ∧ (Hub.setLoad o h).scanner = h.scanner
    ∧ (Hub.setLoad o h).lines = h.lines ∧ (Hub.setLoad o h).sensors = h.sensors
    ∧ (Hub.setLoad o h).queue = h.queue ∧ (Hub.setLoad o h).updater = h.updater ∧ (Hub.setLoad o h).odo = h.odo
    ∧ (Hub.setLoad o h).permit = h.permit ∧ (Hub.setLoad o h).route = h.route
    ∧ (Hub.setLoad o h).limits = h.limits ∧ (Hub.setLoad o h).trail = h.trail ∧ (Hub.setLoad o h).dock = h.dock
    ∧ (Hub.setLoad o h).beacon = h.beacon ∧ (Hub.setLoad o h).load = h.load ∧ (Hub.setLoad o h).flash = h.flash
    ∧ (Hub.setLoad o h).plan = h.plan ∧ (Hub.setLoad o h).power = h.power ∧ (Hub.setLoad o h).drive = h.drive
    ∧ (Hub.setLoad o h).att = h.att ∧ (Hub.setLoad o h).inReset = h.inReset
    ∧ (Hub.setLoad o h).freeDraws = h.freeDraws :=
  ⟨rfl, rfl, rfl, rfl, rfl, rfl, rfl, rfl, rfl, rfl, rfl, rfl, rfl, rfl, rfl, rfl, rfl, rfl, rfl, rfl, rfl, rfl⟩

@[simp] theorem Hub.endStartUp_frame (fl : Floor) :
    (Hub.endStartUp fl h).time = h.time ∧ (Hub.endStartUp fl h).table = h.table
    ∧ (Hub.endStartUp fl h).scanner = h.scanner ∧ (Hub.endStartUp fl h).lines = h.lines
    ∧ (Hub.endStartUp fl h).sensors = h.sensors ∧ (Hub.endStartUp fl h).queue = h.queue
    ∧ (Hub.endStartUp fl h).updater = h.updater ∧ (Hub.endStartUp fl h).limits = h.limits
    ∧ (Hub.endStartUp fl h).beacon = h.beacon ∧ (Hub.endStartUp fl h).load = h.load
    ∧ (Hub.endStartUp fl h).store = h.store ∧ (Hub.endStartUp fl h).flash = h.flash
    ∧ (Hub.endStartUp fl h).plan = h.plan ∧ (Hub.endStartUp fl h).power = h.power
    ∧ (Hub.endStartUp fl h).drive = h.drive ∧ (Hub.endStartUp fl h).inReset = h.inReset
    ∧ (Hub.endStartUp fl h).freeDraws = h.freeDraws := by
  unfold Hub.endStartUp
  simp

@[simp] theorem Hub.endStore_frame (r : StoreResult) (b : Bool) :
    (Hub.endStore r b h).time = h.time ∧ (Hub.endStore r b h).table = h.table
    ∧ (Hub.endStore r b h).scanner = h.scanner ∧ (Hub.endStore r b h).lines = h.lines
    ∧ (Hub.endStore r b h).sensors = h.sensors ∧ (Hub.endStore r b h).limits = h.limits
    ∧ (Hub.endStore r b h).beacon = h.beacon ∧ (Hub.endStore r b h).load = h.load
    ∧ (Hub.endStore r b h).flash = h.flash ∧ (Hub.endStore r b h).plan = h.plan
    ∧ (Hub.endStore r b h).power = h.power ∧ (Hub.endStore r b h).drive = h.drive
    ∧ (Hub.endStore r b h).inReset = h.inReset ∧ (Hub.endStore r b h).freeDraws = h.freeDraws := by
  unfold Hub.endStore
  and_intros <;> (try dsimp only) <;> (repeat' split) <;> simp

@[simp] theorem Hub.programPage_frame (k : Option Nat) (o : SaveOp) :
    (Hub.programPage k o h).time = h.time ∧ (Hub.programPage k o h).table = h.table
    ∧ (Hub.programPage k o h).scanner = h.scanner ∧ (Hub.programPage k o h).lines = h.lines
    ∧ (Hub.programPage k o h).sensors = h.sensors ∧ (Hub.programPage k o h).queue = h.queue
    ∧ (Hub.programPage k o h).updater = h.updater ∧ (Hub.programPage k o h).odo = h.odo
    ∧ (Hub.programPage k o h).permit = h.permit ∧ (Hub.programPage k o h).route = h.route
    ∧ (Hub.programPage k o h).limits = h.limits ∧ (Hub.programPage k o h).trail = h.trail
    ∧ (Hub.programPage k o h).dock = h.dock ∧ (Hub.programPage k o h).beacon = h.beacon
    ∧ (Hub.programPage k o h).load = h.load ∧ (Hub.programPage k o h).plan = h.plan
    ∧ (Hub.programPage k o h).power = h.power ∧ (Hub.programPage k o h).drive = h.drive
    ∧ (Hub.programPage k o h).att = h.att ∧ (Hub.programPage k o h).inReset = h.inReset
    ∧ (Hub.programPage k o h).freeDraws = h.freeDraws := by
  unfold Hub.programPage
  simp

@[simp] theorem Hub.programHeader_frame (o : SaveOp) :
    (Hub.programHeader o h).time = h.time ∧ (Hub.programHeader o h).table = h.table
    ∧ (Hub.programHeader o h).scanner = h.scanner ∧ (Hub.programHeader o h).lines = h.lines
    ∧ (Hub.programHeader o h).sensors = h.sensors ∧ (Hub.programHeader o h).queue = h.queue
    ∧ (Hub.programHeader o h).updater = h.updater ∧ (Hub.programHeader o h).odo = h.odo
    ∧ (Hub.programHeader o h).permit = h.permit ∧ (Hub.programHeader o h).route = h.route
    ∧ (Hub.programHeader o h).limits = h.limits ∧ (Hub.programHeader o h).trail = h.trail
    ∧ (Hub.programHeader o h).dock = h.dock ∧ (Hub.programHeader o h).beacon = h.beacon
    ∧ (Hub.programHeader o h).load = h.load ∧ (Hub.programHeader o h).plan = h.plan
    ∧ (Hub.programHeader o h).power = h.power ∧ (Hub.programHeader o h).drive = h.drive
    ∧ (Hub.programHeader o h).att = h.att ∧ (Hub.programHeader o h).inReset = h.inReset
    ∧ (Hub.programHeader o h).freeDraws = h.freeDraws := by
  unfold Hub.programHeader
  simp

@[simp] theorem Hub.eraseNext_frame (o : SaveOp) (n : Nat) :
    (Hub.eraseNext o n h).time = h.time ∧ (Hub.eraseNext o n h).table = h.table
    ∧ (Hub.eraseNext o n h).scanner = h.scanner ∧ (Hub.eraseNext o n h).lines = h.lines
    ∧ (Hub.eraseNext o n h).sensors = h.sensors ∧ (Hub.eraseNext o n h).queue = h.queue
    ∧ (Hub.eraseNext o n h).updater = h.updater ∧ (Hub.eraseNext o n h).odo = h.odo
    ∧ (Hub.eraseNext o n h).permit = h.permit ∧ (Hub.eraseNext o n h).route = h.route
    ∧ (Hub.eraseNext o n h).limits = h.limits ∧ (Hub.eraseNext o n h).trail = h.trail
    ∧ (Hub.eraseNext o n h).dock = h.dock ∧ (Hub.eraseNext o n h).beacon = h.beacon
    ∧ (Hub.eraseNext o n h).load = h.load ∧ (Hub.eraseNext o n h).plan = h.plan
    ∧ (Hub.eraseNext o n h).power = h.power ∧ (Hub.eraseNext o n h).drive = h.drive
    ∧ (Hub.eraseNext o n h).att = h.att ∧ (Hub.eraseNext o n h).inReset = h.inReset
    ∧ (Hub.eraseNext o n h).freeDraws = h.freeDraws := by
  unfold Hub.eraseNext
  simp

@[simp] theorem Hub.saveNext_frame (o : SaveOp) :
    (Hub.saveNext o h).time = h.time ∧ (Hub.saveNext o h).table = h.table
    ∧ (Hub.saveNext o h).scanner = h.scanner ∧ (Hub.saveNext o h).lines = h.lines
    ∧ (Hub.saveNext o h).sensors = h.sensors ∧ (Hub.saveNext o h).queue = h.queue
    ∧ (Hub.saveNext o h).updater = h.updater ∧ (Hub.saveNext o h).odo = h.odo
    ∧ (Hub.saveNext o h).permit = h.permit ∧ (Hub.saveNext o h).route = h.route
    ∧ (Hub.saveNext o h).limits = h.limits ∧ (Hub.saveNext o h).trail = h.trail
    ∧ (Hub.saveNext o h).dock = h.dock ∧ (Hub.saveNext o h).beacon = h.beacon ∧ (Hub.saveNext o h).load = h.load
    ∧ (Hub.saveNext o h).plan = h.plan ∧ (Hub.saveNext o h).power = h.power ∧ (Hub.saveNext o h).drive = h.drive
    ∧ (Hub.saveNext o h).att = h.att ∧ (Hub.saveNext o h).inReset = h.inReset
    ∧ (Hub.saveNext o h).freeDraws = h.freeDraws := by
  unfold Hub.saveNext
  and_intros <;> (try dsimp only) <;> (repeat' split) <;> simp

@[simp] theorem Hub.pageDone_frame (k : Option Nat) (o : SaveOp) :
    (Hub.pageDone k o h).time = h.time ∧ (Hub.pageDone k o h).table = h.table
    ∧ (Hub.pageDone k o h).scanner = h.scanner ∧ (Hub.pageDone k o h).lines = h.lines
    ∧ (Hub.pageDone k o h).sensors = h.sensors ∧ (Hub.pageDone k o h).queue = h.queue
    ∧ (Hub.pageDone k o h).updater = h.updater ∧ (Hub.pageDone k o h).odo = h.odo
    ∧ (Hub.pageDone k o h).permit = h.permit ∧ (Hub.pageDone k o h).route = h.route
    ∧ (Hub.pageDone k o h).limits = h.limits ∧ (Hub.pageDone k o h).trail = h.trail
    ∧ (Hub.pageDone k o h).dock = h.dock ∧ (Hub.pageDone k o h).beacon = h.beacon ∧ (Hub.pageDone k o h).load = h.load
    ∧ (Hub.pageDone k o h).plan = h.plan ∧ (Hub.pageDone k o h).power = h.power ∧ (Hub.pageDone k o h).drive = h.drive
    ∧ (Hub.pageDone k o h).att = h.att ∧ (Hub.pageDone k o h).inReset = h.inReset
    ∧ (Hub.pageDone k o h).freeDraws = h.freeDraws := by
  unfold Hub.pageDone
  and_intros <;> (try dsimp only) <;> (repeat' split) <;> simp

@[simp] theorem Hub.saveReady_frame (o : SaveOp) :
    (Hub.saveReady o h).time = h.time ∧ (Hub.saveReady o h).table = h.table
    ∧ (Hub.saveReady o h).scanner = h.scanner ∧ (Hub.saveReady o h).lines = h.lines
    ∧ (Hub.saveReady o h).sensors = h.sensors ∧ (Hub.saveReady o h).limits = h.limits
    ∧ (Hub.saveReady o h).beacon = h.beacon ∧ (Hub.saveReady o h).load = h.load
    ∧ (Hub.saveReady o h).plan = h.plan ∧ (Hub.saveReady o h).power = h.power
    ∧ (Hub.saveReady o h).drive = h.drive ∧ (Hub.saveReady o h).inReset = h.inReset
    ∧ (Hub.saveReady o h).freeDraws = h.freeDraws := by
  unfold Hub.saveReady
  and_intros <;> (try dsimp only) <;> (repeat' split) <;> simp

@[simp] theorem Hub.saveGrant_frame :
    (Hub.saveGrant h).time = h.time ∧ (Hub.saveGrant h).table = h.table ∧ (Hub.saveGrant h).scanner = h.scanner
    ∧ (Hub.saveGrant h).lines = h.lines ∧ (Hub.saveGrant h).sensors = h.sensors
    ∧ (Hub.saveGrant h).queue = h.queue ∧ (Hub.saveGrant h).updater = h.updater ∧ (Hub.saveGrant h).odo = h.odo
    ∧ (Hub.saveGrant h).permit = h.permit ∧ (Hub.saveGrant h).route = h.route
    ∧ (Hub.saveGrant h).limits = h.limits ∧ (Hub.saveGrant h).trail = h.trail ∧ (Hub.saveGrant h).dock = h.dock
    ∧ (Hub.saveGrant h).beacon = h.beacon ∧ (Hub.saveGrant h).load = h.load ∧ (Hub.saveGrant h).plan = h.plan
    ∧ (Hub.saveGrant h).power = h.power ∧ (Hub.saveGrant h).drive = h.drive ∧ (Hub.saveGrant h).att = h.att
    ∧ (Hub.saveGrant h).inReset = h.inReset ∧ (Hub.saveGrant h).freeDraws = h.freeDraws := by
  unfold Hub.saveGrant
  and_intros <;> (try dsimp only) <;> (repeat' split) <;> simp

@[simp] theorem Hub.loadEnd_frame (o : LoadOp) :
    (Hub.loadEnd o h).time = h.time ∧ (Hub.loadEnd o h).table = h.table ∧ (Hub.loadEnd o h).scanner = h.scanner
    ∧ (Hub.loadEnd o h).lines = h.lines ∧ (Hub.loadEnd o h).sensors = h.sensors
    ∧ (Hub.loadEnd o h).limits = h.limits ∧ (Hub.loadEnd o h).beacon = h.beacon
    ∧ (Hub.loadEnd o h).load = h.load ∧ (Hub.loadEnd o h).flash = h.flash ∧ (Hub.loadEnd o h).plan = h.plan
    ∧ (Hub.loadEnd o h).power = h.power ∧ (Hub.loadEnd o h).drive = h.drive
    ∧ (Hub.loadEnd o h).inReset = h.inReset ∧ (Hub.loadEnd o h).freeDraws = h.freeDraws := by
  unfold Hub.loadEnd
  and_intros <;> (try dsimp only) <;> (repeat' split) <;> simp

@[simp] theorem Hub.fetchEntry_frame (o : LoadOp) (i : Nat) :
    (Hub.fetchEntry o i h).time = h.time ∧ (Hub.fetchEntry o i h).table = h.table
    ∧ (Hub.fetchEntry o i h).scanner = h.scanner ∧ (Hub.fetchEntry o i h).lines = h.lines
    ∧ (Hub.fetchEntry o i h).sensors = h.sensors ∧ (Hub.fetchEntry o i h).limits = h.limits
    ∧ (Hub.fetchEntry o i h).beacon = h.beacon ∧ (Hub.fetchEntry o i h).load = h.load
    ∧ (Hub.fetchEntry o i h).plan = h.plan ∧ (Hub.fetchEntry o i h).power = h.power
    ∧ (Hub.fetchEntry o i h).drive = h.drive ∧ (Hub.fetchEntry o i h).inReset = h.inReset
    ∧ (Hub.fetchEntry o i h).freeDraws = h.freeDraws := by
  unfold Hub.fetchEntry
  and_intros <;> (try dsimp only) <;> (repeat' split) <;> simp

@[simp] theorem Hub.removeNext_frame (o : LoadOp) (i : Nat) :
    (Hub.removeNext o i h).time = h.time ∧ (Hub.removeNext o i h).table = h.table
    ∧ (Hub.removeNext o i h).scanner = h.scanner ∧ (Hub.removeNext o i h).lines = h.lines
    ∧ (Hub.removeNext o i h).sensors = h.sensors ∧ (Hub.removeNext o i h).limits = h.limits
    ∧ (Hub.removeNext o i h).beacon = h.beacon ∧ (Hub.removeNext o i h).load = h.load
    ∧ (Hub.removeNext o i h).plan = h.plan ∧ (Hub.removeNext o i h).power = h.power
    ∧ (Hub.removeNext o i h).drive = h.drive ∧ (Hub.removeNext o i h).inReset = h.inReset
    ∧ (Hub.removeNext o i h).freeDraws = h.freeDraws := by
  unfold Hub.removeNext
  and_intros <;> (try dsimp only) <;> (repeat' split) <;> simp

@[simp] theorem Hub.judgeEntry_frame (o : LoadOp) (i : Nat) :
    (Hub.judgeEntry o i h).time = h.time ∧ (Hub.judgeEntry o i h).table = h.table
    ∧ (Hub.judgeEntry o i h).scanner = h.scanner ∧ (Hub.judgeEntry o i h).lines = h.lines
    ∧ (Hub.judgeEntry o i h).sensors = h.sensors ∧ (Hub.judgeEntry o i h).limits = h.limits
    ∧ (Hub.judgeEntry o i h).beacon = h.beacon ∧ (Hub.judgeEntry o i h).load = h.load
    ∧ (Hub.judgeEntry o i h).plan = h.plan ∧ (Hub.judgeEntry o i h).power = h.power
    ∧ (Hub.judgeEntry o i h).drive = h.drive ∧ (Hub.judgeEntry o i h).inReset = h.inReset
    ∧ (Hub.judgeEntry o i h).freeDraws = h.freeDraws := by
  unfold Hub.judgeEntry
  and_intros <;> (try dsimp only) <;> (repeat' split) <;> simp

@[simp] theorem Hub.loadRead_frame (o : LoadOp) (a : FlashAnswer) :
    (Hub.loadRead o a h).time = h.time ∧ (Hub.loadRead o a h).table = h.table
    ∧ (Hub.loadRead o a h).scanner = h.scanner ∧ (Hub.loadRead o a h).lines = h.lines
    ∧ (Hub.loadRead o a h).sensors = h.sensors ∧ (Hub.loadRead o a h).limits = h.limits
    ∧ (Hub.loadRead o a h).beacon = h.beacon ∧ (Hub.loadRead o a h).load = h.load
    ∧ (Hub.loadRead o a h).plan = h.plan ∧ (Hub.loadRead o a h).power = h.power
    ∧ (Hub.loadRead o a h).drive = h.drive ∧ (Hub.loadRead o a h).inReset = h.inReset
    ∧ (Hub.loadRead o a h).freeDraws = h.freeDraws := by
  unfold Hub.loadRead
  and_intros <;> (try dsimp only) <;> (repeat' split) <;> simp

@[simp] theorem Hub.removalGrant_frame :
    (Hub.removalGrant h).time = h.time ∧ (Hub.removalGrant h).scanner = h.scanner
    ∧ (Hub.removalGrant h).lines = h.lines ∧ (Hub.removalGrant h).sensors = h.sensors
    ∧ (Hub.removalGrant h).limits = h.limits ∧ (Hub.removalGrant h).beacon = h.beacon
    ∧ (Hub.removalGrant h).load = h.load ∧ (Hub.removalGrant h).plan = h.plan
    ∧ (Hub.removalGrant h).power = h.power ∧ (Hub.removalGrant h).drive = h.drive
    ∧ (Hub.removalGrant h).inReset = h.inReset ∧ (Hub.removalGrant h).freeDraws = h.freeDraws := by
  unfold Hub.removalGrant
  and_intros <;> (try dsimp only) <;> (repeat' split) <;> simp

@[simp] theorem Hub.insertGrant_frame :
    (Hub.insertGrant h).time = h.time ∧ (Hub.insertGrant h).scanner = h.scanner
    ∧ (Hub.insertGrant h).lines = h.lines ∧ (Hub.insertGrant h).sensors = h.sensors
    ∧ (Hub.insertGrant h).limits = h.limits ∧ (Hub.insertGrant h).beacon = h.beacon
    ∧ (Hub.insertGrant h).load = h.load ∧ (Hub.insertGrant h).plan = h.plan
    ∧ (Hub.insertGrant h).power = h.power ∧ (Hub.insertGrant h).drive = h.drive
    ∧ (Hub.insertGrant h).inReset = h.inReset ∧ (Hub.insertGrant h).freeDraws = h.freeDraws := by
  unfold Hub.insertGrant
  and_intros <;> (try dsimp only) <;> (repeat' split) <;> simp

end Sys2Proof.Machine
end

