-- ==== Sys2Proof/Laws/Sensing.lean ====
section
/-! SUPPORT. What the operations of the Floor Scanner and the Line Monitor leave as it was. -/

namespace Sys2Proof.Machine

set_option linter.unnecessarySeqFocus false
set_option linter.unusedTactic false
set_option linter.unreachableTactic false

variable (h : Hub)

@[simp] theorem Hub.noteClear_frame (l : List Item) :
    (Hub.noteClear l h).time = h.time ∧ (Hub.noteClear l h).table = h.table
    ∧ (Hub.noteClear l h).lines = h.lines ∧ (Hub.noteClear l h).sensors = h.sensors
    ∧ (Hub.noteClear l h).queue = h.queue ∧ (Hub.noteClear l h).updater = h.updater
    ∧ (Hub.noteClear l h).odo = h.odo ∧ (Hub.noteClear l h).permit = h.permit
    ∧ (Hub.noteClear l h).route = h.route ∧ (Hub.noteClear l h).limits = h.limits
    ∧ (Hub.noteClear l h).trail = h.trail ∧ (Hub.noteClear l h).dock = h.dock
    ∧ (Hub.noteClear l h).beacon = h.beacon ∧ (Hub.noteClear l h).load = h.load
    ∧ (Hub.noteClear l h).store = h.store ∧ (Hub.noteClear l h).flash = h.flash
    ∧ (Hub.noteClear l h).plan = h.plan ∧ (Hub.noteClear l h).power = h.power
    ∧ (Hub.noteClear l h).drive = h.drive ∧ (Hub.noteClear l h).att = h.att
    ∧ (Hub.noteClear l h).inReset = h.inReset ∧ (Hub.noteClear l h).freeDraws = h.freeDraws :=
  ⟨rfl, rfl, rfl, rfl, rfl, rfl, rfl, rfl, rfl, rfl, rfl, rfl, rfl, rfl, rfl, rfl, rfl, rfl, rfl, rfl, rfl, rfl⟩

@[simp] theorem Hub.boundary_frame :
    (Hub.boundary h).time = h.time ∧ (Hub.boundary h).table = h.table ∧ (Hub.boundary h).lines = h.lines
    ∧ (Hub.boundary h).sensors = h.sensors ∧ (Hub.boundary h).queue = h.queue
    ∧ (Hub.boundary h).updater = h.updater ∧ (Hub.boundary h).odo = h.odo ∧ (Hub.boundary h).permit = h.permit
    ∧ (Hub.boundary h).route = h.route ∧ (Hub.boundary h).limits = h.limits ∧ (Hub.boundary h).trail = h.trail
    ∧ (Hub.boundary h).dock = h.dock ∧ (Hub.boundary h).beacon = h.beacon ∧ (Hub.boundary h).load = h.load
    ∧ (Hub.boundary h).store = h.store ∧ (Hub.boundary h).flash = h.flash ∧ (Hub.boundary h).plan = h.plan
    ∧ (Hub.boundary h).power = h.power ∧ (Hub.boundary h).drive = h.drive ∧ (Hub.boundary h).att = h.att
    ∧ (Hub.boundary h).inReset = h.inReset ∧ (Hub.boundary h).freeDraws = h.freeDraws := by
  unfold Hub.boundary
  and_intros <;> (try dsimp only) <;> (repeat' split) <;> simp

@[simp] theorem Hub.blockEnd_frame :
    (Hub.blockEnd h).time = h.time ∧ (Hub.blockEnd h).table = h.table ∧ (Hub.blockEnd h).lines = h.lines
    ∧ (Hub.blockEnd h).sensors = h.sensors ∧ (Hub.blockEnd h).odo = h.odo ∧ (Hub.blockEnd h).route = h.route
    ∧ (Hub.blockEnd h).limits = h.limits ∧ (Hub.blockEnd h).trail = h.trail ∧ (Hub.blockEnd h).dock = h.dock
    ∧ (Hub.blockEnd h).beacon = h.beacon ∧ (Hub.blockEnd h).store = h.store ∧ (Hub.blockEnd h).flash = h.flash
    ∧ (Hub.blockEnd h).plan = h.plan ∧ (Hub.blockEnd h).power = h.power ∧ (Hub.blockEnd h).inReset = h.inReset
    ∧ (Hub.blockEnd h).freeDraws = h.freeDraws := by
  unfold Hub.blockEnd
  and_intros <;> (try dsimp only) <;> (repeat' split) <;> simp

@[simp] theorem Hub.endBlockEarly_frame :
    (Hub.endBlockEarly h).time = h.time ∧ (Hub.endBlockEarly h).table = h.table
    ∧ (Hub.endBlockEarly h).lines = h.lines ∧ (Hub.endBlockEarly h).sensors = h.sensors
    ∧ (Hub.endBlockEarly h).odo = h.odo ∧ (Hub.endBlockEarly h).route = h.route
    ∧ (Hub.endBlockEarly h).limits = h.limits ∧ (Hub.endBlockEarly h).trail = h.trail
    ∧ (Hub.endBlockEarly h).dock = h.dock ∧ (Hub.endBlockEarly h).beacon = h.beacon
    ∧ (Hub.endBlockEarly h).store = h.store ∧ (Hub.endBlockEarly h).flash = h.flash
    ∧ (Hub.endBlockEarly h).plan = h.plan ∧ (Hub.endBlockEarly h).power = h.power
    ∧ (Hub.endBlockEarly h).inReset = h.inReset ∧ (Hub.endBlockEarly h).freeDraws = h.freeDraws := by
  unfold Hub.endBlockEarly
  and_intros <;> (try dsimp only) <;> (repeat' split) <;> simp

@[simp] theorem Hub.scan_frame (g : ScanReading) :
    (Hub.scan g h).time = h.time ∧ (Hub.scan g h).table = h.table ∧ (Hub.scan g h).lines = h.lines
    ∧ (Hub.scan g h).sensors = h.sensors ∧ (Hub.scan g h).odo = h.odo ∧ (Hub.scan g h).route = h.route
    ∧ (Hub.scan g h).limits = h.limits ∧ (Hub.scan g h).trail = h.trail ∧ (Hub.scan g h).dock = h.dock
    ∧ (Hub.scan g h).beacon = h.beacon ∧ (Hub.scan g h).store = h.store ∧ (Hub.scan g h).flash = h.flash
    ∧ (Hub.scan g h).plan = h.plan ∧ (Hub.scan g h).power = h.power ∧ (Hub.scan g h).inReset = h.inReset
    ∧ (Hub.scan g h).freeDraws = h.freeDraws := by
  unfold Hub.scan
  and_intros <;> (try dsimp only) <;> (repeat' split) <;> simp

@[simp] theorem Hub.bumpAssert_frame (sd : Side) :
    (Hub.bumpAssert sd h).time = h.time ∧ (Hub.bumpAssert sd h).table = h.table
    ∧ (Hub.bumpAssert sd h).scanner = h.scanner ∧ (Hub.bumpAssert sd h).lines = h.lines
    ∧ (Hub.bumpAssert sd h).sensors = h.sensors ∧ (Hub.bumpAssert sd h).odo = h.odo
    ∧ (Hub.bumpAssert sd h).route = h.route ∧ (Hub.bumpAssert sd h).limits = h.limits
    ∧ (Hub.bumpAssert sd h).trail = h.trail ∧ (Hub.bumpAssert sd h).dock = h.dock
    ∧ (Hub.bumpAssert sd h).beacon = h.beacon ∧ (Hub.bumpAssert sd h).load = h.load
    ∧ (Hub.bumpAssert sd h).store = h.store ∧ (Hub.bumpAssert sd h).flash = h.flash
    ∧ (Hub.bumpAssert sd h).plan = h.plan ∧ (Hub.bumpAssert sd h).power = h.power
    ∧ (Hub.bumpAssert sd h).inReset = h.inReset ∧ (Hub.bumpAssert sd h).freeDraws = h.freeDraws := by
  unfold Hub.bumpAssert
  and_intros <;> (try dsimp only) <;> (repeat' split) <;> simp

@[simp] theorem Hub.timingAssert_frame :
    (Hub.timingAssert h).time = h.time ∧ (Hub.timingAssert h).table = h.table
    ∧ (Hub.timingAssert h).scanner = h.scanner ∧ (Hub.timingAssert h).sensors = h.sensors
    ∧ (Hub.timingAssert h).queue = h.queue ∧ (Hub.timingAssert h).updater = h.updater
    ∧ (Hub.timingAssert h).odo = h.odo ∧ (Hub.timingAssert h).permit = h.permit
    ∧ (Hub.timingAssert h).route = h.route ∧ (Hub.timingAssert h).limits = h.limits
    ∧ (Hub.timingAssert h).trail = h.trail ∧ (Hub.timingAssert h).dock = h.dock
    ∧ (Hub.timingAssert h).beacon = h.beacon ∧ (Hub.timingAssert h).load = h.load
    ∧ (Hub.timingAssert h).store = h.store ∧ (Hub.timingAssert h).flash = h.flash
    ∧ (Hub.timingAssert h).plan = h.plan ∧ (Hub.timingAssert h).power = h.power
    ∧ (Hub.timingAssert h).drive = h.drive ∧ (Hub.timingAssert h).att = h.att
    ∧ (Hub.timingAssert h).inReset = h.inReset ∧ (Hub.timingAssert h).freeDraws = h.freeDraws := by
  unfold Hub.timingAssert
  and_intros <;> (try dsimp only) <;> (repeat' split) <;> simp

@[simp] theorem Hub.timingRelease_frame :
    (Hub.timingRelease h).time = h.time ∧ (Hub.timingRelease h).table = h.table
    ∧ (Hub.timingRelease h).scanner = h.scanner ∧ (Hub.timingRelease h).sensors = h.sensors
    ∧ (Hub.timingRelease h).queue = h.queue ∧ (Hub.timingRelease h).updater = h.updater
    ∧ (Hub.timingRelease h).odo = h.odo ∧ (Hub.timingRelease h).permit = h.permit
    ∧ (Hub.timingRelease h).route = h.route ∧ (Hub.timingRelease h).limits = h.limits
    ∧ (Hub.timingRelease h).trail = h.trail ∧ (Hub.timingRelease h).dock = h.dock
    ∧ (Hub.timingRelease h).beacon = h.beacon ∧ (Hub.timingRelease h).load = h.load
    ∧ (Hub.timingRelease h).store = h.store ∧ (Hub.timingRelease h).flash = h.flash
    ∧ (Hub.timingRelease h).plan = h.plan ∧ (Hub.timingRelease h).power = h.power
    ∧ (Hub.timingRelease h).drive = h.drive ∧ (Hub.timingRelease h).att = h.att
    ∧ (Hub.timingRelease h).inReset = h.inReset ∧ (Hub.timingRelease h).freeDraws = h.freeDraws := by
  unfold Hub.timingRelease
  and_intros <;> (try dsimp only) <;> (repeat' split) <;> simp

@[simp] theorem Hub.dropAssert_frame (sd : Side) :
    (Hub.dropAssert sd h).time = h.time ∧ (Hub.dropAssert sd h).table = h.table
    ∧ (Hub.dropAssert sd h).sensors = h.sensors ∧ (Hub.dropAssert sd h).route = h.route
    ∧ (Hub.dropAssert sd h).limits = h.limits ∧ (Hub.dropAssert sd h).trail = h.trail
    ∧ (Hub.dropAssert sd h).dock = h.dock ∧ (Hub.dropAssert sd h).beacon = h.beacon
    ∧ (Hub.dropAssert sd h).store = h.store ∧ (Hub.dropAssert sd h).flash = h.flash
    ∧ (Hub.dropAssert sd h).plan = h.plan ∧ (Hub.dropAssert sd h).power = h.power
    ∧ (Hub.dropAssert sd h).inReset = h.inReset ∧ (Hub.dropAssert sd h).freeDraws = h.freeDraws := by
  unfold Hub.dropAssert
  simp

@[simp] theorem Hub.lineChanged_frame (l : Line) (b : Bool) :
    (Hub.lineChanged l b h).time = h.time ∧ (Hub.lineChanged l b h).table = h.table
    ∧ (Hub.lineChanged l b h).sensors = h.sensors ∧ (Hub.lineChanged l b h).route = h.route
    ∧ (Hub.lineChanged l b h).limits = h.limits ∧ (Hub.lineChanged l b h).trail = h.trail
    ∧ (Hub.lineChanged l b h).dock = h.dock ∧ (Hub.lineChanged l b h).beacon = h.beacon
    ∧ (Hub.lineChanged l b h).store = h.store ∧ (Hub.lineChanged l b h).flash = h.flash
    ∧ (Hub.lineChanged l b h).plan = h.plan ∧ (Hub.lineChanged l b h).power = h.power
    ∧ (Hub.lineChanged l b h).inReset = h.inReset ∧ (Hub.lineChanged l b h).freeDraws = h.freeDraws := by
  unfold Hub.lineChanged
  and_intros <;> (try dsimp only) <;> (repeat' split) <;> simp

@[simp] theorem Hub.sampleLine_frame (g : PerLine Bool) (l : Line) :
    (Hub.sampleLine g h l).time = h.time ∧ (Hub.sampleLine g h l).table = h.table
    ∧ (Hub.sampleLine g h l).sensors = h.sensors ∧ (Hub.sampleLine g h l).route = h.route
    ∧ (Hub.sampleLine g h l).limits = h.limits ∧ (Hub.sampleLine g h l).trail = h.trail
    ∧ (Hub.sampleLine g h l).dock = h.dock ∧ (Hub.sampleLine g h l).beacon = h.beacon
    ∧ (Hub.sampleLine g h l).store = h.store ∧ (Hub.sampleLine g h l).flash = h.flash
    ∧ (Hub.sampleLine g h l).plan = h.plan ∧ (Hub.sampleLine g h l).power = h.power
    ∧ (Hub.sampleLine g h l).inReset = h.inReset ∧ (Hub.sampleLine g h l).freeDraws = h.freeDraws := by
  unfold Hub.sampleLine
  and_intros <;> (try dsimp only) <;> (repeat' split) <;> simp

@[simp] theorem Hub.lineSample_frame (g : PerLine Bool) :
    (Hub.lineSample g h).time = h.time ∧ (Hub.lineSample g h).table = h.table
    ∧ (Hub.lineSample g h).sensors = h.sensors ∧ (Hub.lineSample g h).route = h.route
    ∧ (Hub.lineSample g h).limits = h.limits ∧ (Hub.lineSample g h).trail = h.trail
    ∧ (Hub.lineSample g h).dock = h.dock ∧ (Hub.lineSample g h).beacon = h.beacon
    ∧ (Hub.lineSample g h).store = h.store ∧ (Hub.lineSample g h).flash = h.flash
    ∧ (Hub.lineSample g h).plan = h.plan ∧ (Hub.lineSample g h).power = h.power
    ∧ (Hub.lineSample g h).inReset = h.inReset ∧ (Hub.lineSample g h).freeDraws = h.freeDraws := by
  unfold Hub.lineSample
  and_intros <;> (try dsimp only) <;> (repeat' split) <;> simp

end Sys2Proof.Machine
end

