-- ==== Sys2Proof/Laws/Clock.lean ====
section
/-! SUPPORT. What the expiries leave as it was. -/

namespace Sys2Proof.Machine

set_option linter.unnecessarySeqFocus false
set_option linter.unusedTactic false
set_option linter.unreachableTactic false

variable (h : Hub)

@[simp] theorem Hub.setDownExpired_frame :
    (Hub.setDownExpired h).time = h.time ∧ (Hub.setDownExpired h).table = h.table
    ∧ (Hub.setDownExpired h).sensors = h.sensors ∧ (Hub.setDownExpired h).queue = h.queue
    ∧ (Hub.setDownExpired h).updater = h.updater ∧ (Hub.setDownExpired h).route = h.route
    ∧ (Hub.setDownExpired h).limits = h.limits ∧ (Hub.setDownExpired h).trail = h.trail
    ∧ (Hub.setDownExpired h).dock = h.dock ∧ (Hub.setDownExpired h).beacon = h.beacon
    ∧ (Hub.setDownExpired h).store = h.store ∧ (Hub.setDownExpired h).flash = h.flash
    ∧ (Hub.setDownExpired h).plan = h.plan ∧ (Hub.setDownExpired h).power = h.power
    ∧ (Hub.setDownExpired h).inReset = h.inReset ∧ (Hub.setDownExpired h).freeDraws = h.freeDraws := by
  unfold Hub.setDownExpired
  and_intros <;> (try dsimp only) <;> (repeat' split) <;> simp

@[simp] theorem Hub.stopExpired_frame :
    (Hub.stopExpired h).time = h.time ∧ (Hub.stopExpired h).table = h.table
    ∧ (Hub.stopExpired h).scanner = h.scanner ∧ (Hub.stopExpired h).lines = h.lines
    ∧ (Hub.stopExpired h).sensors = h.sensors ∧ (Hub.stopExpired h).queue = h.queue
    ∧ (Hub.stopExpired h).updater = h.updater ∧ (Hub.stopExpired h).odo = h.odo
    ∧ (Hub.stopExpired h).route = h.route ∧ (Hub.stopExpired h).limits = h.limits
    ∧ (Hub.stopExpired h).trail = h.trail ∧ (Hub.stopExpired h).dock = h.dock
    ∧ (Hub.stopExpired h).beacon = h.beacon ∧ (Hub.stopExpired h).load = h.load
    ∧ (Hub.stopExpired h).store = h.store ∧ (Hub.stopExpired h).flash = h.flash
    ∧ (Hub.stopExpired h).plan = h.plan ∧ (Hub.stopExpired h).power = h.power
    ∧ (Hub.stopExpired h).drive = h.drive ∧ (Hub.stopExpired h).inReset = h.inReset
    ∧ (Hub.stopExpired h).freeDraws = h.freeDraws := by
  unfold Hub.stopExpired
  and_intros <;> (try dsimp only) <;> (repeat' split) <;> simp

@[simp] theorem Hub.leaseExpired_frame :
    (Hub.leaseExpired h).time = h.time ∧ (Hub.leaseExpired h).table = h.table
    ∧ (Hub.leaseExpired h).scanner = h.scanner ∧ (Hub.leaseExpired h).lines = h.lines
    ∧ (Hub.leaseExpired h).sensors = h.sensors ∧ (Hub.leaseExpired h).queue = h.queue
    ∧ (Hub.leaseExpired h).updater = h.updater ∧ (Hub.leaseExpired h).odo = h.odo
    ∧ (Hub.leaseExpired h).limits = h.limits ∧ (Hub.leaseExpired h).trail = h.trail
    ∧ (Hub.leaseExpired h).beacon = h.beacon ∧ (Hub.leaseExpired h).load = h.load
    ∧ (Hub.leaseExpired h).store = h.store ∧ (Hub.leaseExpired h).flash = h.flash
    ∧ (Hub.leaseExpired h).plan = h.plan ∧ (Hub.leaseExpired h).power = h.power
    ∧ (Hub.leaseExpired h).inReset = h.inReset ∧ (Hub.leaseExpired h).freeDraws = h.freeDraws := by
  unfold Hub.leaseExpired
  and_intros <;> (try dsimp only) <;> (repeat' split) <;> simp

@[simp] theorem Hub.freshnessExpired_frame (sd : Side) :
    (Hub.freshnessExpired sd h).time = h.time ∧ (Hub.freshnessExpired sd h).table = h.table
    ∧ (Hub.freshnessExpired sd h).scanner = h.scanner ∧ (Hub.freshnessExpired sd h).lines = h.lines
    ∧ (Hub.freshnessExpired sd h).sensors = h.sensors ∧ (Hub.freshnessExpired sd h).queue = h.queue
    ∧ (Hub.freshnessExpired sd h).updater = h.updater ∧ (Hub.freshnessExpired sd h).odo = h.odo
    ∧ (Hub.freshnessExpired sd h).permit = h.permit ∧ (Hub.freshnessExpired sd h).route = h.route
    ∧ (Hub.freshnessExpired sd h).limits = h.limits ∧ (Hub.freshnessExpired sd h).trail = h.trail
    ∧ (Hub.freshnessExpired sd h).load = h.load ∧ (Hub.freshnessExpired sd h).store = h.store
    ∧ (Hub.freshnessExpired sd h).flash = h.flash ∧ (Hub.freshnessExpired sd h).plan = h.plan
    ∧ (Hub.freshnessExpired sd h).power = h.power ∧ (Hub.freshnessExpired sd h).drive = h.drive
    ∧ (Hub.freshnessExpired sd h).att = h.att ∧ (Hub.freshnessExpired sd h).inReset = h.inReset
    ∧ (Hub.freshnessExpired sd h).freeDraws = h.freeDraws := by
  unfold Hub.freshnessExpired
  simp

end Sys2Proof.Machine
end

