-- ==== Sys2Proof/Laws/Link.lean ====
section
/-! SUPPORT. What the operations of the Drive link leave as it was. -/

namespace Sys2Proof.Machine

set_option linter.unnecessarySeqFocus false
set_option linter.unusedTactic false
set_option linter.unreachableTactic false

variable (h : Hub)

@[simp] theorem Hub.frameTaken_frame :
    (Hub.frameTaken h).time = h.time ∧ (Hub.frameTaken h).table = h.table
    ∧ (Hub.frameTaken h).scanner = h.scanner ∧ (Hub.frameTaken h).lines = h.lines
    ∧ (Hub.frameTaken h).sensors = h.sensors ∧ (Hub.frameTaken h).queue = h.queue
    ∧ (Hub.frameTaken h).updater = h.updater ∧ (Hub.frameTaken h).odo = h.odo
    ∧ (Hub.frameTaken h).permit = h.permit ∧ (Hub.frameTaken h).route = h.route
    ∧ (Hub.frameTaken h).limits = h.limits ∧ (Hub.frameTaken h).trail = h.trail
    ∧ (Hub.frameTaken h).dock = h.dock ∧ (Hub.frameTaken h).beacon = h.beacon ∧ (Hub.frameTaken h).load = h.load
    ∧ (Hub.frameTaken h).store = h.store ∧ (Hub.frameTaken h).flash = h.flash ∧ (Hub.frameTaken h).plan = h.plan
    ∧ (Hub.frameTaken h).power = h.power ∧ (Hub.frameTaken h).att = h.att
    ∧ (Hub.frameTaken h).inReset = h.inReset ∧ (Hub.frameTaken h).freeDraws = h.freeDraws :=
  ⟨rfl, rfl, rfl, rfl, rfl, rfl, rfl, rfl, rfl, rfl, rfl, rfl, rfl, rfl, rfl, rfl, rfl, rfl, rfl, rfl, rfl, rfl⟩

@[simp] theorem Hub.takeTicks_frame (a : AskFrame) :
    (Hub.takeTicks a h).time = h.time ∧ (Hub.takeTicks a h).table = h.table
    ∧ (Hub.takeTicks a h).lines = h.lines ∧ (Hub.takeTicks a h).sensors = h.sensors
    ∧ (Hub.takeTicks a h).limits = h.limits ∧ (Hub.takeTicks a h).beacon = h.beacon
    ∧ (Hub.takeTicks a h).store = h.store ∧ (Hub.takeTicks a h).flash = h.flash
    ∧ (Hub.takeTicks a h).plan = h.plan ∧ (Hub.takeTicks a h).power = h.power
    ∧ (Hub.takeTicks a h).inReset = h.inReset ∧ (Hub.takeTicks a h).freeDraws = h.freeDraws := by
  unfold Hub.takeTicks
  and_intros <;> (try dsimp only) <;> (repeat' split) <;> simp

@[simp] theorem Hub.ask_frame (a : AskFrame) :
    (Hub.ask a h).time = h.time ∧ (Hub.ask a h).table = h.table ∧ (Hub.ask a h).lines = h.lines
    ∧ (Hub.ask a h).sensors = h.sensors ∧ (Hub.ask a h).limits = h.limits ∧ (Hub.ask a h).beacon = h.beacon
    ∧ (Hub.ask a h).store = h.store ∧ (Hub.ask a h).flash = h.flash ∧ (Hub.ask a h).plan = h.plan
    ∧ (Hub.ask a h).power = h.power ∧ (Hub.ask a h).inReset = h.inReset ∧ (Hub.ask a h).freeDraws = h.freeDraws := by
  unfold Hub.ask
  and_intros <;> (try dsimp only) <;> (repeat' split) <;> simp

@[simp] theorem Hub.stopDone_frame :
    (Hub.stopDone h).time = h.time ∧ (Hub.stopDone h).table = h.table ∧ (Hub.stopDone h).scanner = h.scanner
    ∧ (Hub.stopDone h).lines = h.lines ∧ (Hub.stopDone h).sensors = h.sensors ∧ (Hub.stopDone h).queue = h.queue
    ∧ (Hub.stopDone h).updater = h.updater ∧ (Hub.stopDone h).odo = h.odo ∧ (Hub.stopDone h).route = h.route
    ∧ (Hub.stopDone h).limits = h.limits ∧ (Hub.stopDone h).trail = h.trail ∧ (Hub.stopDone h).dock = h.dock
    ∧ (Hub.stopDone h).beacon = h.beacon ∧ (Hub.stopDone h).load = h.load ∧ (Hub.stopDone h).store = h.store
    ∧ (Hub.stopDone h).flash = h.flash ∧ (Hub.stopDone h).plan = h.plan ∧ (Hub.stopDone h).power = h.power
    ∧ (Hub.stopDone h).drive = h.drive ∧ (Hub.stopDone h).att = h.att ∧ (Hub.stopDone h).inReset = h.inReset
    ∧ (Hub.stopDone h).freeDraws = h.freeDraws := by
  unfold Hub.stopDone
  and_intros <;> (try dsimp only) <;> (repeat' split) <;> simp

@[simp] theorem Hub.climbed_frame :
    (Hub.climbed h).time = h.time ∧ (Hub.climbed h).table = h.table ∧ (Hub.climbed h).scanner = h.scanner
    ∧ (Hub.climbed h).lines = h.lines ∧ (Hub.climbed h).sensors = h.sensors ∧ (Hub.climbed h).odo = h.odo
    ∧ (Hub.climbed h).permit = h.permit ∧ (Hub.climbed h).route = h.route ∧ (Hub.climbed h).limits = h.limits
    ∧ (Hub.climbed h).trail = h.trail ∧ (Hub.climbed h).dock = h.dock ∧ (Hub.climbed h).beacon = h.beacon
    ∧ (Hub.climbed h).load = h.load ∧ (Hub.climbed h).store = h.store ∧ (Hub.climbed h).flash = h.flash
    ∧ (Hub.climbed h).plan = h.plan ∧ (Hub.climbed h).power = h.power ∧ (Hub.climbed h).drive = h.drive
    ∧ (Hub.climbed h).inReset = h.inReset ∧ (Hub.climbed h).freeDraws = h.freeDraws := by
  unfold Hub.climbed
  simp

@[simp] theorem Hub.linkBreak_frame :
    (Hub.linkBreak h).time = h.time ∧ (Hub.linkBreak h).table = h.table ∧ (Hub.linkBreak h).scanner = h.scanner
    ∧ (Hub.linkBreak h).lines = h.lines ∧ (Hub.linkBreak h).sensors = h.sensors
    ∧ (Hub.linkBreak h).queue = h.queue ∧ (Hub.linkBreak h).updater = h.updater ∧ (Hub.linkBreak h).odo = h.odo
    ∧ (Hub.linkBreak h).route = h.route ∧ (Hub.linkBreak h).limits = h.limits
    ∧ (Hub.linkBreak h).trail = h.trail ∧ (Hub.linkBreak h).dock = h.dock ∧ (Hub.linkBreak h).beacon = h.beacon
    ∧ (Hub.linkBreak h).load = h.load ∧ (Hub.linkBreak h).store = h.store ∧ (Hub.linkBreak h).flash = h.flash
    ∧ (Hub.linkBreak h).plan = h.plan ∧ (Hub.linkBreak h).power = h.power
    ∧ (Hub.linkBreak h).inReset = h.inReset ∧ (Hub.linkBreak h).freeDraws = h.freeDraws := by
  unfold Hub.linkBreak
  simp

@[simp] theorem Hub.countBad_frame :
    (Hub.countBad h).time = h.time ∧ (Hub.countBad h).table = h.table ∧ (Hub.countBad h).scanner = h.scanner
    ∧ (Hub.countBad h).lines = h.lines ∧ (Hub.countBad h).sensors = h.sensors ∧ (Hub.countBad h).queue = h.queue
    ∧ (Hub.countBad h).updater = h.updater ∧ (Hub.countBad h).odo = h.odo ∧ (Hub.countBad h).permit = h.permit
    ∧ (Hub.countBad h).route = h.route ∧ (Hub.countBad h).limits = h.limits ∧ (Hub.countBad h).trail = h.trail
    ∧ (Hub.countBad h).dock = h.dock ∧ (Hub.countBad h).beacon = h.beacon ∧ (Hub.countBad h).load = h.load
    ∧ (Hub.countBad h).store = h.store ∧ (Hub.countBad h).flash = h.flash ∧ (Hub.countBad h).plan = h.plan
    ∧ (Hub.countBad h).power = h.power ∧ (Hub.countBad h).att = h.att ∧ (Hub.countBad h).inReset = h.inReset
    ∧ (Hub.countBad h).freeDraws = h.freeDraws :=
  ⟨rfl, rfl, rfl, rfl, rfl, rfl, rfl, rfl, rfl, rfl, rfl, rfl, rfl, rfl, rfl, rfl, rfl, rfl, rfl, rfl, rfl, rfl⟩

@[simp] theorem Hub.badFrame_frame :
    (Hub.badFrame h).time = h.time ∧ (Hub.badFrame h).table = h.table
    ∧ (Hub.badFrame h).scanner = h.scanner ∧ (Hub.badFrame h).lines = h.lines
    ∧ (Hub.badFrame h).sensors = h.sensors ∧ (Hub.badFrame h).queue = h.queue
    ∧ (Hub.badFrame h).updater = h.updater ∧ (Hub.badFrame h).odo = h.odo
    ∧ (Hub.badFrame h).route = h.route ∧ (Hub.badFrame h).limits = h.limits
    ∧ (Hub.badFrame h).trail = h.trail ∧ (Hub.badFrame h).dock = h.dock
    ∧ (Hub.badFrame h).beacon = h.beacon ∧ (Hub.badFrame h).load = h.load
    ∧ (Hub.badFrame h).store = h.store ∧ (Hub.badFrame h).flash = h.flash ∧ (Hub.badFrame h).plan = h.plan
    ∧ (Hub.badFrame h).power = h.power ∧ (Hub.badFrame h).inReset = h.inReset
    ∧ (Hub.badFrame h).freeDraws = h.freeDraws := by
  unfold Hub.badFrame
  and_intros <;> (try dsimp only) <;> (repeat' split) <;> simp

@[simp] theorem Hub.heldLow_frame (b : List LinkChar) :
    (Hub.heldLow b h).time = h.time ∧ (Hub.heldLow b h).table = h.table ∧ (Hub.heldLow b h).scanner = h.scanner
    ∧ (Hub.heldLow b h).lines = h.lines ∧ (Hub.heldLow b h).sensors = h.sensors
    ∧ (Hub.heldLow b h).queue = h.queue ∧ (Hub.heldLow b h).updater = h.updater ∧ (Hub.heldLow b h).odo = h.odo
    ∧ (Hub.heldLow b h).route = h.route ∧ (Hub.heldLow b h).limits = h.limits
    ∧ (Hub.heldLow b h).trail = h.trail ∧ (Hub.heldLow b h).dock = h.dock ∧ (Hub.heldLow b h).beacon = h.beacon
    ∧ (Hub.heldLow b h).load = h.load ∧ (Hub.heldLow b h).store = h.store ∧ (Hub.heldLow b h).flash = h.flash
    ∧ (Hub.heldLow b h).plan = h.plan ∧ (Hub.heldLow b h).power = h.power
    ∧ (Hub.heldLow b h).inReset = h.inReset ∧ (Hub.heldLow b h).freeDraws = h.freeDraws := by
  unfold Hub.heldLow
  cases h.drive.rx.follow b <;> and_intros <;> (try dsimp only [Option.elim]) <;> (repeat' split) <;> simp

@[simp] theorem Hub.frameSent_frame :
    (Hub.frameSent h).time = h.time ∧ (Hub.frameSent h).table = h.table ∧ (Hub.frameSent h).scanner = h.scanner
    ∧ (Hub.frameSent h).lines = h.lines ∧ (Hub.frameSent h).sensors = h.sensors
    ∧ (Hub.frameSent h).queue = h.queue ∧ (Hub.frameSent h).updater = h.updater ∧ (Hub.frameSent h).odo = h.odo
    ∧ (Hub.frameSent h).permit = h.permit ∧ (Hub.frameSent h).route = h.route
    ∧ (Hub.frameSent h).limits = h.limits ∧ (Hub.frameSent h).trail = h.trail ∧ (Hub.frameSent h).dock = h.dock
    ∧ (Hub.frameSent h).beacon = h.beacon ∧ (Hub.frameSent h).load = h.load ∧ (Hub.frameSent h).store = h.store
    ∧ (Hub.frameSent h).flash = h.flash ∧ (Hub.frameSent h).plan = h.plan ∧ (Hub.frameSent h).power = h.power
    ∧ (Hub.frameSent h).att = h.att ∧ (Hub.frameSent h).inReset = h.inReset
    ∧ (Hub.frameSent h).freeDraws = h.freeDraws := by
  unfold Hub.frameSent
  and_intros <;> (try dsimp only) <;> (repeat' split) <;> simp

/-- Short of a break a bad frame is counted, and nothing more. -/
theorem Hub.badFrame_counts (e : h.drive.up = false ∨ h.drive.badRun < 7) : h.badFrame = h.countBad := by
  have hc : ¬ ((h.countBad.drive.up && decide (h.countBad.drive.badRun = 8)) = true) := by
    rw [Bool.and_eq_true, decide_eq_true_eq]
    rintro ⟨hu, hb⟩
    change h.drive.up = true at hu
    change min (h.drive.badRun + 1) 8 = 8 at hb
    rcases e with e | e
    · simp [hu] at e
    · omega
  exact if_neg hc

/-- While UP, the eighth bad frame in a row breaks the link once it is counted. -/
theorem Hub.badFrame_breaks (hu : h.drive.up = true) (hb : 7 ≤ h.drive.badRun) : h.badFrame = h.countBad.linkBreak := by
  have hc : (h.countBad.drive.up && decide (h.countBad.drive.badRun = 8)) = true := by
    rw [Bool.and_eq_true, decide_eq_true_eq]
    exact ⟨hu, show min (h.drive.badRun + 1) 8 = 8 by omega⟩
  exact if_pos hc

end Sys2Proof.Machine
end

