-- ==== Sys2Proof/Laws/Eyes.lean ====
section
/-! SUPPORT. What the operations of the Beacon Receiver leave as it was. -/

namespace Sys2Proof.Machine

set_option linter.unnecessarySeqFocus false
set_option linter.unusedTactic false
set_option linter.unreachableTactic false

variable (h : Hub)

@[simp] theorem Hub.setEye_frame (sd : Side) (e : Eye) :
    (Hub.setEye sd e h).time = h.time ∧ (Hub.setEye sd e h).table = h.table
    ∧ (Hub.setEye sd e h).scanner = h.scanner ∧ (Hub.setEye sd e h).lines = h.lines
    ∧ (Hub.setEye sd e h).sensors = h.sensors ∧ (Hub.setEye sd e h).queue = h.queue
    ∧ (Hub.setEye sd e h).updater = h.updater ∧ (Hub.setEye sd e h).odo = h.odo
    ∧ (Hub.setEye sd e h).permit = h.permit ∧ (Hub.setEye sd e h).route = h.route
    ∧ (Hub.setEye sd e h).limits = h.limits ∧ (Hub.setEye sd e h).trail = h.trail
    ∧ (Hub.setEye sd e h).dock = h.dock ∧ (Hub.setEye sd e h).load = h.load
    ∧ (Hub.setEye sd e h).store = h.store ∧ (Hub.setEye sd e h).flash = h.flash
    ∧ (Hub.setEye sd e h).plan = h.plan ∧ (Hub.setEye sd e h).power = h.power
    ∧ (Hub.setEye sd e h).drive = h.drive ∧ (Hub.setEye sd e h).att = h.att
    ∧ (Hub.setEye sd e h).inReset = h.inReset ∧ (Hub.setEye sd e h).freeDraws = h.freeDraws :=
  ⟨rfl, rfl, rfl, rfl, rfl, rfl, rfl, rfl, rfl, rfl, rfl, rfl, rfl, rfl, rfl, rfl, rfl, rfl, rfl, rfl, rfl, rfl⟩

@[simp] theorem Hub.uprightFrame_frame (sd : Side) (p : BitVec 16) (c : FieldCode) :
    (Hub.uprightFrame sd p c h).time = h.time ∧ (Hub.uprightFrame sd p c h).table = h.table
    ∧ (Hub.uprightFrame sd p c h).scanner = h.scanner ∧ (Hub.uprightFrame sd p c h).lines = h.lines
    ∧ (Hub.uprightFrame sd p c h).sensors = h.sensors ∧ (Hub.uprightFrame sd p c h).queue = h.queue
    ∧ (Hub.uprightFrame sd p c h).updater = h.updater ∧ (Hub.uprightFrame sd p c h).odo = h.odo
    ∧ (Hub.uprightFrame sd p c h).permit = h.permit ∧ (Hub.uprightFrame sd p c h).route = h.route
    ∧ (Hub.uprightFrame sd p c h).limits = h.limits ∧ (Hub.uprightFrame sd p c h).trail = h.trail
    ∧ (Hub.uprightFrame sd p c h).load = h.load ∧ (Hub.uprightFrame sd p c h).store = h.store
    ∧ (Hub.uprightFrame sd p c h).flash = h.flash ∧ (Hub.uprightFrame sd p c h).plan = h.plan
    ∧ (Hub.uprightFrame sd p c h).power = h.power ∧ (Hub.uprightFrame sd p c h).drive = h.drive
    ∧ (Hub.uprightFrame sd p c h).inReset = h.inReset ∧ (Hub.uprightFrame sd p c h).freeDraws = h.freeDraws := by
  unfold Hub.uprightFrame
  and_intros <;> (try dsimp only) <;> (repeat' split) <;> simp

@[simp] theorem Hub.primaryFrame_frame (sd : Side) (p : BitVec 16) :
    (Hub.primaryFrame sd p h).time = h.time ∧ (Hub.primaryFrame sd p h).table = h.table
    ∧ (Hub.primaryFrame sd p h).scanner = h.scanner ∧ (Hub.primaryFrame sd p h).lines = h.lines
    ∧ (Hub.primaryFrame sd p h).sensors = h.sensors ∧ (Hub.primaryFrame sd p h).queue = h.queue
    ∧ (Hub.primaryFrame sd p h).updater = h.updater ∧ (Hub.primaryFrame sd p h).odo = h.odo
    ∧ (Hub.primaryFrame sd p h).permit = h.permit ∧ (Hub.primaryFrame sd p h).route = h.route
    ∧ (Hub.primaryFrame sd p h).limits = h.limits ∧ (Hub.primaryFrame sd p h).trail = h.trail
    ∧ (Hub.primaryFrame sd p h).load = h.load ∧ (Hub.primaryFrame sd p h).store = h.store
    ∧ (Hub.primaryFrame sd p h).flash = h.flash ∧ (Hub.primaryFrame sd p h).plan = h.plan
    ∧ (Hub.primaryFrame sd p h).power = h.power ∧ (Hub.primaryFrame sd p h).drive = h.drive
    ∧ (Hub.primaryFrame sd p h).inReset = h.inReset ∧ (Hub.primaryFrame sd p h).freeDraws = h.freeDraws := by
  unfold Hub.primaryFrame
  and_intros <;> (try dsimp only) <;> (repeat' split) <;> simp

@[simp] theorem Hub.flipEye_frame (sd : Side) :
    (Hub.flipEye sd h).time = h.time ∧ (Hub.flipEye sd h).table = h.table
    ∧ (Hub.flipEye sd h).scanner = h.scanner ∧ (Hub.flipEye sd h).lines = h.lines
    ∧ (Hub.flipEye sd h).sensors = h.sensors ∧ (Hub.flipEye sd h).queue = h.queue
    ∧ (Hub.flipEye sd h).updater = h.updater ∧ (Hub.flipEye sd h).odo = h.odo
    ∧ (Hub.flipEye sd h).permit = h.permit ∧ (Hub.flipEye sd h).route = h.route
    ∧ (Hub.flipEye sd h).limits = h.limits ∧ (Hub.flipEye sd h).trail = h.trail
    ∧ (Hub.flipEye sd h).dock = h.dock ∧ (Hub.flipEye sd h).load = h.load ∧ (Hub.flipEye sd h).store = h.store
    ∧ (Hub.flipEye sd h).flash = h.flash ∧ (Hub.flipEye sd h).plan = h.plan ∧ (Hub.flipEye sd h).power = h.power
    ∧ (Hub.flipEye sd h).drive = h.drive ∧ (Hub.flipEye sd h).inReset = h.inReset
    ∧ (Hub.flipEye sd h).freeDraws = h.freeDraws := by
  unfold Hub.flipEye
  simp

@[simp] theorem Hub.shadowFrame_frame (sd : Side) (p : BitVec 16) (b : Bool) :
    (Hub.shadowFrame sd p b h).time = h.time ∧ (Hub.shadowFrame sd p b h).table = h.table
    ∧ (Hub.shadowFrame sd p b h).scanner = h.scanner ∧ (Hub.shadowFrame sd p b h).lines = h.lines
    ∧ (Hub.shadowFrame sd p b h).sensors = h.sensors ∧ (Hub.shadowFrame sd p b h).queue = h.queue
    ∧ (Hub.shadowFrame sd p b h).updater = h.updater ∧ (Hub.shadowFrame sd p b h).odo = h.odo
    ∧ (Hub.shadowFrame sd p b h).permit = h.permit ∧ (Hub.shadowFrame sd p b h).route = h.route
    ∧ (Hub.shadowFrame sd p b h).limits = h.limits ∧ (Hub.shadowFrame sd p b h).trail = h.trail
    ∧ (Hub.shadowFrame sd p b h).dock = h.dock ∧ (Hub.shadowFrame sd p b h).load = h.load
    ∧ (Hub.shadowFrame sd p b h).store = h.store ∧ (Hub.shadowFrame sd p b h).flash = h.flash
    ∧ (Hub.shadowFrame sd p b h).plan = h.plan ∧ (Hub.shadowFrame sd p b h).power = h.power
    ∧ (Hub.shadowFrame sd p b h).drive = h.drive ∧ (Hub.shadowFrame sd p b h).inReset = h.inReset
    ∧ (Hub.shadowFrame sd p b h).freeDraws = h.freeDraws := by
  unfold Hub.shadowFrame
  and_intros <;> (try dsimp only) <;> (repeat' split) <;> simp

@[simp] theorem Hub.element_frame (sd : Side) (b : Bool) (n : Nat) :
    (Hub.element sd b n h).time = h.time ∧ (Hub.element sd b n h).table = h.table
    ∧ (Hub.element sd b n h).scanner = h.scanner ∧ (Hub.element sd b n h).lines = h.lines
    ∧ (Hub.element sd b n h).sensors = h.sensors ∧ (Hub.element sd b n h).queue = h.queue
    ∧ (Hub.element sd b n h).updater = h.updater ∧ (Hub.element sd b n h).odo = h.odo
    ∧ (Hub.element sd b n h).permit = h.permit ∧ (Hub.element sd b n h).route = h.route
    ∧ (Hub.element sd b n h).limits = h.limits ∧ (Hub.element sd b n h).trail = h.trail
    ∧ (Hub.element sd b n h).load = h.load ∧ (Hub.element sd b n h).store = h.store
    ∧ (Hub.element sd b n h).flash = h.flash ∧ (Hub.element sd b n h).plan = h.plan
    ∧ (Hub.element sd b n h).power = h.power ∧ (Hub.element sd b n h).drive = h.drive
    ∧ (Hub.element sd b n h).inReset = h.inReset ∧ (Hub.element sd b n h).freeDraws = h.freeDraws := by
  unfold Hub.element
  and_intros <;> dsimp only [Option.elim] <;> (repeat' split) <;> simp

end Sys2Proof.Machine
end

