-- ==== Sys2Proof/Laws/Ports.lean ====
section
/-! SUPPORT. What replies, reads and the requests about flags and counters leave as it was. -/

namespace Sys2Proof.Machine

set_option linter.unnecessarySeqFocus false
set_option linter.unusedTactic false
set_option linter.unreachableTactic false

variable (h : Hub)

@[simp] theorem Hub.planReply_frame (r : Reply) :
    (Hub.planReply r h).time = h.time ∧ (Hub.planReply r h).table = h.table
    ∧ (Hub.planReply r h).scanner = h.scanner ∧ (Hub.planReply r h).lines = h.lines
    ∧ (Hub.planReply r h).sensors = h.sensors ∧ (Hub.planReply r h).queue = h.queue
    ∧ (Hub.planReply r h).updater = h.updater ∧ (Hub.planReply r h).odo = h.odo
    ∧ (Hub.planReply r h).permit = h.permit ∧ (Hub.planReply r h).route = h.route
    ∧ (Hub.planReply r h).limits = h.limits ∧ (Hub.planReply r h).trail = h.trail
    ∧ (Hub.planReply r h).dock = h.dock ∧ (Hub.planReply r h).beacon = h.beacon
    ∧ (Hub.planReply r h).load = h.load ∧ (Hub.planReply r h).store = h.store
    ∧ (Hub.planReply r h).flash = h.flash ∧ (Hub.planReply r h).power = h.power
    ∧ (Hub.planReply r h).drive = h.drive ∧ (Hub.planReply r h).inReset = h.inReset
    ∧ (Hub.planReply r h).freeDraws = h.freeDraws :=
  ⟨rfl, rfl, rfl, rfl, rfl, rfl, rfl, rfl, rfl, rfl, rfl, rfl, rfl, rfl, rfl, rfl, rfl, rfl, rfl, rfl, rfl⟩

@[simp] theorem Hub.powerReply_frame (r : Reply) :
    (Hub.powerReply r h).time = h.time ∧ (Hub.powerReply r h).table = h.table
    ∧ (Hub.powerReply r h).scanner = h.scanner ∧ (Hub.powerReply r h).lines = h.lines
    ∧ (Hub.powerReply r h).sensors = h.sensors ∧ (Hub.powerReply r h).queue = h.queue
    ∧ (Hub.powerReply r h).updater = h.updater ∧ (Hub.powerReply r h).odo = h.odo
    ∧ (Hub.powerReply r h).permit = h.permit ∧ (Hub.powerReply r h).route = h.route
    ∧ (Hub.powerReply r h).limits = h.limits ∧ (Hub.powerReply r h).trail = h.trail
    ∧ (Hub.powerReply r h).dock = h.dock ∧ (Hub.powerReply r h).beacon = h.beacon
    ∧ (Hub.powerReply r h).load = h.load ∧ (Hub.powerReply r h).store = h.store
    ∧ (Hub.powerReply r h).flash = h.flash ∧ (Hub.powerReply r h).plan = h.plan
    ∧ (Hub.powerReply r h).drive = h.drive ∧ (Hub.powerReply r h).inReset = h.inReset
    ∧ (Hub.powerReply r h).freeDraws = h.freeDraws :=
  ⟨rfl, rfl, rfl, rfl, rfl, rfl, rfl, rfl, rfl, rfl, rfl, rfl, rfl, rfl, rfl, rfl, rfl, rfl, rfl, rfl, rfl⟩

@[simp] theorem Hub.reply_frame (p : Port) (r : Reply) :
    (Hub.reply p r h).time = h.time ∧ (Hub.reply p r h).table = h.table ∧ (Hub.reply p r h).scanner = h.scanner
    ∧ (Hub.reply p r h).lines = h.lines ∧ (Hub.reply p r h).sensors = h.sensors
    ∧ (Hub.reply p r h).queue = h.queue ∧ (Hub.reply p r h).updater = h.updater ∧ (Hub.reply p r h).odo = h.odo
    ∧ (Hub.reply p r h).permit = h.permit ∧ (Hub.reply p r h).route = h.route
    ∧ (Hub.reply p r h).limits = h.limits ∧ (Hub.reply p r h).trail = h.trail ∧ (Hub.reply p r h).dock = h.dock
    ∧ (Hub.reply p r h).beacon = h.beacon ∧ (Hub.reply p r h).load = h.load ∧ (Hub.reply p r h).store = h.store
    ∧ (Hub.reply p r h).flash = h.flash ∧ (Hub.reply p r h).drive = h.drive
    ∧ (Hub.reply p r h).inReset = h.inReset ∧ (Hub.reply p r h).freeDraws = h.freeDraws := by
  unfold Hub.reply
  and_intros <;> (try dsimp only) <;> (repeat' split) <;> simp

@[simp] theorem Hub.done_frame (p : Port) (c : Byte) (l : List Byte) :
    (Hub.done p c l h).time = h.time ∧ (Hub.done p c l h).table = h.table
    ∧ (Hub.done p c l h).scanner = h.scanner ∧ (Hub.done p c l h).lines = h.lines
    ∧ (Hub.done p c l h).sensors = h.sensors ∧ (Hub.done p c l h).queue = h.queue
    ∧ (Hub.done p c l h).updater = h.updater ∧ (Hub.done p c l h).odo = h.odo
    ∧ (Hub.done p c l h).permit = h.permit ∧ (Hub.done p c l h).route = h.route
    ∧ (Hub.done p c l h).limits = h.limits ∧ (Hub.done p c l h).trail = h.trail
    ∧ (Hub.done p c l h).dock = h.dock ∧ (Hub.done p c l h).beacon = h.beacon ∧ (Hub.done p c l h).load = h.load
    ∧ (Hub.done p c l h).store = h.store ∧ (Hub.done p c l h).flash = h.flash
    ∧ (Hub.done p c l h).drive = h.drive ∧ (Hub.done p c l h).inReset = h.inReset
    ∧ (Hub.done p c l h).freeDraws = h.freeDraws := by
  unfold Hub.done
  simp

@[simp] theorem Hub.deny_frame (p : Port) (c : Byte) (st : Status) :
    (Hub.deny p c st h).time = h.time ∧ (Hub.deny p c st h).table = h.table
    ∧ (Hub.deny p c st h).scanner = h.scanner ∧ (Hub.deny p c st h).lines = h.lines
    ∧ (Hub.deny p c st h).sensors = h.sensors ∧ (Hub.deny p c st h).queue = h.queue
    ∧ (Hub.deny p c st h).updater = h.updater ∧ (Hub.deny p c st h).odo = h.odo
    ∧ (Hub.deny p c st h).permit = h.permit ∧ (Hub.deny p c st h).route = h.route
    ∧ (Hub.deny p c st h).limits = h.limits ∧ (Hub.deny p c st h).trail = h.trail
    ∧ (Hub.deny p c st h).dock = h.dock ∧ (Hub.deny p c st h).beacon = h.beacon
    ∧ (Hub.deny p c st h).load = h.load ∧ (Hub.deny p c st h).store = h.store
    ∧ (Hub.deny p c st h).flash = h.flash ∧ (Hub.deny p c st h).drive = h.drive
    ∧ (Hub.deny p c st h).inReset = h.inReset ∧ (Hub.deny p c st h).freeDraws = h.freeDraws := by
  unfold Hub.deny
  simp

@[simp] theorem Hub.renewLease_frame :
    (Hub.renewLease h).time = h.time ∧ (Hub.renewLease h).table = h.table
    ∧ (Hub.renewLease h).scanner = h.scanner ∧ (Hub.renewLease h).lines = h.lines
    ∧ (Hub.renewLease h).sensors = h.sensors ∧ (Hub.renewLease h).queue = h.queue
    ∧ (Hub.renewLease h).updater = h.updater ∧ (Hub.renewLease h).odo = h.odo
    ∧ (Hub.renewLease h).permit = h.permit ∧ (Hub.renewLease h).limits = h.limits
    ∧ (Hub.renewLease h).trail = h.trail ∧ (Hub.renewLease h).dock = h.dock
    ∧ (Hub.renewLease h).beacon = h.beacon ∧ (Hub.renewLease h).load = h.load
    ∧ (Hub.renewLease h).store = h.store ∧ (Hub.renewLease h).flash = h.flash ∧ (Hub.renewLease h).plan = h.plan
    ∧ (Hub.renewLease h).power = h.power ∧ (Hub.renewLease h).drive = h.drive ∧ (Hub.renewLease h).att = h.att
    ∧ (Hub.renewLease h).inReset = h.inReset ∧ (Hub.renewLease h).freeDraws = h.freeDraws := by
  unfold Hub.renewLease
  and_intros <;> (try dsimp only) <;> (repeat' split) <;> simp

@[simp] theorem Hub.planRead_frame (n : Nat) :
    (Hub.planRead n h).time = h.time ∧ (Hub.planRead n h).table = h.table
    ∧ (Hub.planRead n h).scanner = h.scanner ∧ (Hub.planRead n h).lines = h.lines
    ∧ (Hub.planRead n h).sensors = h.sensors ∧ (Hub.planRead n h).queue = h.queue
    ∧ (Hub.planRead n h).updater = h.updater ∧ (Hub.planRead n h).odo = h.odo
    ∧ (Hub.planRead n h).permit = h.permit ∧ (Hub.planRead n h).route = h.route
    ∧ (Hub.planRead n h).limits = h.limits ∧ (Hub.planRead n h).trail = h.trail
    ∧ (Hub.planRead n h).dock = h.dock ∧ (Hub.planRead n h).beacon = h.beacon ∧ (Hub.planRead n h).load = h.load
    ∧ (Hub.planRead n h).store = h.store ∧ (Hub.planRead n h).flash = h.flash
    ∧ (Hub.planRead n h).power = h.power ∧ (Hub.planRead n h).drive = h.drive
    ∧ (Hub.planRead n h).inReset = h.inReset ∧ (Hub.planRead n h).freeDraws = h.freeDraws := by
  unfold Hub.planRead
  and_intros <;> (try dsimp only) <;> (repeat' split) <;> simp

@[simp] theorem Hub.powerRead_frame (n : Nat) :
    (Hub.powerRead n h).time = h.time ∧ (Hub.powerRead n h).table = h.table
    ∧ (Hub.powerRead n h).scanner = h.scanner ∧ (Hub.powerRead n h).lines = h.lines
    ∧ (Hub.powerRead n h).sensors = h.sensors ∧ (Hub.powerRead n h).queue = h.queue
    ∧ (Hub.powerRead n h).updater = h.updater ∧ (Hub.powerRead n h).odo = h.odo
    ∧ (Hub.powerRead n h).permit = h.permit ∧ (Hub.powerRead n h).route = h.route
    ∧ (Hub.powerRead n h).limits = h.limits ∧ (Hub.powerRead n h).trail = h.trail
    ∧ (Hub.powerRead n h).dock = h.dock ∧ (Hub.powerRead n h).beacon = h.beacon
    ∧ (Hub.powerRead n h).load = h.load ∧ (Hub.powerRead n h).store = h.store
    ∧ (Hub.powerRead n h).flash = h.flash ∧ (Hub.powerRead n h).plan = h.plan
    ∧ (Hub.powerRead n h).drive = h.drive ∧ (Hub.powerRead n h).inReset = h.inReset
    ∧ (Hub.powerRead n h).freeDraws = h.freeDraws := by
  unfold Hub.powerRead
  and_intros <;> (try dsimp only) <;> (repeat' split) <;> simp

@[simp] theorem Hub.takeFlags_frame (p : Port) (l : List Byte) :
    (Hub.takeFlags p l h).time = h.time ∧ (Hub.takeFlags p l h).table = h.table
    ∧ (Hub.takeFlags p l h).scanner = h.scanner ∧ (Hub.takeFlags p l h).lines = h.lines
    ∧ (Hub.takeFlags p l h).sensors = h.sensors ∧ (Hub.takeFlags p l h).queue = h.queue
    ∧ (Hub.takeFlags p l h).updater = h.updater ∧ (Hub.takeFlags p l h).odo = h.odo
    ∧ (Hub.takeFlags p l h).permit = h.permit ∧ (Hub.takeFlags p l h).route = h.route
    ∧ (Hub.takeFlags p l h).limits = h.limits ∧ (Hub.takeFlags p l h).trail = h.trail
    ∧ (Hub.takeFlags p l h).dock = h.dock ∧ (Hub.takeFlags p l h).beacon = h.beacon
    ∧ (Hub.takeFlags p l h).load = h.load ∧ (Hub.takeFlags p l h).store = h.store
    ∧ (Hub.takeFlags p l h).flash = h.flash ∧ (Hub.takeFlags p l h).drive = h.drive
    ∧ (Hub.takeFlags p l h).inReset = h.inReset ∧ (Hub.takeFlags p l h).freeDraws = h.freeDraws := by
  unfold Hub.takeFlags
  and_intros <;> (try dsimp only) <;> (repeat' split) <;> simp

@[simp] theorem Hub.setMask_frame (l : List Byte) :
    (Hub.setMask l h).time = h.time ∧ (Hub.setMask l h).table = h.table ∧ (Hub.setMask l h).scanner = h.scanner
    ∧ (Hub.setMask l h).lines = h.lines ∧ (Hub.setMask l h).sensors = h.sensors
    ∧ (Hub.setMask l h).queue = h.queue ∧ (Hub.setMask l h).updater = h.updater ∧ (Hub.setMask l h).odo = h.odo
    ∧ (Hub.setMask l h).permit = h.permit ∧ (Hub.setMask l h).route = h.route
    ∧ (Hub.setMask l h).limits = h.limits ∧ (Hub.setMask l h).trail = h.trail ∧ (Hub.setMask l h).dock = h.dock
    ∧ (Hub.setMask l h).beacon = h.beacon ∧ (Hub.setMask l h).load = h.load ∧ (Hub.setMask l h).store = h.store
    ∧ (Hub.setMask l h).flash = h.flash ∧ (Hub.setMask l h).drive = h.drive
    ∧ (Hub.setMask l h).inReset = h.inReset ∧ (Hub.setMask l h).freeDraws = h.freeDraws := by
  unfold Hub.setMask
  and_intros <;> (try dsimp only) <;> (repeat' split) <;> simp

@[simp] theorem Hub.clearCounters_frame :
    (Hub.clearCounters h).time = h.time ∧ (Hub.clearCounters h).scanner = h.scanner
    ∧ (Hub.clearCounters h).lines = h.lines ∧ (Hub.clearCounters h).sensors = h.sensors
    ∧ (Hub.clearCounters h).odo = h.odo ∧ (Hub.clearCounters h).route = h.route
    ∧ (Hub.clearCounters h).limits = h.limits ∧ (Hub.clearCounters h).trail = h.trail
    ∧ (Hub.clearCounters h).dock = h.dock ∧ (Hub.clearCounters h).load = h.load
    ∧ (Hub.clearCounters h).store = h.store ∧ (Hub.clearCounters h).flash = h.flash
    ∧ (Hub.clearCounters h).plan = h.plan ∧ (Hub.clearCounters h).power = h.power
    ∧ (Hub.clearCounters h).inReset = h.inReset ∧ (Hub.clearCounters h).freeDraws = h.freeDraws :=
  ⟨rfl, rfl, rfl, rfl, rfl, rfl, rfl, rfl, rfl, rfl, rfl, rfl, rfl, rfl, rfl, rfl⟩

end Sys2Proof.Machine
end

