-- ==== Sys2Proof/Laws/Requests.lean ====
section
/-! SUPPORT. What the requests that are answered when they are taken leave as it was. -/

namespace Sys2Proof.Machine

set_option linter.unnecessarySeqFocus false
set_option linter.unusedTactic false
set_option linter.unreachableTactic false

variable (h : Hub)

@[simp] theorem Hub.releaseLease_frame (n : Nat) :
    (Hub.releaseLease n h).time = h.time ∧ (Hub.releaseLease n h).table = h.table
    ∧ (Hub.releaseLease n h).scanner = h.scanner ∧ (Hub.releaseLease n h).lines = h.lines
    ∧ (Hub.releaseLease n h).sensors = h.sensors ∧ (Hub.releaseLease n h).queue = h.queue
    ∧ (Hub.releaseLease n h).updater = h.updater ∧ (Hub.releaseLease n h).odo = h.odo
    ∧ (Hub.releaseLease n h).permit = h.permit ∧ (Hub.releaseLease n h).limits = h.limits
    ∧ (Hub.releaseLease n h).trail = h.trail ∧ (Hub.releaseLease n h).dock = h.dock
    ∧ (Hub.releaseLease n h).beacon = h.beacon ∧ (Hub.releaseLease n h).load = h.load
    ∧ (Hub.releaseLease n h).store = h.store ∧ (Hub.releaseLease n h).flash = h.flash
    ∧ (Hub.releaseLease n h).plan = h.plan ∧ (Hub.releaseLease n h).power = h.power
    ∧ (Hub.releaseLease n h).drive = h.drive ∧ (Hub.releaseLease n h).att = h.att
    ∧ (Hub.releaseLease n h).inReset = h.inReset ∧ (Hub.releaseLease n h).freeDraws = h.freeDraws := by
  unfold Hub.releaseLease
  and_intros <;> (try dsimp only) <;> (repeat' split) <;> simp

@[simp] theorem Hub.setLimits_frame (l : List Byte) :
    (Hub.setLimits l h).time = h.time ∧ (Hub.setLimits l h).table = h.table
    ∧ (Hub.setLimits l h).scanner = h.scanner ∧ (Hub.setLimits l h).lines = h.lines
    ∧ (Hub.setLimits l h).sensors = h.sensors ∧ (Hub.setLimits l h).updater = h.updater
    ∧ (Hub.setLimits l h).odo = h.odo ∧ (Hub.setLimits l h).permit = h.permit
    ∧ (Hub.setLimits l h).trail = h.trail ∧ (Hub.setLimits l h).dock = h.dock
    ∧ (Hub.setLimits l h).beacon = h.beacon ∧ (Hub.setLimits l h).load = h.load
    ∧ (Hub.setLimits l h).store = h.store ∧ (Hub.setLimits l h).flash = h.flash
    ∧ (Hub.setLimits l h).drive = h.drive ∧ (Hub.setLimits l h).inReset = h.inReset
    ∧ (Hub.setLimits l h).freeDraws = h.freeDraws := by
  unfold Hub.setLimits
  and_intros <;> (try dsimp only) <;> (repeat' split) <;> simp

@[simp] theorem Hub.setSensors_frame (l : List Byte) :
    (Hub.setSensors l h).time = h.time ∧ (Hub.setSensors l h).table = h.table
    ∧ (Hub.setSensors l h).scanner = h.scanner ∧ (Hub.setSensors l h).lines = h.lines
    ∧ (Hub.setSensors l h).queue = h.queue ∧ (Hub.setSensors l h).updater = h.updater
    ∧ (Hub.setSensors l h).odo = h.odo ∧ (Hub.setSensors l h).permit = h.permit
    ∧ (Hub.setSensors l h).route = h.route ∧ (Hub.setSensors l h).limits = h.limits
    ∧ (Hub.setSensors l h).trail = h.trail ∧ (Hub.setSensors l h).dock = h.dock
    ∧ (Hub.setSensors l h).beacon = h.beacon ∧ (Hub.setSensors l h).load = h.load
    ∧ (Hub.setSensors l h).store = h.store ∧ (Hub.setSensors l h).flash = h.flash
    ∧ (Hub.setSensors l h).drive = h.drive ∧ (Hub.setSensors l h).inReset = h.inReset
    ∧ (Hub.setSensors l h).freeDraws = h.freeDraws := by
  unfold Hub.setSensors
  and_intros <;> (try dsimp only) <;> (repeat' split) <;> simp

@[simp] theorem Hub.moveToFloor_frame (fl : Floor) :
    (Hub.moveToFloor fl h).time = h.time ∧ (Hub.moveToFloor fl h).table = h.table
    ∧ (Hub.moveToFloor fl h).lines = h.lines ∧ (Hub.moveToFloor fl h).sensors = h.sensors
    ∧ (Hub.moveToFloor fl h).limits = h.limits ∧ (Hub.moveToFloor fl h).beacon = h.beacon
    ∧ (Hub.moveToFloor fl h).load = h.load ∧ (Hub.moveToFloor fl h).store = h.store
    ∧ (Hub.moveToFloor fl h).flash = h.flash ∧ (Hub.moveToFloor fl h).plan = h.plan
    ∧ (Hub.moveToFloor fl h).power = h.power ∧ (Hub.moveToFloor fl h).inReset = h.inReset
    ∧ (Hub.moveToFloor fl h).freeDraws = h.freeDraws := by
  unfold Hub.moveToFloor
  and_intros <;> (try dsimp only) <;> (repeat' split) <;> simp

@[simp] theorem Hub.setFloor_frame (l : List Byte) :
    (Hub.setFloor l h).time = h.time ∧ (Hub.setFloor l h).table = h.table ∧ (Hub.setFloor l h).lines = h.lines
    ∧ (Hub.setFloor l h).sensors = h.sensors ∧ (Hub.setFloor l h).limits = h.limits
    ∧ (Hub.setFloor l h).beacon = h.beacon ∧ (Hub.setFloor l h).load = h.load
    ∧ (Hub.setFloor l h).store = h.store ∧ (Hub.setFloor l h).flash = h.flash
    ∧ (Hub.setFloor l h).inReset = h.inReset ∧ (Hub.setFloor l h).freeDraws = h.freeDraws := by
  unfold Hub.setFloor
  and_intros <;> (try dsimp only) <;> (repeat' split) <;> simp

@[simp] theorem Hub.placeAt_frame (p : Pose) (fl : Floor) :
    (Hub.placeAt p fl h).time = h.time ∧ (Hub.placeAt p fl h).table = h.table
    ∧ (Hub.placeAt p fl h).lines = h.lines ∧ (Hub.placeAt p fl h).sensors = h.sensors
    ∧ (Hub.placeAt p fl h).limits = h.limits ∧ (Hub.placeAt p fl h).beacon = h.beacon
    ∧ (Hub.placeAt p fl h).load = h.load ∧ (Hub.placeAt p fl h).store = h.store
    ∧ (Hub.placeAt p fl h).flash = h.flash ∧ (Hub.placeAt p fl h).plan = h.plan
    ∧ (Hub.placeAt p fl h).power = h.power ∧ (Hub.placeAt p fl h).inReset = h.inReset
    ∧ (Hub.placeAt p fl h).freeDraws = h.freeDraws := by
  unfold Hub.placeAt
  simp

@[simp] theorem Hub.setPose_frame (l : List Byte) :
    (Hub.setPose l h).time = h.time ∧ (Hub.setPose l h).table = h.table ∧ (Hub.setPose l h).lines = h.lines
    ∧ (Hub.setPose l h).sensors = h.sensors ∧ (Hub.setPose l h).limits = h.limits
    ∧ (Hub.setPose l h).beacon = h.beacon ∧ (Hub.setPose l h).load = h.load ∧ (Hub.setPose l h).store = h.store
    ∧ (Hub.setPose l h).flash = h.flash ∧ (Hub.setPose l h).inReset = h.inReset
    ∧ (Hub.setPose l h).freeDraws = h.freeDraws := by
  unfold Hub.setPose
  and_intros <;> (try dsimp only) <;> (repeat' split) <;> simp

@[simp] theorem Hub.setDock_frame (l : List Byte) :
    (Hub.setDock l h).time = h.time ∧ (Hub.setDock l h).table = h.table ∧ (Hub.setDock l h).scanner = h.scanner
    ∧ (Hub.setDock l h).lines = h.lines ∧ (Hub.setDock l h).sensors = h.sensors
    ∧ (Hub.setDock l h).queue = h.queue ∧ (Hub.setDock l h).updater = h.updater ∧ (Hub.setDock l h).odo = h.odo
    ∧ (Hub.setDock l h).permit = h.permit ∧ (Hub.setDock l h).route = h.route
    ∧ (Hub.setDock l h).limits = h.limits ∧ (Hub.setDock l h).trail = h.trail
    ∧ (Hub.setDock l h).beacon = h.beacon ∧ (Hub.setDock l h).load = h.load ∧ (Hub.setDock l h).store = h.store
    ∧ (Hub.setDock l h).flash = h.flash ∧ (Hub.setDock l h).drive = h.drive
    ∧ (Hub.setDock l h).inReset = h.inReset ∧ (Hub.setDock l h).freeDraws = h.freeDraws := by
  unfold Hub.setDock
  and_intros <;> (try dsimp only) <;> (repeat' split) <;> simp

@[simp] theorem Hub.routeAppend_frame (l : List Byte) :
    (Hub.routeAppend l h).time = h.time ∧ (Hub.routeAppend l h).table = h.table
    ∧ (Hub.routeAppend l h).scanner = h.scanner ∧ (Hub.routeAppend l h).lines = h.lines
    ∧ (Hub.routeAppend l h).sensors = h.sensors ∧ (Hub.routeAppend l h).queue = h.queue
    ∧ (Hub.routeAppend l h).updater = h.updater ∧ (Hub.routeAppend l h).odo = h.odo
    ∧ (Hub.routeAppend l h).limits = h.limits ∧ (Hub.routeAppend l h).trail = h.trail
    ∧ (Hub.routeAppend l h).dock = h.dock ∧ (Hub.routeAppend l h).beacon = h.beacon
    ∧ (Hub.routeAppend l h).load = h.load ∧ (Hub.routeAppend l h).store = h.store
    ∧ (Hub.routeAppend l h).flash = h.flash ∧ (Hub.routeAppend l h).drive = h.drive
    ∧ (Hub.routeAppend l h).inReset = h.inReset ∧ (Hub.routeAppend l h).freeDraws = h.freeDraws := by
  unfold Hub.routeAppend
  and_intros <;> (try dsimp only) <;> (repeat' split) <;> simp

@[simp] theorem Hub.routeRead_frame (l : List Byte) :
    (Hub.routeRead l h).time = h.time ∧ (Hub.routeRead l h).table = h.table
    ∧ (Hub.routeRead l h).scanner = h.scanner ∧ (Hub.routeRead l h).lines = h.lines
    ∧ (Hub.routeRead l h).sensors = h.sensors ∧ (Hub.routeRead l h).queue = h.queue
    ∧ (Hub.routeRead l h).updater = h.updater ∧ (Hub.routeRead l h).odo = h.odo
    ∧ (Hub.routeRead l h).permit = h.permit ∧ (Hub.routeRead l h).route = h.route
    ∧ (Hub.routeRead l h).limits = h.limits ∧ (Hub.routeRead l h).trail = h.trail
    ∧ (Hub.routeRead l h).dock = h.dock ∧ (Hub.routeRead l h).beacon = h.beacon
    ∧ (Hub.routeRead l h).load = h.load ∧ (Hub.routeRead l h).store = h.store
    ∧ (Hub.routeRead l h).flash = h.flash ∧ (Hub.routeRead l h).drive = h.drive
    ∧ (Hub.routeRead l h).inReset = h.inReset ∧ (Hub.routeRead l h).freeDraws = h.freeDraws := by
  unfold Hub.routeRead
  and_intros <;> (try dsimp only) <;> (repeat' split) <;> simp

@[simp] theorem Hub.doneHolds_frame (p : Port) (c : Byte) :
    (Hub.doneHolds p c h).time = h.time ∧ (Hub.doneHolds p c h).table = h.table
    ∧ (Hub.doneHolds p c h).scanner = h.scanner ∧ (Hub.doneHolds p c h).lines = h.lines
    ∧ (Hub.doneHolds p c h).sensors = h.sensors ∧ (Hub.doneHolds p c h).queue = h.queue
    ∧ (Hub.doneHolds p c h).updater = h.updater ∧ (Hub.doneHolds p c h).odo = h.odo
    ∧ (Hub.doneHolds p c h).permit = h.permit ∧ (Hub.doneHolds p c h).route = h.route
    ∧ (Hub.doneHolds p c h).limits = h.limits ∧ (Hub.doneHolds p c h).trail = h.trail
    ∧ (Hub.doneHolds p c h).dock = h.dock ∧ (Hub.doneHolds p c h).beacon = h.beacon
    ∧ (Hub.doneHolds p c h).load = h.load ∧ (Hub.doneHolds p c h).store = h.store
    ∧ (Hub.doneHolds p c h).flash = h.flash ∧ (Hub.doneHolds p c h).drive = h.drive
    ∧ (Hub.doneHolds p c h).inReset = h.inReset ∧ (Hub.doneHolds p c h).freeDraws = h.freeDraws := by
  unfold Hub.doneHolds
  simp

@[simp] theorem Hub.release_frame (p : Port) (l : List Byte) :
    (Hub.release p l h).time = h.time ∧ (Hub.release p l h).table = h.table
    ∧ (Hub.release p l h).scanner = h.scanner ∧ (Hub.release p l h).lines = h.lines
    ∧ (Hub.release p l h).sensors = h.sensors ∧ (Hub.release p l h).queue = h.queue
    ∧ (Hub.release p l h).updater = h.updater ∧ (Hub.release p l h).odo = h.odo
    ∧ (Hub.release p l h).route = h.route ∧ (Hub.release p l h).limits = h.limits
    ∧ (Hub.release p l h).trail = h.trail ∧ (Hub.release p l h).dock = h.dock
    ∧ (Hub.release p l h).beacon = h.beacon ∧ (Hub.release p l h).load = h.load
    ∧ (Hub.release p l h).store = h.store ∧ (Hub.release p l h).flash = h.flash
    ∧ (Hub.release p l h).drive = h.drive ∧ (Hub.release p l h).inReset = h.inReset
    ∧ (Hub.release p l h).freeDraws = h.freeDraws := by
  unfold Hub.release
  and_intros <;> (try dsimp only) <;> (repeat' split) <;> simp

@[simp] theorem Hub.releaseInhibit_frame :
    (Hub.releaseInhibit h).time = h.time ∧ (Hub.releaseInhibit h).table = h.table
    ∧ (Hub.releaseInhibit h).scanner = h.scanner ∧ (Hub.releaseInhibit h).lines = h.lines
    ∧ (Hub.releaseInhibit h).sensors = h.sensors ∧ (Hub.releaseInhibit h).queue = h.queue
    ∧ (Hub.releaseInhibit h).updater = h.updater ∧ (Hub.releaseInhibit h).odo = h.odo
    ∧ (Hub.releaseInhibit h).route = h.route ∧ (Hub.releaseInhibit h).limits = h.limits
    ∧ (Hub.releaseInhibit h).trail = h.trail ∧ (Hub.releaseInhibit h).dock = h.dock
    ∧ (Hub.releaseInhibit h).beacon = h.beacon ∧ (Hub.releaseInhibit h).load = h.load
    ∧ (Hub.releaseInhibit h).store = h.store ∧ (Hub.releaseInhibit h).flash = h.flash
    ∧ (Hub.releaseInhibit h).drive = h.drive ∧ (Hub.releaseInhibit h).inReset = h.inReset
    ∧ (Hub.releaseInhibit h).freeDraws = h.freeDraws := by
  unfold Hub.releaseInhibit
  and_intros <;> (try dsimp only) <;> (repeat' split) <;> simp

@[simp] theorem Hub.trailRead_frame (l : List Byte) :
    (Hub.trailRead l h).time = h.time ∧ (Hub.trailRead l h).table = h.table
    ∧ (Hub.trailRead l h).scanner = h.scanner ∧ (Hub.trailRead l h).lines = h.lines
    ∧ (Hub.trailRead l h).sensors = h.sensors ∧ (Hub.trailRead l h).queue = h.queue
    ∧ (Hub.trailRead l h).updater = h.updater ∧ (Hub.trailRead l h).odo = h.odo
    ∧ (Hub.trailRead l h).permit = h.permit ∧ (Hub.trailRead l h).route = h.route
    ∧ (Hub.trailRead l h).limits = h.limits ∧ (Hub.trailRead l h).trail = h.trail
    ∧ (Hub.trailRead l h).dock = h.dock ∧ (Hub.trailRead l h).beacon = h.beacon
    ∧ (Hub.trailRead l h).load = h.load ∧ (Hub.trailRead l h).store = h.store
    ∧ (Hub.trailRead l h).flash = h.flash ∧ (Hub.trailRead l h).drive = h.drive
    ∧ (Hub.trailRead l h).inReset = h.inReset ∧ (Hub.trailRead l h).freeDraws = h.freeDraws := by
  unfold Hub.trailRead
  and_intros <;> (try dsimp only) <;> (repeat' split) <;> simp

@[simp] theorem Hub.trailClear_frame :
    (Hub.trailClear h).time = h.time ∧ (Hub.trailClear h).table = h.table
    ∧ (Hub.trailClear h).scanner = h.scanner ∧ (Hub.trailClear h).lines = h.lines
    ∧ (Hub.trailClear h).sensors = h.sensors ∧ (Hub.trailClear h).queue = h.queue
    ∧ (Hub.trailClear h).updater = h.updater ∧ (Hub.trailClear h).odo = h.odo
    ∧ (Hub.trailClear h).permit = h.permit ∧ (Hub.trailClear h).route = h.route
    ∧ (Hub.trailClear h).limits = h.limits ∧ (Hub.trailClear h).dock = h.dock
    ∧ (Hub.trailClear h).beacon = h.beacon ∧ (Hub.trailClear h).load = h.load
    ∧ (Hub.trailClear h).store = h.store ∧ (Hub.trailClear h).flash = h.flash
    ∧ (Hub.trailClear h).drive = h.drive ∧ (Hub.trailClear h).inReset = h.inReset
    ∧ (Hub.trailClear h).freeDraws = h.freeDraws := by
  unfold Hub.trailClear
  and_intros <;> (try dsimp only) <;> (repeat' split) <;> simp

@[simp] theorem Hub.doneReturn_frame (p : Port) (c : Byte) :
    (Hub.doneReturn p c h).time = h.time ∧ (Hub.doneReturn p c h).table = h.table
    ∧ (Hub.doneReturn p c h).scanner = h.scanner ∧ (Hub.doneReturn p c h).lines = h.lines
    ∧ (Hub.doneReturn p c h).sensors = h.sensors ∧ (Hub.doneReturn p c h).queue = h.queue
    ∧ (Hub.doneReturn p c h).updater = h.updater ∧ (Hub.doneReturn p c h).odo = h.odo
    ∧ (Hub.doneReturn p c h).permit = h.permit ∧ (Hub.doneReturn p c h).route = h.route
    ∧ (Hub.doneReturn p c h).limits = h.limits ∧ (Hub.doneReturn p c h).trail = h.trail
    ∧ (Hub.doneReturn p c h).dock = h.dock ∧ (Hub.doneReturn p c h).beacon = h.beacon
    ∧ (Hub.doneReturn p c h).load = h.load ∧ (Hub.doneReturn p c h).store = h.store
    ∧ (Hub.doneReturn p c h).flash = h.flash ∧ (Hub.doneReturn p c h).drive = h.drive
    ∧ (Hub.doneReturn p c h).inReset = h.inReset ∧ (Hub.doneReturn p c h).freeDraws = h.freeDraws := by
  unfold Hub.doneReturn
  simp

@[simp] theorem Hub.requestReturn_frame (p : Port) :
    (Hub.requestReturn p h).time = h.time ∧ (Hub.requestReturn p h).table = h.table
    ∧ (Hub.requestReturn p h).scanner = h.scanner ∧ (Hub.requestReturn p h).lines = h.lines
    ∧ (Hub.requestReturn p h).sensors = h.sensors ∧ (Hub.requestReturn p h).queue = h.queue
    ∧ (Hub.requestReturn p h).updater = h.updater ∧ (Hub.requestReturn p h).odo = h.odo
    ∧ (Hub.requestReturn p h).permit = h.permit ∧ (Hub.requestReturn p h).limits = h.limits
    ∧ (Hub.requestReturn p h).trail = h.trail ∧ (Hub.requestReturn p h).beacon = h.beacon
    ∧ (Hub.requestReturn p h).load = h.load ∧ (Hub.requestReturn p h).store = h.store
    ∧ (Hub.requestReturn p h).flash = h.flash ∧ (Hub.requestReturn p h).drive = h.drive
    ∧ (Hub.requestReturn p h).inReset = h.inReset ∧ (Hub.requestReturn p h).freeDraws = h.freeDraws := by
  unfold Hub.requestReturn
  and_intros <;> (try dsimp only) <;> (repeat' split) <;> simp

@[simp] theorem Hub.cancelReturn_frame :
    (Hub.cancelReturn h).time = h.time ∧ (Hub.cancelReturn h).table = h.table
    ∧ (Hub.cancelReturn h).scanner = h.scanner ∧ (Hub.cancelReturn h).lines = h.lines
    ∧ (Hub.cancelReturn h).sensors = h.sensors ∧ (Hub.cancelReturn h).queue = h.queue
    ∧ (Hub.cancelReturn h).updater = h.updater ∧ (Hub.cancelReturn h).odo = h.odo
    ∧ (Hub.cancelReturn h).permit = h.permit ∧ (Hub.cancelReturn h).route = h.route
    ∧ (Hub.cancelReturn h).limits = h.limits ∧ (Hub.cancelReturn h).beacon = h.beacon
    ∧ (Hub.cancelReturn h).load = h.load ∧ (Hub.cancelReturn h).store = h.store
    ∧ (Hub.cancelReturn h).flash = h.flash ∧ (Hub.cancelReturn h).plan = h.plan
    ∧ (Hub.cancelReturn h).power = h.power ∧ (Hub.cancelReturn h).drive = h.drive
    ∧ (Hub.cancelReturn h).inReset = h.inReset ∧ (Hub.cancelReturn h).freeDraws = h.freeDraws := by
  unfold Hub.cancelReturn
  and_intros <;> (try dsimp only) <;> (repeat' split) <;> simp

@[simp] theorem Hub.beaconSlot_frame (l : List Byte) :
    (Hub.beaconSlot l h).time = h.time ∧ (Hub.beaconSlot l h).table = h.table
    ∧ (Hub.beaconSlot l h).scanner = h.scanner ∧ (Hub.beaconSlot l h).lines = h.lines
    ∧ (Hub.beaconSlot l h).sensors = h.sensors ∧ (Hub.beaconSlot l h).queue = h.queue
    ∧ (Hub.beaconSlot l h).updater = h.updater ∧ (Hub.beaconSlot l h).odo = h.odo
    ∧ (Hub.beaconSlot l h).permit = h.permit ∧ (Hub.beaconSlot l h).route = h.route
    ∧ (Hub.beaconSlot l h).limits = h.limits ∧ (Hub.beaconSlot l h).trail = h.trail
    ∧ (Hub.beaconSlot l h).dock = h.dock ∧ (Hub.beaconSlot l h).load = h.load
    ∧ (Hub.beaconSlot l h).store = h.store ∧ (Hub.beaconSlot l h).flash = h.flash
    ∧ (Hub.beaconSlot l h).drive = h.drive ∧ (Hub.beaconSlot l h).inReset = h.inReset
    ∧ (Hub.beaconSlot l h).freeDraws = h.freeDraws := by
  unfold Hub.beaconSlot
  and_intros <;> (try dsimp only) <;> (repeat' split) <;> simp

@[simp] theorem Hub.mapSave_frame (l : List Byte) :
    (Hub.mapSave l h).time = h.time ∧ (Hub.mapSave l h).table = h.table ∧ (Hub.mapSave l h).scanner = h.scanner
    ∧ (Hub.mapSave l h).lines = h.lines ∧ (Hub.mapSave l h).sensors = h.sensors
    ∧ (Hub.mapSave l h).queue = h.queue ∧ (Hub.mapSave l h).updater = h.updater ∧ (Hub.mapSave l h).odo = h.odo
    ∧ (Hub.mapSave l h).permit = h.permit ∧ (Hub.mapSave l h).route = h.route
    ∧ (Hub.mapSave l h).limits = h.limits ∧ (Hub.mapSave l h).trail = h.trail ∧ (Hub.mapSave l h).dock = h.dock
    ∧ (Hub.mapSave l h).beacon = h.beacon ∧ (Hub.mapSave l h).load = h.load ∧ (Hub.mapSave l h).drive = h.drive
    ∧ (Hub.mapSave l h).inReset = h.inReset ∧ (Hub.mapSave l h).freeDraws = h.freeDraws := by
  unfold Hub.mapSave
  and_intros <;> (try dsimp only) <;> (repeat' split) <;> simp

@[simp] theorem Hub.mapLoad_frame (l : List Byte) :
    (Hub.mapLoad l h).time = h.time ∧ (Hub.mapLoad l h).table = h.table ∧ (Hub.mapLoad l h).scanner = h.scanner
    ∧ (Hub.mapLoad l h).lines = h.lines ∧ (Hub.mapLoad l h).sensors = h.sensors
    ∧ (Hub.mapLoad l h).queue = h.queue ∧ (Hub.mapLoad l h).updater = h.updater ∧ (Hub.mapLoad l h).odo = h.odo
    ∧ (Hub.mapLoad l h).route = h.route ∧ (Hub.mapLoad l h).limits = h.limits
    ∧ (Hub.mapLoad l h).trail = h.trail ∧ (Hub.mapLoad l h).dock = h.dock ∧ (Hub.mapLoad l h).beacon = h.beacon
    ∧ (Hub.mapLoad l h).load = h.load ∧ (Hub.mapLoad l h).inReset = h.inReset
    ∧ (Hub.mapLoad l h).freeDraws = h.freeDraws := by
  unfold Hub.mapLoad
  and_intros <;> (try dsimp only) <;> (repeat' split) <;> simp

@[simp] theorem Hub.loadMode_frame (l : List Byte) :
    (Hub.loadMode l h).time = h.time ∧ (Hub.loadMode l h).table = h.table ∧ (Hub.loadMode l h).lines = h.lines
    ∧ (Hub.loadMode l h).sensors = h.sensors ∧ (Hub.loadMode l h).queue = h.queue
    ∧ (Hub.loadMode l h).updater = h.updater ∧ (Hub.loadMode l h).odo = h.odo
    ∧ (Hub.loadMode l h).permit = h.permit ∧ (Hub.loadMode l h).route = h.route
    ∧ (Hub.loadMode l h).limits = h.limits ∧ (Hub.loadMode l h).trail = h.trail
    ∧ (Hub.loadMode l h).dock = h.dock ∧ (Hub.loadMode l h).beacon = h.beacon
    ∧ (Hub.loadMode l h).store = h.store ∧ (Hub.loadMode l h).flash = h.flash
    ∧ (Hub.loadMode l h).drive = h.drive ∧ (Hub.loadMode l h).inReset = h.inReset
    ∧ (Hub.loadMode l h).freeDraws = h.freeDraws := by
  unfold Hub.loadMode
  and_intros <;> (try dsimp only) <;> (repeat' split) <;> simp

@[simp] theorem Hub.docked_frame :
    (Hub.docked h).time = h.time ∧ (Hub.docked h).table = h.table ∧ (Hub.docked h).lines = h.lines
    ∧ (Hub.docked h).sensors = h.sensors ∧ (Hub.docked h).limits = h.limits ∧ (Hub.docked h).beacon = h.beacon
    ∧ (Hub.docked h).load = h.load ∧ (Hub.docked h).store = h.store ∧ (Hub.docked h).flash = h.flash
    ∧ (Hub.docked h).plan = h.plan ∧ (Hub.docked h).power = h.power ∧ (Hub.docked h).inReset = h.inReset
    ∧ (Hub.docked h).freeDraws = h.freeDraws := by
  unfold Hub.docked
  and_intros <;> (try dsimp only) <;> (repeat' split) <;> simp

@[simp] theorem Hub.undocked_frame :
    (Hub.undocked h).time = h.time ∧ (Hub.undocked h).table = h.table ∧ (Hub.undocked h).scanner = h.scanner
    ∧ (Hub.undocked h).lines = h.lines ∧ (Hub.undocked h).sensors = h.sensors ∧ (Hub.undocked h).queue = h.queue
    ∧ (Hub.undocked h).updater = h.updater ∧ (Hub.undocked h).odo = h.odo ∧ (Hub.undocked h).permit = h.permit
    ∧ (Hub.undocked h).route = h.route ∧ (Hub.undocked h).limits = h.limits ∧ (Hub.undocked h).beacon = h.beacon
    ∧ (Hub.undocked h).load = h.load ∧ (Hub.undocked h).store = h.store ∧ (Hub.undocked h).flash = h.flash
    ∧ (Hub.undocked h).plan = h.plan ∧ (Hub.undocked h).power = h.power ∧ (Hub.undocked h).drive = h.drive
    ∧ (Hub.undocked h).inReset = h.inReset ∧ (Hub.undocked h).freeDraws = h.freeDraws := by
  unfold Hub.undocked
  simp

end Sys2Proof.Machine
end

