-- ==== Sys2Proof/Laws/MapRequests.lean ====
section
/-! SUPPORT. What the grants of the arbiter, the map requests and the parts of the warm restart leave as it was. -/

namespace Sys2Proof.Machine

set_option linter.unnecessarySeqFocus false
set_option linter.unusedTactic false
set_option linter.unreachableTactic false

variable (h : Hub)

@[simp] theorem Hub.checkClaim_frame :
    (Hub.checkClaim h).time = h.time ∧ (Hub.checkClaim h).table = h.table
    ∧ (Hub.checkClaim h).scanner = h.scanner ∧ (Hub.checkClaim h).lines = h.lines
    ∧ (Hub.checkClaim h).sensors = h.sensors ∧ (Hub.checkClaim h).queue = h.queue
    ∧ (Hub.checkClaim h).updater = h.updater ∧ (Hub.checkClaim h).odo = h.odo
    ∧ (Hub.checkClaim h).route = h.route ∧ (Hub.checkClaim h).limits = h.limits
    ∧ (Hub.checkClaim h).trail = h.trail ∧ (Hub.checkClaim h).dock = h.dock
    ∧ (Hub.checkClaim h).beacon = h.beacon ∧ (Hub.checkClaim h).load = h.load
    ∧ (Hub.checkClaim h).store = h.store ∧ (Hub.checkClaim h).flash = h.flash ∧ (Hub.checkClaim h).plan = h.plan
    ∧ (Hub.checkClaim h).power = h.power ∧ (Hub.checkClaim h).inReset = h.inReset
    ∧ (Hub.checkClaim h).freeDraws = h.freeDraws := by
  unfold Hub.checkClaim
  and_intros <;> (try dsimp only) <;> (repeat' split) <;> simp

@[simp] theorem Hub.recheckClaim_frame :
    (Hub.recheckClaim h).time = h.time ∧ (Hub.recheckClaim h).table = h.table
    ∧ (Hub.recheckClaim h).scanner = h.scanner ∧ (Hub.recheckClaim h).lines = h.lines
    ∧ (Hub.recheckClaim h).sensors = h.sensors ∧ (Hub.recheckClaim h).queue = h.queue
    ∧ (Hub.recheckClaim h).updater = h.updater ∧ (Hub.recheckClaim h).odo = h.odo
    ∧ (Hub.recheckClaim h).route = h.route ∧ (Hub.recheckClaim h).limits = h.limits
    ∧ (Hub.recheckClaim h).trail = h.trail ∧ (Hub.recheckClaim h).dock = h.dock
    ∧ (Hub.recheckClaim h).beacon = h.beacon ∧ (Hub.recheckClaim h).load = h.load
    ∧ (Hub.recheckClaim h).store = h.store ∧ (Hub.recheckClaim h).flash = h.flash
    ∧ (Hub.recheckClaim h).plan = h.plan ∧ (Hub.recheckClaim h).power = h.power
    ∧ (Hub.recheckClaim h).inReset = h.inReset ∧ (Hub.recheckClaim h).freeDraws = h.freeDraws := by
  unfold Hub.recheckClaim
  and_intros <;> (try dsimp only) <;> (repeat' split) <;> simp

@[simp] theorem Hub.serve_frame (v : Service) :
    (Hub.serve v h).time = h.time ∧ (Hub.serve v h).table = h.table ∧ (Hub.serve v h).scanner = h.scanner
    ∧ (Hub.serve v h).lines = h.lines ∧ (Hub.serve v h).sensors = h.sensors ∧ (Hub.serve v h).queue = h.queue
    ∧ (Hub.serve v h).updater = h.updater ∧ (Hub.serve v h).odo = h.odo ∧ (Hub.serve v h).permit = h.permit
    ∧ (Hub.serve v h).route = h.route ∧ (Hub.serve v h).limits = h.limits ∧ (Hub.serve v h).trail = h.trail
    ∧ (Hub.serve v h).dock = h.dock ∧ (Hub.serve v h).beacon = h.beacon ∧ (Hub.serve v h).load = h.load
    ∧ (Hub.serve v h).store = h.store ∧ (Hub.serve v h).flash = h.flash ∧ (Hub.serve v h).power = h.power
    ∧ (Hub.serve v h).drive = h.drive ∧ (Hub.serve v h).att = h.att ∧ (Hub.serve v h).inReset = h.inReset
    ∧ (Hub.serve v h).freeDraws = h.freeDraws :=
  ⟨rfl, rfl, rfl, rfl, rfl, rfl, rfl, rfl, rfl, rfl, rfl, rfl, rfl, rfl, rfl, rfl, rfl, rfl, rfl, rfl, rfl, rfl⟩

@[simp] theorem Hub.serveEdit_frame (c : Byte) (v : Service) :
    (Hub.serveEdit c v h).time = h.time ∧ (Hub.serveEdit c v h).table = h.table
    ∧ (Hub.serveEdit c v h).scanner = h.scanner ∧ (Hub.serveEdit c v h).lines = h.lines
    ∧ (Hub.serveEdit c v h).sensors = h.sensors ∧ (Hub.serveEdit c v h).queue = h.queue
    ∧ (Hub.serveEdit c v h).updater = h.updater ∧ (Hub.serveEdit c v h).odo = h.odo
    ∧ (Hub.serveEdit c v h).permit = h.permit ∧ (Hub.serveEdit c v h).route = h.route
    ∧ (Hub.serveEdit c v h).limits = h.limits ∧ (Hub.serveEdit c v h).trail = h.trail
    ∧ (Hub.serveEdit c v h).dock = h.dock ∧ (Hub.serveEdit c v h).beacon = h.beacon
    ∧ (Hub.serveEdit c v h).load = h.load ∧ (Hub.serveEdit c v h).store = h.store
    ∧ (Hub.serveEdit c v h).flash = h.flash ∧ (Hub.serveEdit c v h).drive = h.drive
    ∧ (Hub.serveEdit c v h).inReset = h.inReset ∧ (Hub.serveEdit c v h).freeDraws = h.freeDraws := by
  unfold Hub.serveEdit
  and_intros <;> (try dsimp only) <;> (repeat' split) <;> simp

@[simp] theorem Hub.mapPut_frame (l : List Byte) :
    (Hub.mapPut l h).time = h.time ∧ (Hub.mapPut l h).table = h.table ∧ (Hub.mapPut l h).scanner = h.scanner
    ∧ (Hub.mapPut l h).lines = h.lines ∧ (Hub.mapPut l h).sensors = h.sensors ∧ (Hub.mapPut l h).queue = h.queue
    ∧ (Hub.mapPut l h).updater = h.updater ∧ (Hub.mapPut l h).odo = h.odo ∧ (Hub.mapPut l h).permit = h.permit
    ∧ (Hub.mapPut l h).route = h.route ∧ (Hub.mapPut l h).limits = h.limits ∧ (Hub.mapPut l h).trail = h.trail
    ∧ (Hub.mapPut l h).dock = h.dock ∧ (Hub.mapPut l h).beacon = h.beacon ∧ (Hub.mapPut l h).load = h.load
    ∧ (Hub.mapPut l h).store = h.store ∧ (Hub.mapPut l h).flash = h.flash ∧ (Hub.mapPut l h).drive = h.drive
    ∧ (Hub.mapPut l h).inReset = h.inReset ∧ (Hub.mapPut l h).freeDraws = h.freeDraws := by
  unfold Hub.mapPut
  and_intros <;> (try dsimp only) <;> (repeat' split) <;> simp

@[simp] theorem Hub.putGrant_frame :
    (Hub.putGrant h).time = h.time ∧ (Hub.putGrant h).scanner = h.scanner ∧ (Hub.putGrant h).lines = h.lines
    ∧ (Hub.putGrant h).sensors = h.sensors ∧ (Hub.putGrant h).queue = h.queue
    ∧ (Hub.putGrant h).updater = h.updater ∧ (Hub.putGrant h).odo = h.odo ∧ (Hub.putGrant h).route = h.route
    ∧ (Hub.putGrant h).limits = h.limits ∧ (Hub.putGrant h).trail = h.trail ∧ (Hub.putGrant h).dock = h.dock
    ∧ (Hub.putGrant h).beacon = h.beacon ∧ (Hub.putGrant h).load = h.load ∧ (Hub.putGrant h).store = h.store
    ∧ (Hub.putGrant h).flash = h.flash ∧ (Hub.putGrant h).inReset = h.inReset
    ∧ (Hub.putGrant h).freeDraws = h.freeDraws := by
  unfold Hub.putGrant
  and_intros <;> (try dsimp only) <;> (repeat' split) <;> simp

@[simp] theorem Hub.mapDelete_frame (l : List Byte) :
    (Hub.mapDelete l h).time = h.time ∧ (Hub.mapDelete l h).table = h.table
    ∧ (Hub.mapDelete l h).scanner = h.scanner ∧ (Hub.mapDelete l h).lines = h.lines
    ∧ (Hub.mapDelete l h).sensors = h.sensors ∧ (Hub.mapDelete l h).queue = h.queue
    ∧ (Hub.mapDelete l h).updater = h.updater ∧ (Hub.mapDelete l h).odo = h.odo
    ∧ (Hub.mapDelete l h).permit = h.permit ∧ (Hub.mapDelete l h).route = h.route
    ∧ (Hub.mapDelete l h).limits = h.limits ∧ (Hub.mapDelete l h).trail = h.trail
    ∧ (Hub.mapDelete l h).dock = h.dock ∧ (Hub.mapDelete l h).beacon = h.beacon
    ∧ (Hub.mapDelete l h).load = h.load ∧ (Hub.mapDelete l h).store = h.store
    ∧ (Hub.mapDelete l h).flash = h.flash ∧ (Hub.mapDelete l h).drive = h.drive
    ∧ (Hub.mapDelete l h).inReset = h.inReset ∧ (Hub.mapDelete l h).freeDraws = h.freeDraws := by
  unfold Hub.mapDelete
  and_intros <;> (try dsimp only) <;> (repeat' split) <;> simp

@[simp] theorem Hub.deleteGrant_frame :
    (Hub.deleteGrant h).time = h.time ∧ (Hub.deleteGrant h).scanner = h.scanner
    ∧ (Hub.deleteGrant h).lines = h.lines ∧ (Hub.deleteGrant h).sensors = h.sensors
    ∧ (Hub.deleteGrant h).queue = h.queue ∧ (Hub.deleteGrant h).updater = h.updater
    ∧ (Hub.deleteGrant h).odo = h.odo ∧ (Hub.deleteGrant h).permit = h.permit
    ∧ (Hub.deleteGrant h).route = h.route ∧ (Hub.deleteGrant h).limits = h.limits
    ∧ (Hub.deleteGrant h).trail = h.trail ∧ (Hub.deleteGrant h).dock = h.dock
    ∧ (Hub.deleteGrant h).beacon = h.beacon ∧ (Hub.deleteGrant h).load = h.load
    ∧ (Hub.deleteGrant h).store = h.store ∧ (Hub.deleteGrant h).flash = h.flash
    ∧ (Hub.deleteGrant h).drive = h.drive ∧ (Hub.deleteGrant h).inReset = h.inReset
    ∧ (Hub.deleteGrant h).freeDraws = h.freeDraws := by
  unfold Hub.deleteGrant
  and_intros <;> (try dsimp only) <;> (repeat' split) <;> simp

@[simp] theorem Hub.mapConfirm_frame (l : List Byte) :
    (Hub.mapConfirm l h).time = h.time ∧ (Hub.mapConfirm l h).table = h.table
    ∧ (Hub.mapConfirm l h).scanner = h.scanner ∧ (Hub.mapConfirm l h).lines = h.lines
    ∧ (Hub.mapConfirm l h).sensors = h.sensors ∧ (Hub.mapConfirm l h).queue = h.queue
    ∧ (Hub.mapConfirm l h).updater = h.updater ∧ (Hub.mapConfirm l h).odo = h.odo
    ∧ (Hub.mapConfirm l h).permit = h.permit ∧ (Hub.mapConfirm l h).route = h.route
    ∧ (Hub.mapConfirm l h).limits = h.limits ∧ (Hub.mapConfirm l h).trail = h.trail
    ∧ (Hub.mapConfirm l h).dock = h.dock ∧ (Hub.mapConfirm l h).beacon = h.beacon
    ∧ (Hub.mapConfirm l h).load = h.load ∧ (Hub.mapConfirm l h).store = h.store
    ∧ (Hub.mapConfirm l h).flash = h.flash ∧ (Hub.mapConfirm l h).drive = h.drive
    ∧ (Hub.mapConfirm l h).inReset = h.inReset ∧ (Hub.mapConfirm l h).freeDraws = h.freeDraws := by
  unfold Hub.mapConfirm
  and_intros <;> (try dsimp only) <;> (repeat' split) <;> simp

@[simp] theorem Hub.confirmGrant_frame :
    (Hub.confirmGrant h).time = h.time ∧ (Hub.confirmGrant h).scanner = h.scanner
    ∧ (Hub.confirmGrant h).lines = h.lines ∧ (Hub.confirmGrant h).sensors = h.sensors
    ∧ (Hub.confirmGrant h).queue = h.queue ∧ (Hub.confirmGrant h).updater = h.updater
    ∧ (Hub.confirmGrant h).odo = h.odo ∧ (Hub.confirmGrant h).permit = h.permit
    ∧ (Hub.confirmGrant h).route = h.route ∧ (Hub.confirmGrant h).limits = h.limits
    ∧ (Hub.confirmGrant h).trail = h.trail ∧ (Hub.confirmGrant h).dock = h.dock
    ∧ (Hub.confirmGrant h).beacon = h.beacon ∧ (Hub.confirmGrant h).load = h.load
    ∧ (Hub.confirmGrant h).store = h.store ∧ (Hub.confirmGrant h).flash = h.flash
    ∧ (Hub.confirmGrant h).drive = h.drive ∧ (Hub.confirmGrant h).inReset = h.inReset
    ∧ (Hub.confirmGrant h).freeDraws = h.freeDraws := by
  unfold Hub.confirmGrant
  and_intros <;> (try dsimp only) <;> (repeat' split) <;> simp

@[simp] theorem Hub.answerQuery_frame (l : List (Nat × Entry)) (n : Option Nat) :
    (Hub.answerQuery l n h).time = h.time ∧ (Hub.answerQuery l n h).table = h.table
    ∧ (Hub.answerQuery l n h).scanner = h.scanner ∧ (Hub.answerQuery l n h).lines = h.lines
    ∧ (Hub.answerQuery l n h).sensors = h.sensors ∧ (Hub.answerQuery l n h).queue = h.queue
    ∧ (Hub.answerQuery l n h).updater = h.updater ∧ (Hub.answerQuery l n h).odo = h.odo
    ∧ (Hub.answerQuery l n h).permit = h.permit ∧ (Hub.answerQuery l n h).route = h.route
    ∧ (Hub.answerQuery l n h).limits = h.limits ∧ (Hub.answerQuery l n h).trail = h.trail
    ∧ (Hub.answerQuery l n h).dock = h.dock ∧ (Hub.answerQuery l n h).beacon = h.beacon
    ∧ (Hub.answerQuery l n h).load = h.load ∧ (Hub.answerQuery l n h).store = h.store
    ∧ (Hub.answerQuery l n h).flash = h.flash ∧ (Hub.answerQuery l n h).drive = h.drive
    ∧ (Hub.answerQuery l n h).inReset = h.inReset ∧ (Hub.answerQuery l n h).freeDraws = h.freeDraws := by
  unfold Hub.answerQuery
  simp

@[simp] theorem Hub.queryNext_frame (fl : Floor) (x y : Int) (w t lo : Nat) (l : List (Nat × Entry)) :
    (Hub.queryNext fl x y w t lo l h).time = h.time ∧ (Hub.queryNext fl x y w t lo l h).table = h.table
    ∧ (Hub.queryNext fl x y w t lo l h).scanner = h.scanner ∧ (Hub.queryNext fl x y w t lo l h).lines = h.lines
    ∧ (Hub.queryNext fl x y w t lo l h).sensors = h.sensors ∧ (Hub.queryNext fl x y w t lo l h).queue = h.queue
    ∧ (Hub.queryNext fl x y w t lo l h).updater = h.updater ∧ (Hub.queryNext fl x y w t lo l h).odo = h.odo
    ∧ (Hub.queryNext fl x y w t lo l h).permit = h.permit ∧ (Hub.queryNext fl x y w t lo l h).route = h.route
    ∧ (Hub.queryNext fl x y w t lo l h).limits = h.limits ∧ (Hub.queryNext fl x y w t lo l h).trail = h.trail
    ∧ (Hub.queryNext fl x y w t lo l h).dock = h.dock ∧ (Hub.queryNext fl x y w t lo l h).beacon = h.beacon
    ∧ (Hub.queryNext fl x y w t lo l h).load = h.load ∧ (Hub.queryNext fl x y w t lo l h).store = h.store
    ∧ (Hub.queryNext fl x y w t lo l h).flash = h.flash ∧ (Hub.queryNext fl x y w t lo l h).drive = h.drive
    ∧ (Hub.queryNext fl x y w t lo l h).inReset = h.inReset
    ∧ (Hub.queryNext fl x y w t lo l h).freeDraws = h.freeDraws := by
  unfold Hub.queryNext
  and_intros <;> (try dsimp only) <;> (repeat' split) <;> simp

@[simp] theorem Hub.mapQuery_frame (l : List Byte) :
    (Hub.mapQuery l h).time = h.time ∧ (Hub.mapQuery l h).table = h.table
    ∧ (Hub.mapQuery l h).scanner = h.scanner ∧ (Hub.mapQuery l h).lines = h.lines
    ∧ (Hub.mapQuery l h).sensors = h.sensors ∧ (Hub.mapQuery l h).queue = h.queue
    ∧ (Hub.mapQuery l h).updater = h.updater ∧ (Hub.mapQuery l h).odo = h.odo
    ∧ (Hub.mapQuery l h).permit = h.permit ∧ (Hub.mapQuery l h).route = h.route
    ∧ (Hub.mapQuery l h).limits = h.limits ∧ (Hub.mapQuery l h).trail = h.trail
    ∧ (Hub.mapQuery l h).dock = h.dock ∧ (Hub.mapQuery l h).beacon = h.beacon ∧ (Hub.mapQuery l h).load = h.load
    ∧ (Hub.mapQuery l h).store = h.store ∧ (Hub.mapQuery l h).flash = h.flash
    ∧ (Hub.mapQuery l h).drive = h.drive ∧ (Hub.mapQuery l h).inReset = h.inReset
    ∧ (Hub.mapQuery l h).freeDraws = h.freeDraws := by
  unfold Hub.mapQuery
  and_intros <;> (try dsimp only) <;> (repeat' split) <;> simp

@[simp] theorem Hub.queryGrant_frame :
    (Hub.queryGrant h).time = h.time ∧ (Hub.queryGrant h).table = h.table
    ∧ (Hub.queryGrant h).scanner = h.scanner ∧ (Hub.queryGrant h).lines = h.lines
    ∧ (Hub.queryGrant h).sensors = h.sensors ∧ (Hub.queryGrant h).queue = h.queue
    ∧ (Hub.queryGrant h).updater = h.updater ∧ (Hub.queryGrant h).odo = h.odo
    ∧ (Hub.queryGrant h).permit = h.permit ∧ (Hub.queryGrant h).route = h.route
    ∧ (Hub.queryGrant h).limits = h.limits ∧ (Hub.queryGrant h).trail = h.trail
    ∧ (Hub.queryGrant h).dock = h.dock ∧ (Hub.queryGrant h).beacon = h.beacon ∧ (Hub.queryGrant h).load = h.load
    ∧ (Hub.queryGrant h).store = h.store ∧ (Hub.queryGrant h).flash = h.flash
    ∧ (Hub.queryGrant h).drive = h.drive ∧ (Hub.queryGrant h).inReset = h.inReset
    ∧ (Hub.queryGrant h).freeDraws = h.freeDraws := by
  unfold Hub.queryGrant
  and_intros <;> (try dsimp only) <;> (repeat' split) <;> simp

@[simp] theorem Hub.clearNext_frame (fl : Floor) (lo n : Nat) (g : Option Nat) :
    (Hub.clearNext fl lo n g h).time = h.time ∧ (Hub.clearNext fl lo n g h).table = h.table
    ∧ (Hub.clearNext fl lo n g h).scanner = h.scanner ∧ (Hub.clearNext fl lo n g h).lines = h.lines
    ∧ (Hub.clearNext fl lo n g h).sensors = h.sensors ∧ (Hub.clearNext fl lo n g h).queue = h.queue
    ∧ (Hub.clearNext fl lo n g h).updater = h.updater ∧ (Hub.clearNext fl lo n g h).odo = h.odo
    ∧ (Hub.clearNext fl lo n g h).permit = h.permit ∧ (Hub.clearNext fl lo n g h).route = h.route
    ∧ (Hub.clearNext fl lo n g h).limits = h.limits ∧ (Hub.clearNext fl lo n g h).trail = h.trail
    ∧ (Hub.clearNext fl lo n g h).dock = h.dock ∧ (Hub.clearNext fl lo n g h).beacon = h.beacon
    ∧ (Hub.clearNext fl lo n g h).load = h.load ∧ (Hub.clearNext fl lo n g h).store = h.store
    ∧ (Hub.clearNext fl lo n g h).flash = h.flash ∧ (Hub.clearNext fl lo n g h).drive = h.drive
    ∧ (Hub.clearNext fl lo n g h).inReset = h.inReset ∧ (Hub.clearNext fl lo n g h).freeDraws = h.freeDraws := by
  unfold Hub.clearNext
  and_intros <;> (try dsimp only) <;> (repeat' split) <;> simp

@[simp] theorem Hub.clearRemove_frame (fl : Floor) (k n : Nat) :
    (Hub.clearRemove fl k n h).time = h.time ∧ (Hub.clearRemove fl k n h).scanner = h.scanner
    ∧ (Hub.clearRemove fl k n h).lines = h.lines ∧ (Hub.clearRemove fl k n h).sensors = h.sensors
    ∧ (Hub.clearRemove fl k n h).queue = h.queue ∧ (Hub.clearRemove fl k n h).updater = h.updater
    ∧ (Hub.clearRemove fl k n h).odo = h.odo ∧ (Hub.clearRemove fl k n h).permit = h.permit
    ∧ (Hub.clearRemove fl k n h).route = h.route ∧ (Hub.clearRemove fl k n h).limits = h.limits
    ∧ (Hub.clearRemove fl k n h).trail = h.trail ∧ (Hub.clearRemove fl k n h).dock = h.dock
    ∧ (Hub.clearRemove fl k n h).beacon = h.beacon ∧ (Hub.clearRemove fl k n h).load = h.load
    ∧ (Hub.clearRemove fl k n h).store = h.store ∧ (Hub.clearRemove fl k n h).flash = h.flash
    ∧ (Hub.clearRemove fl k n h).drive = h.drive ∧ (Hub.clearRemove fl k n h).inReset = h.inReset
    ∧ (Hub.clearRemove fl k n h).freeDraws = h.freeDraws := by
  unfold Hub.clearRemove
  simp

@[simp] theorem Hub.mapClear_frame (l : List Byte) :
    (Hub.mapClear l h).time = h.time ∧ (Hub.mapClear l h).table = h.table
    ∧ (Hub.mapClear l h).scanner = h.scanner ∧ (Hub.mapClear l h).lines = h.lines
    ∧ (Hub.mapClear l h).sensors = h.sensors ∧ (Hub.mapClear l h).queue = h.queue
    ∧ (Hub.mapClear l h).updater = h.updater ∧ (Hub.mapClear l h).odo = h.odo
    ∧ (Hub.mapClear l h).permit = h.permit ∧ (Hub.mapClear l h).route = h.route
    ∧ (Hub.mapClear l h).limits = h.limits ∧ (Hub.mapClear l h).trail = h.trail
    ∧ (Hub.mapClear l h).dock = h.dock ∧ (Hub.mapClear l h).beacon = h.beacon ∧ (Hub.mapClear l h).load = h.load
    ∧ (Hub.mapClear l h).store = h.store ∧ (Hub.mapClear l h).flash = h.flash
    ∧ (Hub.mapClear l h).drive = h.drive ∧ (Hub.mapClear l h).inReset = h.inReset
    ∧ (Hub.mapClear l h).freeDraws = h.freeDraws := by
  unfold Hub.mapClear
  and_intros <;> (try dsimp only) <;> (repeat' split) <;> simp

@[simp] theorem Hub.clearGrant_frame :
    (Hub.clearGrant h).time = h.time ∧ (Hub.clearGrant h).scanner = h.scanner
    ∧ (Hub.clearGrant h).lines = h.lines ∧ (Hub.clearGrant h).sensors = h.sensors
    ∧ (Hub.clearGrant h).queue = h.queue ∧ (Hub.clearGrant h).updater = h.updater
    ∧ (Hub.clearGrant h).odo = h.odo ∧ (Hub.clearGrant h).permit = h.permit ∧ (Hub.clearGrant h).route = h.route
    ∧ (Hub.clearGrant h).limits = h.limits ∧ (Hub.clearGrant h).trail = h.trail
    ∧ (Hub.clearGrant h).dock = h.dock ∧ (Hub.clearGrant h).beacon = h.beacon ∧ (Hub.clearGrant h).load = h.load
    ∧ (Hub.clearGrant h).store = h.store ∧ (Hub.clearGrant h).flash = h.flash
    ∧ (Hub.clearGrant h).drive = h.drive ∧ (Hub.clearGrant h).inReset = h.inReset
    ∧ (Hub.clearGrant h).freeDraws = h.freeDraws := by
  unfold Hub.clearGrant
  and_intros <;> (try dsimp only) <;> (repeat' split) <;> simp

@[simp] theorem Hub.flashRead_frame (a : FlashAnswer) :
    (Hub.flashRead a h).time = h.time ∧ (Hub.flashRead a h).table = h.table
    ∧ (Hub.flashRead a h).scanner = h.scanner ∧ (Hub.flashRead a h).lines = h.lines
    ∧ (Hub.flashRead a h).sensors = h.sensors ∧ (Hub.flashRead a h).limits = h.limits
    ∧ (Hub.flashRead a h).beacon = h.beacon ∧ (Hub.flashRead a h).load = h.load
    ∧ (Hub.flashRead a h).plan = h.plan ∧ (Hub.flashRead a h).power = h.power
    ∧ (Hub.flashRead a h).drive = h.drive ∧ (Hub.flashRead a h).inReset = h.inReset
    ∧ (Hub.flashRead a h).freeDraws = h.freeDraws := by
  unfold Hub.flashRead
  and_intros <;> (try dsimp only) <;> (repeat' split) <;> simp

@[simp] theorem Hub.abortStore_frame :
    (Hub.abortStore h).time = h.time ∧ (Hub.abortStore h).table = h.table
    ∧ (Hub.abortStore h).scanner = h.scanner ∧ (Hub.abortStore h).lines = h.lines
    ∧ (Hub.abortStore h).sensors = h.sensors ∧ (Hub.abortStore h).limits = h.limits
    ∧ (Hub.abortStore h).beacon = h.beacon ∧ (Hub.abortStore h).load = h.load
    ∧ (Hub.abortStore h).plan = h.plan ∧ (Hub.abortStore h).power = h.power
    ∧ (Hub.abortStore h).drive = h.drive ∧ (Hub.abortStore h).inReset = h.inReset := by
  unfold Hub.abortStore
  and_intros <;> (try dsimp only) <;> (repeat' split) <;> simp

@[simp] theorem Hub.cutLookups_frame :
    (Hub.cutLookups h).time = h.time ∧ (Hub.cutLookups h).table = h.table
    ∧ (Hub.cutLookups h).scanner = h.scanner ∧ (Hub.cutLookups h).lines = h.lines
    ∧ (Hub.cutLookups h).sensors = h.sensors ∧ (Hub.cutLookups h).queue = h.queue
    ∧ (Hub.cutLookups h).updater = h.updater ∧ (Hub.cutLookups h).permit = h.permit
    ∧ (Hub.cutLookups h).route = h.route ∧ (Hub.cutLookups h).limits = h.limits
    ∧ (Hub.cutLookups h).trail = h.trail ∧ (Hub.cutLookups h).dock = h.dock
    ∧ (Hub.cutLookups h).beacon = h.beacon ∧ (Hub.cutLookups h).load = h.load
    ∧ (Hub.cutLookups h).store = h.store ∧ (Hub.cutLookups h).flash = h.flash ∧ (Hub.cutLookups h).plan = h.plan
    ∧ (Hub.cutLookups h).power = h.power ∧ (Hub.cutLookups h).drive = h.drive ∧ (Hub.cutLookups h).att = h.att
    ∧ (Hub.cutLookups h).inReset = h.inReset ∧ (Hub.cutLookups h).freeDraws = h.freeDraws := by
  unfold Hub.cutLookups
  and_intros <;> (try dsimp only) <;> (repeat' split) <;> simp

@[simp] theorem Hub.restartLease_frame :
    (Hub.restartLease h).time = h.time ∧ (Hub.restartLease h).table = h.table
    ∧ (Hub.restartLease h).scanner = h.scanner ∧ (Hub.restartLease h).lines = h.lines
    ∧ (Hub.restartLease h).sensors = h.sensors ∧ (Hub.restartLease h).queue = h.queue
    ∧ (Hub.restartLease h).updater = h.updater ∧ (Hub.restartLease h).odo = h.odo
    ∧ (Hub.restartLease h).permit = h.permit ∧ (Hub.restartLease h).limits = h.limits
    ∧ (Hub.restartLease h).trail = h.trail ∧ (Hub.restartLease h).dock = h.dock
    ∧ (Hub.restartLease h).beacon = h.beacon ∧ (Hub.restartLease h).load = h.load
    ∧ (Hub.restartLease h).store = h.store ∧ (Hub.restartLease h).flash = h.flash
    ∧ (Hub.restartLease h).plan = h.plan ∧ (Hub.restartLease h).power = h.power
    ∧ (Hub.restartLease h).drive = h.drive ∧ (Hub.restartLease h).att = h.att
    ∧ (Hub.restartLease h).inReset = h.inReset ∧ (Hub.restartLease h).freeDraws = h.freeDraws := by
  unfold Hub.restartLease
  and_intros <;> (try dsimp only) <;> (repeat' split) <;> simp

@[simp] theorem Hub.emptyQueue_frame :
    (Hub.emptyQueue h).time = h.time ∧ (Hub.emptyQueue h).table = h.table
    ∧ (Hub.emptyQueue h).scanner = h.scanner ∧ (Hub.emptyQueue h).lines = h.lines
    ∧ (Hub.emptyQueue h).sensors = h.sensors ∧ (Hub.emptyQueue h).odo = h.odo
    ∧ (Hub.emptyQueue h).permit = h.permit ∧ (Hub.emptyQueue h).route = h.route
    ∧ (Hub.emptyQueue h).limits = h.limits ∧ (Hub.emptyQueue h).trail = h.trail
    ∧ (Hub.emptyQueue h).dock = h.dock ∧ (Hub.emptyQueue h).beacon = h.beacon ∧ (Hub.emptyQueue h).load = h.load
    ∧ (Hub.emptyQueue h).store = h.store ∧ (Hub.emptyQueue h).flash = h.flash ∧ (Hub.emptyQueue h).plan = h.plan
    ∧ (Hub.emptyQueue h).power = h.power ∧ (Hub.emptyQueue h).drive = h.drive ∧ (Hub.emptyQueue h).att = h.att
    ∧ (Hub.emptyQueue h).inReset = h.inReset ∧ (Hub.emptyQueue h).freeDraws = h.freeDraws :=
  ⟨rfl, rfl, rfl, rfl, rfl, rfl, rfl, rfl, rfl, rfl, rfl, rfl, rfl, rfl, rfl, rfl, rfl, rfl, rfl, rfl, rfl⟩

@[simp] theorem Hub.restartBlock_frame :
    (Hub.restartBlock h).time = h.time ∧ (Hub.restartBlock h).table = h.table
    ∧ (Hub.restartBlock h).lines = h.lines ∧ (Hub.restartBlock h).sensors = h.sensors
    ∧ (Hub.restartBlock h).queue = h.queue ∧ (Hub.restartBlock h).updater = h.updater
    ∧ (Hub.restartBlock h).odo = h.odo ∧ (Hub.restartBlock h).permit = h.permit
    ∧ (Hub.restartBlock h).route = h.route ∧ (Hub.restartBlock h).limits = h.limits
    ∧ (Hub.restartBlock h).trail = h.trail ∧ (Hub.restartBlock h).dock = h.dock
    ∧ (Hub.restartBlock h).beacon = h.beacon ∧ (Hub.restartBlock h).load = h.load
    ∧ (Hub.restartBlock h).store = h.store ∧ (Hub.restartBlock h).flash = h.flash
    ∧ (Hub.restartBlock h).plan = h.plan ∧ (Hub.restartBlock h).power = h.power
    ∧ (Hub.restartBlock h).drive = h.drive ∧ (Hub.restartBlock h).att = h.att
    ∧ (Hub.restartBlock h).inReset = h.inReset ∧ (Hub.restartBlock h).freeDraws = h.freeDraws :=
  ⟨rfl, rfl, rfl, rfl, rfl, rfl, rfl, rfl, rfl, rfl, rfl, rfl, rfl, rfl, rfl, rfl, rfl, rfl, rfl, rfl, rfl, rfl⟩

@[simp] theorem Hub.resetAttention_frame :
    (Hub.resetAttention h).time = h.time ∧ (Hub.resetAttention h).table = h.table
    ∧ (Hub.resetAttention h).scanner = h.scanner ∧ (Hub.resetAttention h).lines = h.lines
    ∧ (Hub.resetAttention h).sensors = h.sensors ∧ (Hub.resetAttention h).queue = h.queue
    ∧ (Hub.resetAttention h).updater = h.updater ∧ (Hub.resetAttention h).odo = h.odo
    ∧ (Hub.resetAttention h).permit = h.permit ∧ (Hub.resetAttention h).route = h.route
    ∧ (Hub.resetAttention h).limits = h.limits ∧ (Hub.resetAttention h).trail = h.trail
    ∧ (Hub.resetAttention h).dock = h.dock ∧ (Hub.resetAttention h).beacon = h.beacon
    ∧ (Hub.resetAttention h).load = h.load ∧ (Hub.resetAttention h).store = h.store
    ∧ (Hub.resetAttention h).flash = h.flash ∧ (Hub.resetAttention h).plan = h.plan
    ∧ (Hub.resetAttention h).drive = h.drive ∧ (Hub.resetAttention h).inReset = h.inReset
    ∧ (Hub.resetAttention h).freeDraws = h.freeDraws :=
  ⟨rfl, rfl, rfl, rfl, rfl, rfl, rfl, rfl, rfl, rfl, rfl, rfl, rfl, rfl, rfl, rfl, rfl, rfl, rfl, rfl, rfl⟩

/-! ## The arbiter's memory after a Plan or Map Store grant -/

/-- A Plan request that is answered has no further claim to make. -/
theorem Hub.afterGrant_reply (r : Reply) :
    (h.reply .plan r).afterGrant .plan = { h.reply .plan r with table.resting := none } := rfl

/-- A Plan request that goes on in service has a further claim to make. -/
theorem Hub.afterGrant_serve (v : Service) :
    (h.serve v).afterGrant .plan = { h.serve v with table.resting := some .plan } := rfl

end Sys2Proof.Machine
end

