-- ==== Sys2Proof/Laws/Finer.lean ====
section
/-! SUPPORT. What the operations that may change a block leave of it as it was: the hold set, the position and heading,
the active floor, the slots of the table, the scanner's current mode. -/

namespace Sys2Proof.Machine

set_option linter.unnecessarySeqFocus false
set_option linter.unusedTactic false
set_option linter.unreachableTactic false

variable (h : Hub)

@[simp] theorem Hub.grant_keeps (c : Check) (v : Verdict) :
    (Hub.grant c v h).permit.holds = h.permit.holds := by
  unfold Hub.grant
  (try dsimp only) <;> (repeat' split) <;> simp

@[simp] theorem Hub.concludeCheck_keeps (c : Check) :
    (Hub.concludeCheck c h).permit.holds = h.permit.holds := by
  unfold Hub.concludeCheck
  (try dsimp only) <;> (repeat' split) <;> simp

@[simp] theorem Hub.settleCheck_keeps (c : Check) :
    (Hub.settleCheck c h).permit.holds = h.permit.holds := by
  unfold Hub.settleCheck
  (try dsimp only) <;> (repeat' split) <;> simp

@[simp] theorem Hub.startCheck_keeps (a : AskFrame) :
    (Hub.startCheck a h).permit.holds = h.permit.holds := by
  unfold Hub.startCheck
  (try dsimp only) <;> (repeat' split) <;> simp

@[simp] theorem Hub.inhibit_keeps :
    (Hub.inhibit h).permit.holds = h.permit.holds := by
  unfold Hub.inhibit
  (try dsimp only) <;> (repeat' split) <;> simp

@[simp] theorem Hub.endPermit_keeps :
    (Hub.endPermit h).permit.holds = h.permit.holds := by
  unfold Hub.endPermit
  (try dsimp only) <;> (repeat' split) <;> simp

@[simp] theorem Hub.markStale_keeps :
    (Hub.markStale h).permit.holds = h.permit.holds := by
  unfold Hub.markStale
  (try dsimp only) <;> (repeat' split) <;> simp

@[simp] theorem Hub.linkTrigger_keeps :
    (Hub.linkTrigger h).permit.holds = h.permit.holds := by
  unfold Hub.linkTrigger
  (try dsimp only) <;> (repeat' split) <;> simp

@[simp] theorem Hub.trigger_keeps (c : StopCause) (hr : c ≠ .restart) :
    (Hub.trigger c h).permit.holds = h.permit.holds := by
  unfold Hub.trigger
  cases c <;> dsimp only <;> (repeat' split) <;> simp_all

@[simp] theorem Hub.settleRecheck_keeps (sw : Sweep) :
    (Hub.settleRecheck sw h).permit.holds = h.permit.holds := by
  unfold Hub.settleRecheck
  (try dsimp only) <;> (repeat' split) <;> simp

@[simp] theorem Hub.startRecheck_keeps :
    (Hub.startRecheck h).permit.holds = h.permit.holds := by
  unfold Hub.startRecheck
  (try dsimp only) <;> (repeat' split) <;> simp

@[simp] theorem Hub.startPending_keeps :
    (Hub.startPending h).permit.holds = h.permit.holds := by
  unfold Hub.startPending
  (try dsimp only) <;> (repeat' split) <;> simp

@[simp] theorem Hub.recheckAsked_keeps :
    (Hub.recheckAsked h).permit.holds = h.permit.holds := by
  unfold Hub.recheckAsked
  (try dsimp only) <;> (repeat' split) <;> simp

@[simp] theorem Hub.notify_keeps :
    (Hub.notify h).permit.holds = h.permit.holds := by
  unfold Hub.notify
  (try dsimp only) <;> (repeat' split) <;> simp

@[simp] theorem Hub.noteSecond_keeps (w : SecondPlace) :
    (Hub.noteSecond w h).table.slots = h.table.slots := by
  unfold Hub.noteSecond
  (try dsimp only) <;> (repeat' split) <;> simp

@[simp] theorem Hub.writeEffect_keeps (k : Nat) (e : Entry) (x : Effect) :
    (Hub.writeEffect k e x h).permit.holds = h.permit.holds := by
  unfold Hub.writeEffect
  (try dsimp only) <;> (repeat' split) <;> simp

@[simp] theorem Hub.writeCreate_keeps (k : Nat) (e : Entry) :
    (Hub.writeCreate k e h).permit.holds = h.permit.holds := by
  unfold Hub.writeCreate
  (try dsimp only) <;> (repeat' split) <;> simp

@[simp] theorem Hub.applyWrite_keeps (i : Item) (fl : Floor) (t : Tile) :
    (Hub.applyWrite i fl t h).permit.holds = h.permit.holds := by
  unfold Hub.applyWrite
  (try dsimp only) <;> (repeat' split) <;> simp

@[simp] theorem Hub.brushWrite_keeps (i : Item) (fl : Floor) (k : Nat) (t : Tile) :
    (Hub.brushWrite i fl k t h).permit.holds = h.permit.holds := by
  unfold Hub.brushWrite
  (try dsimp only) <;> (repeat' split) <;> simp

@[simp] theorem Hub.applyGrant_keeps :
    (Hub.applyGrant h).permit.holds = h.permit.holds := by
  unfold Hub.applyGrant
  (try dsimp only) <;> (repeat' split) <;> simp

@[simp] theorem Hub.plannedGrant_keeps :
    (Hub.plannedGrant h).permit.holds = h.permit.holds ∧ (Hub.plannedGrant h).table.slots = h.table.slots := by
  unfold Hub.plannedGrant
  and_intros <;> (try dsimp only) <;> (repeat' split) <;> simp

@[simp] theorem Hub.searchGrant_keeps :
    (Hub.searchGrant h).permit.holds = h.permit.holds ∧ (Hub.searchGrant h).table.slots = h.table.slots := by
  unfold Hub.searchGrant
  and_intros <;> (try dsimp only) <;> (repeat' split) <;> simp

@[simp] theorem Hub.replaceVictim_keeps (k : Nat) (e : Entry) :
    (Hub.replaceVictim k e h).permit.holds = h.permit.holds := by
  unfold Hub.replaceVictim
  (try dsimp only) <;> (repeat' split) <;> simp

@[simp] theorem Hub.evictGrant_keeps :
    (Hub.evictGrant h).permit.holds = h.permit.holds := by
  unfold Hub.evictGrant
  (try dsimp only) <;> (repeat' split) <;> simp

@[simp] theorem Hub.restartTracking_keeps :
    (Hub.restartTracking h).odo.x = h.odo.x ∧ (Hub.restartTracking h).odo.y = h.odo.y
    ∧ (Hub.restartTracking h).odo.heading = h.odo.heading ∧ (Hub.restartTracking h).odo.floor = h.odo.floor :=
  ⟨rfl, rfl, rfl, rfl⟩

@[simp] theorem Hub.cancelPassOver_keeps :
    (Hub.cancelPassOver h).odo.x = h.odo.x ∧ (Hub.cancelPassOver h).odo.y = h.odo.y
    ∧ (Hub.cancelPassOver h).odo.heading = h.odo.heading ∧ (Hub.cancelPassOver h).odo.floor = h.odo.floor :=
  ⟨rfl, rfl, rfl, rfl⟩

@[simp] theorem Hub.poseEntry_keeps (p : PoseState) :
    (Hub.poseEntry p h).permit.holds = h.permit.holds ∧ (Hub.poseEntry p h).odo.x = h.odo.x
    ∧ (Hub.poseEntry p h).odo.y = h.odo.y ∧ (Hub.poseEntry p h).odo.heading = h.odo.heading
    ∧ (Hub.poseEntry p h).odo.floor = h.odo.floor ∧ (Hub.poseEntry p h).scanner.averaged = h.scanner.averaged := by
  simp [Hub.poseEntry]

@[simp] theorem Hub.enterLost_keeps (c : LossCause) :
    (Hub.enterLost c h).permit.holds = h.permit.holds ∧ (Hub.enterLost c h).odo.x = h.odo.x
    ∧ (Hub.enterLost c h).odo.y = h.odo.y ∧ (Hub.enterLost c h).odo.heading = h.odo.heading
    ∧ (Hub.enterLost c h).odo.floor = h.odo.floor ∧ (Hub.enterLost c h).scanner.averaged = h.scanner.averaged := by
  simp [Hub.enterLost]

@[simp] theorem Hub.enterLifted_keeps :
    (Hub.enterLifted h).permit.holds = h.permit.holds ∧ (Hub.enterLifted h).odo.x = h.odo.x
    ∧ (Hub.enterLifted h).odo.y = h.odo.y ∧ (Hub.enterLifted h).odo.heading = h.odo.heading
    ∧ (Hub.enterLifted h).odo.floor = h.odo.floor ∧ (Hub.enterLifted h).scanner.averaged = h.scanner.averaged := by
  simp [Hub.enterLifted]

@[simp] theorem Hub.loadPose_keeps (p : Pose) :
    (Hub.loadPose p h).odo.floor = h.odo.floor := by
  unfold Hub.loadPose
  (try dsimp only) <;> (repeat' split) <;> simp

@[simp] theorem Hub.place_keeps (p : Pose) :
    (Hub.place p h).odo.floor = h.odo.floor ∧ (Hub.place p h).scanner.averaged = h.scanner.averaged := by
  unfold Hub.place
  and_intros <;> (try dsimp only) <;> (repeat' split) <;> simp

@[simp] theorem Hub.applyTicks_keeps (l r : Int) :
    (Hub.applyTicks l r h).odo.floor = h.odo.floor
    ∧ (Hub.applyTicks l r h).scanner.averaged = h.scanner.averaged := by
  unfold Hub.applyTicks
  and_intros <;> (try dsimp only) <;> (repeat' split) <;> simp

@[simp] theorem Hub.dockedCorrection_keeps :
    (Hub.dockedCorrection h).odo.floor = h.odo.floor
    ∧ (Hub.dockedCorrection h).scanner.averaged = h.scanner.averaged := by
  unfold Hub.dockedCorrection
  and_intros <;> (try dsimp only) <;> (repeat' split) <;> simp

@[simp] theorem Hub.endLookup_keeps (w : LookupFor) :
    (Hub.endLookup w h).odo.x = h.odo.x ∧ (Hub.endLookup w h).odo.y = h.odo.y
    ∧ (Hub.endLookup w h).odo.heading = h.odo.heading ∧ (Hub.endLookup w h).odo.floor = h.odo.floor := by
  unfold Hub.endLookup
  and_intros <;> (try dsimp only) <;> (repeat' split) <;> simp

@[simp] theorem Hub.readOn_keeps (r : TileRead) :
    (Hub.readOn r h).odo.x = h.odo.x ∧ (Hub.readOn r h).odo.y = h.odo.y
    ∧ (Hub.readOn r h).odo.heading = h.odo.heading ∧ (Hub.readOn r h).odo.floor = h.odo.floor :=
  ⟨rfl, rfl, rfl, rfl⟩

@[simp] theorem Hub.centreEnd_keeps (b : Bool) (p : Option Pile) :
    (Hub.centreEnd b p h).odo.x = h.odo.x ∧ (Hub.centreEnd b p h).odo.y = h.odo.y
    ∧ (Hub.centreEnd b p h).odo.heading = h.odo.heading ∧ (Hub.centreEnd b p h).odo.floor = h.odo.floor
    ∧ (Hub.centreEnd b p h).scanner.averaged = h.scanner.averaged := by
  unfold Hub.centreEnd
  and_intros <;> (try dsimp only) <;> (repeat' split) <;> simp

@[simp] theorem Hub.centreDone_keeps :
    (Hub.centreDone h).odo.x = h.odo.x ∧ (Hub.centreDone h).odo.y = h.odo.y
    ∧ (Hub.centreDone h).odo.heading = h.odo.heading ∧ (Hub.centreDone h).odo.floor = h.odo.floor
    ∧ (Hub.centreDone h).table.slots = h.table.slots ∧ (Hub.centreDone h).scanner.averaged = h.scanner.averaged := by
  unfold Hub.centreDone
  and_intros <;> (try dsimp only) <;> (repeat' split) <;> simp [Hub.lookupGranted]

@[simp] theorem Hub.passOverEnd_keeps (sd : Side) (l : Lookup) :
    (Hub.passOverEnd sd l h).odo.x = h.odo.x ∧ (Hub.passOverEnd sd l h).odo.y = h.odo.y
    ∧ (Hub.passOverEnd sd l h).odo.heading = h.odo.heading ∧ (Hub.passOverEnd sd l h).odo.floor = h.odo.floor
    ∧ (Hub.passOverEnd sd l h).table.slots = h.table.slots := by
  unfold Hub.passOverEnd
  and_intros <;> dsimp only <;> (repeat' split) <;> cases sd <;> simp [Odometry.setWheel]

@[simp] theorem Hub.passOverDone_keeps (sd : Side) :
    (Hub.passOverDone sd h).odo.x = h.odo.x ∧ (Hub.passOverDone sd h).odo.y = h.odo.y
    ∧ (Hub.passOverDone sd h).odo.heading = h.odo.heading ∧ (Hub.passOverDone sd h).odo.floor = h.odo.floor
    ∧ (Hub.passOverDone sd h).table.slots = h.table.slots := by
  unfold Hub.passOverDone
  and_intros <;> (repeat' split) <;> simp [Hub.lookupGranted]

@[simp] theorem Hub.endStartUp_keeps (fl : Floor) :
    (Hub.endStartUp fl h).permit.holds = h.permit.holds ∧ (Hub.endStartUp fl h).odo.x = h.odo.x
    ∧ (Hub.endStartUp fl h).odo.y = h.odo.y ∧ (Hub.endStartUp fl h).odo.heading = h.odo.heading := by
  unfold Hub.endStartUp
  and_intros <;> (try dsimp only) <;> (repeat' split) <;> simp

@[simp] theorem Hub.endStore_keeps (r : StoreResult) (b : Bool) :
    (Hub.endStore r b h).permit.holds = h.permit.holds ∧ (Hub.endStore r b h).odo.x = h.odo.x
    ∧ (Hub.endStore r b h).odo.y = h.odo.y ∧ (Hub.endStore r b h).odo.heading = h.odo.heading := by
  unfold Hub.endStore
  and_intros <;> (try dsimp only) <;> (repeat' split) <;> simp

@[simp] theorem Hub.saveReady_keeps (o : SaveOp) :
    (Hub.saveReady o h).permit.holds = h.permit.holds ∧ (Hub.saveReady o h).odo.x = h.odo.x
    ∧ (Hub.saveReady o h).odo.y = h.odo.y ∧ (Hub.saveReady o h).odo.heading = h.odo.heading := by
  unfold Hub.saveReady
  and_intros <;> (try dsimp only) <;> (repeat' split) <;> simp

@[simp] theorem Hub.loadEnd_keeps (o : LoadOp) :
    (Hub.loadEnd o h).permit.holds = h.permit.holds ∧ (Hub.loadEnd o h).odo.x = h.odo.x
    ∧ (Hub.loadEnd o h).odo.y = h.odo.y ∧ (Hub.loadEnd o h).odo.heading = h.odo.heading := by
  unfold Hub.loadEnd
  and_intros <;> (try dsimp only) <;> (repeat' split) <;> simp

@[simp] theorem Hub.fetchEntry_keeps (o : LoadOp) (i : Nat) :
    (Hub.fetchEntry o i h).permit.holds = h.permit.holds ∧ (Hub.fetchEntry o i h).odo.x = h.odo.x
    ∧ (Hub.fetchEntry o i h).odo.y = h.odo.y ∧ (Hub.fetchEntry o i h).odo.heading = h.odo.heading := by
  unfold Hub.fetchEntry
  and_intros <;> (try dsimp only) <;> (repeat' split) <;> simp

@[simp] theorem Hub.removeNext_keeps (o : LoadOp) (i : Nat) :
    (Hub.removeNext o i h).permit.holds = h.permit.holds ∧ (Hub.removeNext o i h).odo.x = h.odo.x
    ∧ (Hub.removeNext o i h).odo.y = h.odo.y ∧ (Hub.removeNext o i h).odo.heading = h.odo.heading := by
  unfold Hub.removeNext
  and_intros <;> (try dsimp only) <;> (repeat' split) <;> simp

@[simp] theorem Hub.judgeEntry_keeps (o : LoadOp) (i : Nat) :
    (Hub.judgeEntry o i h).permit.holds = h.permit.holds ∧ (Hub.judgeEntry o i h).odo.x = h.odo.x
    ∧ (Hub.judgeEntry o i h).odo.y = h.odo.y ∧ (Hub.judgeEntry o i h).odo.heading = h.odo.heading := by
  unfold Hub.judgeEntry
  and_intros <;> (try dsimp only) <;> (repeat' split) <;> simp

@[simp] theorem Hub.loadRead_keeps (o : LoadOp) (a : FlashAnswer) :
    (Hub.loadRead o a h).permit.holds = h.permit.holds ∧ (Hub.loadRead o a h).odo.x = h.odo.x
    ∧ (Hub.loadRead o a h).odo.y = h.odo.y ∧ (Hub.loadRead o a h).odo.heading = h.odo.heading := by
  unfold Hub.loadRead
  and_intros <;> (try dsimp only) <;> (repeat' split) <;> simp

@[simp] theorem Hub.removalGrant_keeps :
    (Hub.removalGrant h).permit.holds = h.permit.holds ∧ (Hub.removalGrant h).odo.x = h.odo.x
    ∧ (Hub.removalGrant h).odo.y = h.odo.y ∧ (Hub.removalGrant h).odo.heading = h.odo.heading := by
  unfold Hub.removalGrant
  and_intros <;> (try dsimp only) <;> (repeat' split) <;> simp

@[simp] theorem Hub.insertGrant_keeps :
    (Hub.insertGrant h).permit.holds = h.permit.holds ∧ (Hub.insertGrant h).odo.x = h.odo.x
    ∧ (Hub.insertGrant h).odo.y = h.odo.y ∧ (Hub.insertGrant h).odo.heading = h.odo.heading := by
  unfold Hub.insertGrant
  and_intros <;> (try dsimp only) <;> (repeat' split) <;> simp

@[simp] theorem Hub.noteClear_keeps (l : List Item) :
    (Hub.noteClear l h).scanner.averaged = h.scanner.averaged := by
  unfold Hub.noteClear
  (try dsimp only) <;> (repeat' split) <;> simp

@[simp] theorem Hub.blockEnd_keeps :
    (Hub.blockEnd h).permit.holds = h.permit.holds := by
  unfold Hub.blockEnd
  (try dsimp only) <;> (repeat' split) <;> simp

@[simp] theorem Hub.endBlockEarly_keeps :
    (Hub.endBlockEarly h).permit.holds = h.permit.holds := by
  unfold Hub.endBlockEarly
  (try dsimp only) <;> (repeat' split) <;> simp

@[simp] theorem Hub.scan_keeps (g : ScanReading) :
    (Hub.scan g h).permit.holds = h.permit.holds := by
  unfold Hub.scan
  (try dsimp only) <;> (repeat' split) <;> simp

@[simp] theorem Hub.bumpAssert_keeps (sd : Side) :
    (Hub.bumpAssert sd h).permit.holds = h.permit.holds := by
  unfold Hub.bumpAssert
  (try dsimp only) <;> (repeat' split) <;> simp

@[simp] theorem Hub.dropAssert_keeps (sd : Side) :
    (Hub.dropAssert sd h).permit.holds = h.permit.holds ∧ (Hub.dropAssert sd h).odo.x = h.odo.x
    ∧ (Hub.dropAssert sd h).odo.y = h.odo.y ∧ (Hub.dropAssert sd h).odo.heading = h.odo.heading
    ∧ (Hub.dropAssert sd h).odo.floor = h.odo.floor := by
  unfold Hub.dropAssert
  and_intros <;> (try dsimp only) <;> (repeat' split) <;> simp

@[simp] theorem Hub.lineChanged_keeps (l : Line) (b : Bool) :
    (Hub.lineChanged l b h).permit.holds = h.permit.holds ∧ (Hub.lineChanged l b h).odo.x = h.odo.x
    ∧ (Hub.lineChanged l b h).odo.y = h.odo.y ∧ (Hub.lineChanged l b h).odo.heading = h.odo.heading
    ∧ (Hub.lineChanged l b h).odo.floor = h.odo.floor := by
  unfold Hub.lineChanged
  and_intros <;> (try dsimp only) <;> (repeat' split) <;> simp

@[simp] theorem Hub.sampleLine_keeps (g : PerLine Bool) (l : Line) :
    (Hub.sampleLine g h l).permit.holds = h.permit.holds ∧ (Hub.sampleLine g h l).odo.x = h.odo.x
    ∧ (Hub.sampleLine g h l).odo.y = h.odo.y ∧ (Hub.sampleLine g h l).odo.heading = h.odo.heading
    ∧ (Hub.sampleLine g h l).odo.floor = h.odo.floor := by
  unfold Hub.sampleLine
  and_intros <;> (try dsimp only) <;> (repeat' split) <;> simp

@[simp] theorem Hub.lineSample_keeps (g : PerLine Bool) :
    (Hub.lineSample g h).permit.holds = h.permit.holds ∧ (Hub.lineSample g h).odo.x = h.odo.x
    ∧ (Hub.lineSample g h).odo.y = h.odo.y ∧ (Hub.lineSample g h).odo.heading = h.odo.heading
    ∧ (Hub.lineSample g h).odo.floor = h.odo.floor := by
  unfold Hub.lineSample
  and_intros <;> (try dsimp only) <;> (repeat' split) <;> simp

@[simp] theorem Hub.setDownExpired_keeps :
    (Hub.setDownExpired h).permit.holds = h.permit.holds ∧ (Hub.setDownExpired h).odo.x = h.odo.x
    ∧ (Hub.setDownExpired h).odo.y = h.odo.y ∧ (Hub.setDownExpired h).odo.heading = h.odo.heading
    ∧ (Hub.setDownExpired h).odo.floor = h.odo.floor
    ∧ (Hub.setDownExpired h).scanner.averaged = h.scanner.averaged := by
  unfold Hub.setDownExpired
  and_intros <;> (try dsimp only) <;> (repeat' split) <;> simp

@[simp] theorem Hub.stopExpired_keeps :
    (Hub.stopExpired h).permit.holds = h.permit.holds := by
  unfold Hub.stopExpired
  (try dsimp only) <;> (repeat' split) <;> simp

@[simp] theorem Hub.takeTicks_keeps (a : AskFrame) :
    (Hub.takeTicks a h).odo.floor = h.odo.floor ∧ (Hub.takeTicks a h).scanner.averaged = h.scanner.averaged := by
  unfold Hub.takeTicks
  and_intros <;> (try dsimp only) <;> (repeat' split) <;> simp

@[simp] theorem Hub.ask_keeps (a : AskFrame) :
    (Hub.ask a h).odo.floor = h.odo.floor ∧ (Hub.ask a h).scanner.averaged = h.scanner.averaged := by
  unfold Hub.ask
  and_intros <;> (try dsimp only) <;> (repeat' split) <;> simp

@[simp] theorem Hub.stopDone_keeps :
    (Hub.stopDone h).permit.holds = h.permit.holds := by
  unfold Hub.stopDone
  (try dsimp only) <;> (repeat' split) <;> simp

@[simp] theorem Hub.linkBreak_keeps :
    (Hub.linkBreak h).permit.holds = h.permit.holds := by
  unfold Hub.linkBreak
  (try dsimp only) <;> (repeat' split) <;> simp

@[simp] theorem Hub.badFrame_keeps :
    (Hub.badFrame h).permit.holds = h.permit.holds := by
  unfold Hub.badFrame
  (try dsimp only) <;> (repeat' split) <;> simp

@[simp] theorem Hub.heldLow_keeps (b : List LinkChar) :
    (Hub.heldLow b h).permit.holds = h.permit.holds := by
  unfold Hub.heldLow
  cases h.drive.rx.follow b <;> (try dsimp only [Option.elim]) <;> (repeat' split) <;> simp

@[simp] theorem Hub.clearCounters_keeps :
    (Hub.clearCounters h).permit.holds = h.permit.holds ∧ (Hub.clearCounters h).table.slots = h.table.slots := by
  unfold Hub.clearCounters
  and_intros <;> (try dsimp only) <;> (repeat' split) <;> simp

@[simp] theorem Hub.moveToFloor_keeps (fl : Floor) :
    (Hub.moveToFloor fl h).permit.holds = h.permit.holds ∧ (Hub.moveToFloor fl h).odo.x = h.odo.x
    ∧ (Hub.moveToFloor fl h).odo.y = h.odo.y ∧ (Hub.moveToFloor fl h).odo.heading = h.odo.heading
    ∧ (Hub.moveToFloor fl h).scanner.averaged = h.scanner.averaged := by
  unfold Hub.moveToFloor
  and_intros <;> (try dsimp only) <;> (repeat' split) <;> simp

@[simp] theorem Hub.setFloor_keeps (l : List Byte) :
    (Hub.setFloor l h).permit.holds = h.permit.holds ∧ (Hub.setFloor l h).odo.x = h.odo.x
    ∧ (Hub.setFloor l h).odo.y = h.odo.y ∧ (Hub.setFloor l h).odo.heading = h.odo.heading
    ∧ (Hub.setFloor l h).scanner.averaged = h.scanner.averaged := by
  unfold Hub.setFloor
  and_intros <;> (try dsimp only) <;> (repeat' split) <;> simp

@[simp] theorem Hub.placeAt_keeps (p : Pose) (fl : Floor) :
    (Hub.placeAt p fl h).scanner.averaged = h.scanner.averaged := by
  unfold Hub.placeAt
  (try dsimp only) <;> (repeat' split) <;> simp

@[simp] theorem Hub.setPose_keeps (l : List Byte) :
    (Hub.setPose l h).scanner.averaged = h.scanner.averaged := by
  unfold Hub.setPose
  (try dsimp only) <;> (repeat' split) <;> simp

@[simp] theorem Hub.releaseInhibit_keeps :
    (Hub.releaseInhibit h).permit.holds = h.permit.holds := by
  unfold Hub.releaseInhibit
  (try dsimp only) <;> (repeat' split) <;> simp

@[simp] theorem Hub.mapLoad_keeps (l : List Byte) :
    (Hub.mapLoad l h).permit.holds = h.permit.holds := by
  unfold Hub.mapLoad
  (try dsimp only) <;> (repeat' split) <;> simp

@[simp] theorem Hub.loadMode_keeps (l : List Byte) :
    (Hub.loadMode l h).scanner.averaged = h.scanner.averaged := by
  unfold Hub.loadMode
  (try dsimp only) <;> (repeat' split) <;> simp

@[simp] theorem Hub.docked_keeps :
    (Hub.docked h).odo.floor = h.odo.floor ∧ (Hub.docked h).scanner.averaged = h.scanner.averaged := by
  unfold Hub.docked
  and_intros <;> (try dsimp only) <;> (repeat' split) <;> simp

@[simp] theorem Hub.checkClaim_keeps :
    (Hub.checkClaim h).permit.holds = h.permit.holds := by
  unfold Hub.checkClaim
  (try dsimp only) <;> (repeat' split) <;> simp

@[simp] theorem Hub.recheckClaim_keeps :
    (Hub.recheckClaim h).permit.holds = h.permit.holds := by
  unfold Hub.recheckClaim
  (try dsimp only) <;> (repeat' split) <;> simp

@[simp] theorem Hub.putGrant_keeps :
    (Hub.putGrant h).permit.holds = h.permit.holds := by
  unfold Hub.putGrant
  (try dsimp only) <;> (repeat' split) <;> simp

@[simp] theorem Hub.flashRead_keeps (a : FlashAnswer) :
    (Hub.flashRead a h).permit.holds = h.permit.holds ∧ (Hub.flashRead a h).odo.x = h.odo.x
    ∧ (Hub.flashRead a h).odo.y = h.odo.y ∧ (Hub.flashRead a h).odo.heading = h.odo.heading := by
  unfold Hub.flashRead
  and_intros <;> (try dsimp only) <;> (repeat' split) <;> simp

@[simp] theorem Hub.abortStore_keeps :
    (Hub.abortStore h).permit.holds = h.permit.holds ∧ (Hub.abortStore h).odo.x = h.odo.x
    ∧ (Hub.abortStore h).odo.y = h.odo.y ∧ (Hub.abortStore h).odo.heading = h.odo.heading := by
  unfold Hub.abortStore
  and_intros <;> (try dsimp only) <;> (repeat' split) <;> simp

@[simp] theorem Hub.cutLookups_keeps :
    (Hub.cutLookups h).odo.x = h.odo.x ∧ (Hub.cutLookups h).odo.y = h.odo.y
    ∧ (Hub.cutLookups h).odo.heading = h.odo.heading ∧ (Hub.cutLookups h).odo.floor = h.odo.floor := by
  unfold Hub.cutLookups
  and_intros <;> (try dsimp only) <;> (repeat' split) <;> simp

@[simp] theorem Hub.restartBlock_keeps :
    (Hub.restartBlock h).scanner.averaged = h.scanner.averaged := by
  unfold Hub.restartBlock
  (try dsimp only) <;> (repeat' split) <;> simp

end Sys2Proof.Machine
end

