-- ==== Sys2Proof/Laws/Memory.lean ====
section
/-!
SUPPORT. The flash's memory and the slots of the Hazard Table: every operation on the memory keeps its one form, what a
byte reads as after each, and what a slot holds after a change of the table.
-/

namespace Sys2Proof.Machine

/-! ## The memory -/

theorem Memory.wf_iff (m : Memory) :
    m.wf = true ↔ m.Pairwise (fun a b => a.1 < b.1) ∧ ∀ c ∈ m, c.2 ≠ Memory.blank := by
  simp [Memory.wf]

theorem Memory.write_mem {m : Memory} {a : Nat} {b : Byte} {c : Host.Cell} (hc : c ∈ m.write a b) :
    c ∈ m ∨ (c = (a, b) ∧ b ≠ Memory.blank) := by
  induction m with
  | nil => unfold Memory.write at hc; split at hc <;> simp_all
  | cons d rest ih =>
    unfold Memory.write at hc
    split at hc
    · rcases List.mem_cons.mp hc with rfl | hr
      · simp
      · rcases ih hr with h | h
        · exact .inl (List.mem_cons_of_mem _ h)
        · exact .inr h
    · split at hc <;> split at hc <;> simp_all <;> tauto

theorem Memory.write_wf {m : Memory} (a : Nat) (b : Byte) (hm : m.wf = true) : (m.write a b).wf = true := by
  rw [Memory.wf_iff] at hm ⊢
  refine ⟨?_, fun c hc => ?_⟩
  · obtain ⟨hp, -⟩ := hm
    induction m with
    | nil => unfold Memory.write; split <;> simp
    | cons d rest ih =>
      rw [List.pairwise_cons] at hp
      unfold Memory.write
      split
      · rename_i hlt
        refine List.pairwise_cons.mpr ⟨fun c hc => ?_, ih hp.2⟩
        rcases Memory.write_mem hc with h | ⟨rfl, -⟩
        · exact hp.1 c h
        · exact hlt
      · rename_i hge
        split <;> split
        · exact hp.2
        · exact List.pairwise_cons.mpr ⟨fun c hc => by have := hp.1 c hc; simp_all, hp.2⟩
        · exact List.pairwise_cons.mpr hp
        · refine List.pairwise_cons.mpr ⟨fun c hc => ?_, List.pairwise_cons.mpr hp⟩
          rcases List.mem_cons.mp hc with rfl | h
          · simp only; omega
          · have := hp.1 c h; simp only; omega
  · rcases Memory.write_mem hc with h | ⟨rfl, hb⟩
    · exact hm.2 c h
    · exact hb

theorem Memory.writeAll_wf {m : Memory} (a : Nat) (l : List Byte) (hm : m.wf = true) : (m.writeAll a l).wf = true := by
  induction l generalizing m a with
  | nil => exact hm
  | cons b rest ih => exact ih _ (Memory.write_wf a b hm)

theorem Memory.eraseSector_wf {m : Memory} (a : Nat) (hm : m.wf = true) : (m.eraseSector a).wf = true := by
  rw [Memory.wf_iff] at hm ⊢
  exact ⟨hm.1.filter _, fun c hc => hm.2 c (List.mem_filter.mp hc).1⟩

/-- What the supply's fall leaves of the flash is in its one form. -/
theorem Hub.fallenFlash_wf {h : Hub} (hm : h.flash.wf = true) : h.fallenFlash.wf = true := by
  unfold Hub.fallenFlash
  split
  · exact hm
  · exact Memory.writeAll_wf _ _ hm

/-- The commands of the flash link keep the flash in its one form. -/
theorem Hub.flashCommand_wf {h : Hub} (c : FlashCommand) (hm : h.flash.wf = true) :
    (h.flashCommand c).flash.wf = true := by
  cases c with
  | sectorErase a => exact Memory.eraseSector_wf a hm
  | pageProgram a data => exact hm
  | read a => exact hm
  | writeEnable => exact hm
  | readStatus => exact hm

theorem Hub.flashSend_wf {h : Hub} (l : List FlashCommand) (hm : h.flash.wf = true) :
    (h.flashSend l).flash.wf = true := by
  change (l.foldl Hub.flashCommand h).flash.wf = true
  induction l generalizing h with
  | nil => exact hm
  | cons c rest ih => exact ih (Hub.flashCommand_wf c hm)

theorem Hub.flashDone_wf {h : Hub} (hm : h.flash.wf = true) : h.flashDone.flash.wf = true := by
  unfold Hub.flashDone Store.programmed
  dsimp only
  split
  · exact Memory.writeAll_wf _ _ hm
  · exact hm

theorem Hub.cutMarker_wf {h : Hub} (hm : h.flash.wf = true) : h.cutMarker.flash.wf = true := by
  unfold Hub.cutMarker
  split
  · exact Hub.fallenFlash_wf hm
  · exact hm

/-- The memory after reset is in its one form. -/
theorem Memory.reset_wf : State.reset.hub.flash.wf = true := rfl

/-- A byte that has been written reads as what was written. -/
theorem Memory.read_write_same {m : Memory} (a : Nat) (b : Byte) (hm : m.wf = true) : (m.write a b).read a = b := by
  rw [Memory.wf_iff] at hm
  obtain ⟨hp, -⟩ := hm
  induction m with
  | nil => unfold Memory.write; split <;> simp_all [Memory.read]
  | cons d rest ih =>
    rw [List.pairwise_cons] at hp
    have gone (h : ∀ c ∈ rest, a < c.1) : rest.find? (·.1 == a) = none := by
      refine List.find?_eq_none.mpr fun c hc => ?_
      have := h c hc; simp; omega
    unfold Memory.write
    split
    · rename_i hlt
      have hne : d.1 ≠ a := by omega
      have := ih hp.2
      simp_all [Memory.read]
    · split <;> split
      · rename_i h1 h2; subst h1
        have := gone fun c hc => by have := hp.1 c hc; omega
        simp [Memory.read, this, h2]
      · simp [Memory.read]
      · rename_i h1 h2 h3; subst h3
        have := gone fun c hc => by have := hp.1 c hc; omega
        simp [Memory.read, this, h2]
      · simp [Memory.read]

/-- A write leaves every other byte as it reads. -/
theorem Memory.read_write_other {m : Memory} {a c : Nat} (b : Byte) (hc : c ≠ a) : (m.write a b).read c = m.read c := by
  induction m with
  | nil => unfold Memory.write; split <;> simp [Memory.read, Ne.symm hc]
  | cons d rest ih =>
    unfold Memory.write
    have step (l k : Memory) (h : Memory.read l c = Memory.read k c) : Memory.read (d :: l) c = Memory.read (d :: k) c := by
      unfold Memory.read at h ⊢
      by_cases hd : d.1 = c
      · simp [hd]
      · simpa [hd] using h
    split
    · exact step _ _ ih
    · split <;> split <;> simp_all [Memory.read, Ne.symm hc]

/-- Writing some bytes leaves every byte outside them as it reads. -/
theorem Memory.read_writeAll_other {m : Memory} {a c : Nat} (l : List Byte) (hc : c < a ∨ a + l.length ≤ c) :
    (m.writeAll a l).read c = m.read c := by
  induction l generalizing m a with
  | nil => rfl
  | cons b l ih =>
    simp only [List.length_cons] at hc
    rw [Memory.writeAll, ih (by omega), Memory.read_write_other b (by omega)]

/-- The first of some bytes written reads back. -/
theorem Memory.read_writeAll_first {m : Memory} (a : Nat) (b : Byte) (l : List Byte) (hm : m.wf = true) :
    (m.writeAll a (b :: l)).read a = b := by
  rw [Memory.writeAll, Memory.read_writeAll_other l (by omega), Memory.read_write_same a b hm]

/-- A command cut leaves what lies outside its range (R181). -/
theorem Hub.fallenFlash_outside {h : Hub} {c : FlashCommand} (hc : h.store.underWay = some c) {a : Nat}
    (ha : a < c.range.1 ∨ c.range.1 + c.range.2 ≤ a) : h.fallenFlash.read a = h.flash.read a := by
  simp only [Hub.fallenFlash, hc]
  exact Memory.read_writeAll_other _ (by simpa using ha)

/-- A marker's program cut leaves no whole marker (R174, R181). -/
theorem Hub.fallenFlash_noMarker {h : Hub} (hc : h.store.underWay = some (.pageProgram 0 imageMarker))
    (hm : h.flash.wf = true) : h.fallenFlash.bytes 0 4 ≠ imageMarker := by
  intro he
  have h0 : h.fallenFlash.read 0 = 0x5A#8 := by
    have := congrArg (·.head?) he
    simpa [Memory.bytes, imageMarker, List.range_succ] using this
  simp only [Hub.fallenFlash, hc, FlashCommand.range, imageMarker, List.length_cons, List.length_nil] at h0
  rw [List.range_eq_range', List.range'_succ, List.map_cons, Memory.read_writeAll_first _ _ _ hm] at h0
  by_cases hb : Config.freeFlashByte h.freeDraws 0 = 0x5A#8
  · simp [hb, Memory.blank] at h0
  · simp [hb] at h0

/-! ## The slots -/

theorem SlotMap.entry_put_same (m : SlotMap) (slot : Nat) (e : Entry) : (SlotMap.put slot e m).entry slot = some e := by
  induction m with
  | nil => simp [SlotMap.put, SlotMap.entry]
  | cons p rest ih =>
    obtain ⟨k, old⟩ := p
    unfold SlotMap.put
    split
    · rename_i h
      have : k ≠ slot := by omega
      simpa [SlotMap.entry, this] using ih
    · split <;> simp [SlotMap.entry]

theorem SlotMap.entry_put_other (m : SlotMap) {slot k : Nat} (e : Entry) (hk : k ≠ slot) :
    (SlotMap.put slot e m).entry k = m.entry k := by
  induction m with
  | nil => simp [SlotMap.put, SlotMap.entry, Ne.symm hk]
  | cons p rest ih =>
    obtain ⟨j, old⟩ := p
    unfold SlotMap.put
    split
    · by_cases hj : j = k
      · simp [SlotMap.entry, hj]
      · simpa [SlotMap.entry, hj] using ih
    · split <;> simp_all [SlotMap.entry, Ne.symm hk]

theorem SlotMap.entry_remove_same (m : SlotMap) (slot : Nat) : (SlotMap.remove slot m).entry slot = none := by
  induction m with
  | nil => rfl
  | cons p rest ih => by_cases hp : p.1 = slot <;> simp_all [SlotMap.remove, SlotMap.entry]

theorem SlotMap.entry_remove_other (m : SlotMap) {slot k : Nat} (hk : k ≠ slot) :
    (SlotMap.remove slot m).entry k = m.entry k := by
  induction m with
  | nil => rfl
  | cons p rest ih =>
    by_cases hp : p.1 = slot
    · have : p.1 ≠ k := by omega
      simp_all [SlotMap.remove, SlotMap.entry]
    · by_cases hq : p.1 = k <;> simp_all [SlotMap.remove, SlotMap.entry]

theorem SlotMap.put_mem {m : SlotMap} {slot : Nat} {e : Entry} {p : Nat × Entry} (hp : p ∈ SlotMap.put slot e m) :
    p ∈ m ∨ p = (slot, e) := by
  induction m with
  | nil => simpa [SlotMap.put] using hp
  | cons q rest ih =>
    obtain ⟨j, old⟩ := q
    unfold SlotMap.put at hp
    split at hp
    · rcases List.mem_cons.mp hp with h | h
      · exact .inl (by simp [h])
      · exact (ih h).imp (List.mem_cons_of_mem _) id
    · split at hp <;> simp_all <;> tauto

theorem SlotMap.put_rising {m : SlotMap} (slot : Nat) (e : Entry) (hm : m.Pairwise fun a b => a.1 < b.1) :
    (SlotMap.put slot e m).Pairwise fun a b => a.1 < b.1 := by
  induction m with
  | nil => simp [SlotMap.put]
  | cons q rest ih =>
    obtain ⟨j, old⟩ := q
    rw [List.pairwise_cons] at hm
    unfold SlotMap.put
    split
    · rename_i h
      refine List.pairwise_cons.mpr ⟨fun c hc => ?_, ih hm.2⟩
      rcases SlotMap.put_mem hc with hr | rfl
      · exact hm.1 c hr
      · exact h
    · split
      · rename_i h; subst h; exact List.pairwise_cons.mpr ⟨hm.1, hm.2⟩
      · refine List.pairwise_cons.mpr ⟨fun c hc => ?_, List.pairwise_cons.mpr hm⟩
        rcases List.mem_cons.mp hc with rfl | h
        · simp only; omega
        · have := hm.1 c h; simp only at this ⊢; omega

theorem SlotMap.remove_rising {m : SlotMap} (slot : Nat) (hm : m.Pairwise fun a b => a.1 < b.1) :
    (SlotMap.remove slot m).Pairwise fun a b => a.1 < b.1 := hm.filter _

theorem SlotMap.remove_mem {m : SlotMap} {slot : Nat} {p : Nat × Entry} (hp : p ∈ SlotMap.remove slot m) :
    p ∈ m ∧ p.1 ≠ slot := by
  simpa [SlotMap.remove] using hp

theorem SlotMap.freeFrom_not_mem {m : SlotMap} {n : Nat} (hm : m.Pairwise fun a b => a.1 < b.1) (hn : ∀ p ∈ m, n ≤ p.1) :
    ∀ p ∈ m, p.1 ≠ SlotMap.freeFrom n m := by
  induction m generalizing n with
  | nil => simp
  | cons q rest ih =>
    obtain ⟨j, old⟩ := q
    rw [List.pairwise_cons] at hm
    have hj : n ≤ j := hn (j, old) (by simp)
    unfold SlotMap.freeFrom
    split
    · rename_i h; subst h
      have above : ∀ p ∈ rest, j + 1 ≤ p.1 := fun p hp => hm.1 p hp
      have below (l : SlotMap) (k : Nat) : k ≤ SlotMap.freeFrom k l := by
        induction l generalizing k with
        | nil => exact le_refl _
        | cons q r ihl =>
          unfold SlotMap.freeFrom
          split
          · exact le_trans (by omega) (ihl (k + 1))
          · exact le_refl _
      intro p hp
      rcases List.mem_cons.mp hp with rfl | h
      · have := below rest (j + 1); simp only; omega
      · exact ih hm.2 above p h
    · intro p hp
      rcases List.mem_cons.mp hp with rfl | h
      · simp only; omega
      · have := hm.1 p h; simp only at this; omega

/-- The lowest free slot is a slot, and it is free (R10). -/
theorem SlotMap.free_spec {m : SlotMap} {slot : Nat} (hm : m.Pairwise fun a b => a.1 < b.1) (hs : m.free = some slot) :
    slot < 1024 ∧ ∀ p ∈ m, p.1 ≠ slot := by
  unfold SlotMap.free at hs
  simp only at hs
  split at hs
  · rename_i h
    obtain rfl := Option.some.inj hs
    exact ⟨h, SlotMap.freeFrom_not_mem hm fun p _ => Nat.zero_le _⟩
  · exact absurd hs (by simp)

end Sys2Proof.Machine
end

