-- ==== Sys2Proof/Laws/Runs.lean ====
section
/-! SUPPORT. How a command's meaning is reached from `exec`: unfold `exec` and the command's own definition, and the
equation these lemmas ask for is `rfl`. -/

namespace Sys2Proof.Machine

set_option linter.unnecessarySeqFocus false
set_option linter.unusedTactic false
set_option linter.unreachableTactic false

/-- Every command answers a next state, with the queue as it was. -/
theorem exec_answers (i : Instr) (s : State) : ∃ h : Hub, exec i s = .next { s with hub := h } := by
  cases i <;> exact ⟨_, rfl⟩

/-- A command whose meaning is `f` takes the hub to `f` of it, outside the cold-start reset. -/
theorem runs_of_run {i : Instr} {s : State} {f : Hub → Hub} (he : exec i s = s.run f) (hr : s.hub.inReset = false) :
    Runs i s (f s.hub) := by
  unfold Runs
  rw [he]
  simp [State.run, hr]

/-- An expiry that is due has its effect. -/
theorem runs_of_expiry {i : Instr} {s : State} {t : Hub → Timer} {f : Hub → Hub}
    (he : exec i s = s.run fun h => h.expiry (t h) f) (hr : s.hub.inReset = false)
    (hd : (t s.hub).due s.hub.time.ms = true) : Runs i s (f s.hub) := by
  have h := runs_of_run he hr
  simpa only [Hub.expiry, hd, if_true] using h

/-- A grant that the arbiter gives has its effect, and is noted. -/
theorem runs_of_grant {i : Instr} {s : State} {c : Claimant} {waits : Hub → Bool} {f : Hub → Hub}
    (he : exec i s = s.run (Hub.granted c waits f)) (hr : s.hub.inReset = false) (hg : s.hub.grants c = true)
    (hw : waits s.hub = true) : Runs i s ((f s.hub).afterGrant c) := by
  have h := runs_of_run he hr
  simpa only [Hub.granted, hg, hw, Bool.and_true, if_true] using h

/-- A grant that the arbiter does not give, or of a claim that does not wait, changes nothing (log 1). -/
theorem runs_of_no_grant {i : Instr} {s : State} {c : Claimant} {waits : Hub → Bool} {f : Hub → Hub}
    (he : exec i s = s.run (Hub.granted c waits f)) (hr : s.hub.inReset = false)
    (hg : (s.hub.grants c && waits s.hub) = false) : Runs i s s.hub := by
  have h := runs_of_run he hr
  simpa [Hub.granted, hg] using h

/-- In the cold-start reset a command's effect does not happen. -/
theorem run_in_reset (s : State) (f : Hub → Hub) (hr : s.hub.inReset = true) : s.run f = .next s := by
  simp [State.run, hr]

/-- Making the Plan slot free touches the slot and REPLY_LOST alone. -/
@[simp] theorem Hub.clearSlot_frame (h : Hub) :
    (Hub.clearSlot h).route = h.route ∧ (Hub.clearSlot h).time = h.time ∧ (Hub.clearSlot h).table = h.table
    ∧ (Hub.clearSlot h).scanner = h.scanner ∧ (Hub.clearSlot h).lines = h.lines
    ∧ (Hub.clearSlot h).sensors = h.sensors ∧ (Hub.clearSlot h).queue = h.queue
    ∧ (Hub.clearSlot h).updater = h.updater ∧ (Hub.clearSlot h).odo = h.odo ∧ (Hub.clearSlot h).permit = h.permit
    ∧ (Hub.clearSlot h).limits = h.limits ∧ (Hub.clearSlot h).trail = h.trail ∧ (Hub.clearSlot h).dock = h.dock
    ∧ (Hub.clearSlot h).beacon = h.beacon ∧ (Hub.clearSlot h).load = h.load ∧ (Hub.clearSlot h).store = h.store
    ∧ (Hub.clearSlot h).flash = h.flash ∧ (Hub.clearSlot h).power = h.power ∧ (Hub.clearSlot h).drive = h.drive
    ∧ (Hub.clearSlot h).inReset = h.inReset ∧ (Hub.clearSlot h).freeDraws = h.freeDraws
    ∧ (Hub.clearSlot h).plan.out = h.plan.out ∧ (Hub.clearSlot h).att.powerFlags = h.att.powerFlags
    ∧ (Hub.clearSlot h).att.planMask = h.att.planMask ∧ (Hub.clearSlot h).att.powerMask = h.att.powerMask
    ∧ (Hub.clearSlot h).att.refusals = h.att.refusals := by
  unfold Hub.clearSlot
  cases h.plan.slot <;> simp [Hub.setPlan]

/-- A frame that is taken touches the lease, the Plan slot and REPLY_LOST alone. -/
@[simp] theorem Hub.framed_frame (p : Port) (h : Hub) :
    (Hub.framed p h).time = h.time ∧ (Hub.framed p h).table = h.table ∧ (Hub.framed p h).scanner = h.scanner
    ∧ (Hub.framed p h).lines = h.lines ∧ (Hub.framed p h).sensors = h.sensors ∧ (Hub.framed p h).queue = h.queue
    ∧ (Hub.framed p h).updater = h.updater ∧ (Hub.framed p h).odo = h.odo ∧ (Hub.framed p h).permit = h.permit
    ∧ (Hub.framed p h).limits = h.limits ∧ (Hub.framed p h).trail = h.trail ∧ (Hub.framed p h).dock = h.dock
    ∧ (Hub.framed p h).beacon = h.beacon ∧ (Hub.framed p h).load = h.load ∧ (Hub.framed p h).store = h.store
    ∧ (Hub.framed p h).flash = h.flash ∧ (Hub.framed p h).power = h.power ∧ (Hub.framed p h).drive = h.drive
    ∧ (Hub.framed p h).inReset = h.inReset ∧ (Hub.framed p h).freeDraws = h.freeDraws
    ∧ (Hub.framed p h).plan.out = h.plan.out ∧ (Hub.framed p h).att.powerFlags = h.att.powerFlags
    ∧ (Hub.framed p h).att.planMask = h.att.planMask ∧ (Hub.framed p h).att.powerMask = h.att.powerMask
    ∧ (Hub.framed p h).att.refusals = h.att.refusals ∧ (Hub.framed p h).route.waypoints = h.route.waypoints
    ∧ (Hub.framed p h).route.advances = h.route.advances := by
  cases p
  · have hw : h.renewLease.route.waypoints = h.route.waypoints ∧ h.renewLease.route.advances = h.route.advances := by
      unfold Hub.renewLease
      split <;> simp
    simp [Hub.framed, hw]
  · simp [Hub.framed]

/-- A request of the right length on an open port carries out its action on the framed hub. -/
theorem runs_of_request {i : Instr} {s : State} {p : Port} {code : Byte} {len : Nat} {body : List Byte}
    {act : Hub → Hub} (he : exec i s = s.run (Hub.request p code len body act)) (hr : s.hub.inReset = false)
    (ho : s.hub.portOpen p) (hl : body.length = len) : Runs i s (act (s.hub.framed p)) := by
  have h := runs_of_run he hr
  cases p
  · have hc : s.hub.renewLease.plan.slot.claims = false := by simpa using ho rfl
    revert h
    unfold Hub.request Hub.framed Hub.handIn Hub.clearSlot
    dsimp only
    cases hs : s.hub.renewLease.plan.slot <;> simp_all [takeRequest, PlanSlot.claims]
  · simpa [Hub.request, takeRequest, hl, Hub.framed] using h

end Sys2Proof.Machine
end

