-- ==== Sys2Proof/Laws/Receiver.lean ====
section
/-!
SUPPORT. What the Drive receiver makes of a frame's characters: a good frame that nothing cuts is handed on, whatever
its fields. The commands of good frames are reached through these facts.
-/

namespace Sys2Proof.Machine

/-! ## Bytes of a frame -/

theorem byte_toNat (b : Byte) : byte b.toNat = b := by simp [byte]

/-- Two bytes of a 16-bit field read back as the field. -/
theorem field_of_bytes (w : BitVec 16) :
    BitVec.ofNat 16 (256 * (byte (w.toNat / 256)).toNat + (byte w.toNat).toNat) = w := by
  apply BitVec.eq_of_toNat_eq
  have h := w.isLt
  simp only [byte, BitVec.toNat_ofNat]
  omega

/-- The thirteen bytes of an ASK, one by one. -/
theorem ask_bytes (a : AskFrame) :
    ∃ crc, a.encode =
      [0xA1#8, a.seq, byte (a.speed.toNat / 256), byte a.speed.toNat, byte (a.turn.toNat / 256), byte a.turn.toNat,
        a.horizon, a.intent, byte (a.leftTicks.toNat / 256), byte a.leftTicks.toNat,
        byte (a.rightTicks.toNat / 256), byte a.rightTicks.toNat, crc] := ⟨_, rfl⟩

/-- The four bytes of an EVENT, one by one. -/
theorem event_bytes (code argument : Byte) : ∃ crc, eventBytes code argument = [0xA2#8, code, argument, crc] :=
  ⟨_, rfl⟩

/-- An ASK's fields are read back from its bytes. -/
theorem ofBytes_encode (a : AskFrame) : AskFrame.ofBytes a.encode = a := by
  obtain ⟨crc, h⟩ := ask_bytes a
  rw [h]
  cases a
  simp [AskFrame.ofBytes, u16, u8, byte_toNat, field_of_bytes]

theorem judge_ask (a : AskFrame) : judgeFrame .ask a.encode = .ask a := by
  have e : a.encode.getLast? = some (crc8 a.encode.dropLast) := by
    simp only [AskFrame.encode, List.dropLast_concat, List.getLast?_concat]
  unfold judgeFrame
  rw [if_pos e]
  exact congrArg _ (ofBytes_encode a)

theorem judge_event (code argument : Byte) :
    judgeFrame .event (eventBytes code argument) = eventOf (eventBytes code argument) := by
  have e : (eventBytes code argument).getLast? = some (crc8 (eventBytes code argument).dropLast) := by
    simp only [eventBytes, List.dropLast_concat, List.getLast?_concat]
  unfold judgeFrame
  rw [if_pos e]

/-! ## The receiver -/

/-- A frame in progress takes the unmarked characters that complete it. -/
theorem hear_rest (f : LinkFrame) (rest : List Byte) :
    ∀ got, rest ≠ [] → got.length + rest.length = f.length →
      (DriveRx.inFrame f got).hear (rest.map fun b => ⟨b, false, true⟩)
        = some (.hunting false, judgeFrame f (got ++ rest)) := by
  induction rest with
  | nil => intro got hn; exact absurd rfl hn
  | cons b rest ih =>
    intro got _ hl
    cases rest with
    | nil =>
      have hd : ¬ got.length + 1 < f.length := by simp at hl; omega
      rw [List.map_cons, List.map_nil, DriveRx.hear]
      simp [DriveRx.take, frameChar, hd]
    | cons c rest =>
      have hd : got.length + 1 < f.length := by simp at hl; omega
      have hi := ih (got ++ [b]) (by simp) (by simp at hl ⊢; omega)
      simpa [DriveRx.hear, DriveRx.take, frameChar, hd] using hi

/-- A receiver ready for a frame hears it whole, and hands on what its bytes make. -/
theorem hear_frame {rx : DriveRx} {f : LinkFrame} {rest : List Byte} (hr : rx.readyFor f = true) (hn : rest ≠ [])
    (hl : rest.length + 1 = f.length) :
    rx.hear (rx.toCome f (f.type :: rest)) = some (.hunting false, judgeFrame f (f.type :: rest)) := by
  have hi := hear_rest f rest [f.type] hn (by simp; omega)
  cases rx with
  | inFrame g got =>
    simp only [DriveRx.readyFor, decide_eq_true_eq] at hr
    obtain ⟨rfl, rfl⟩ := hr
    simpa [DriveRx.toCome, linkChars] using hi
  | hunting run =>
    have ht : LinkFrame.ofType f.type = some f := by cases f <;> decide
    simpa [DriveRx.toCome, linkChars, DriveRx.hear, DriveRx.take, huntChar, ht] using hi

/-- A receiver ready for a frame takes the frame's event. -/
theorem heard_frame {h : Hub} {f : LinkFrame} {rest : List Byte} {act : LinkEvent → Option (Hub → Hub)}
    {g : Hub → Hub} (hr : h.drive.rx.readyFor f = true) (hn : rest ≠ []) (hl : rest.length + 1 = f.length)
    (ha : act (judgeFrame f (f.type :: rest)) = some g) :
    h.heard (h.drive.rx.toCome f (f.type :: rest)) act = g { h with drive.rx := .hunting false } := by
  unfold Hub.heard
  rw [hear_frame hr hn hl]
  simp [ha]

/-! ## The commands of good frames -/

theorem run_eq_run {s : State} {f g : Hub → Hub} (h : f s.hub = g s.hub) : s.run f = s.run g := by
  unfold State.run
  rw [h]

/-- ASK on a receiver that can take it is the ask with its fields. -/
theorem exec_ask {s : State} (a : AskFrame) (hr : s.hub.drive.rx.readyFor .ask = true) :
    exec (.ask a) s = s.run (Hub.ask a) := by
  obtain ⟨crc, hb⟩ := ask_bytes a
  have hj := judge_ask a
  show execAsk a s = _
  unfold execAsk
  refine run_eq_run ?_
  rw [hb] at hj ⊢
  exact heard_frame (f := .ask) (g := Hub.ask a) hr (by simp) rfl (by rw [show LinkFrame.ask.type = 0xA1#8 from rfl, hj])

/-- STOP_DONE on a receiver that can take it. -/
theorem exec_stopDone {s : State} (hr : s.hub.drive.rx.readyFor .event = true) :
    exec .stopDone s = s.run fun h => h.frameTaken.stopDone := by
  obtain ⟨crc, hb⟩ := event_bytes 0x01#8 0x00#8
  have hj : judgeFrame .event (eventBytes 0x01#8 0x00#8) = .stopDone := by
    rw [judge_event, hb]
    rfl
  show execStopDone s = _
  unfold execStopDone
  refine run_eq_run ?_
  rw [hb] at hj ⊢
  exact heard_frame (f := .event) (g := fun h => h.frameTaken.stopDone) hr (by simp) rfl (by
    rw [show LinkFrame.event.type = 0xA2#8 from rfl, hj])

/-- CLIMB on a receiver that can take it. -/
theorem exec_climb {s : State} (hr : s.hub.drive.rx.readyFor .event = true) :
    exec .climb s = s.run fun h => h.frameTaken.climbed := by
  obtain ⟨crc, hb⟩ := event_bytes 0x03#8 0x00#8
  have hj : judgeFrame .event (eventBytes 0x03#8 0x00#8) = .climb := by
    rw [judge_event, hb]
    rfl
  show execClimb s = _
  unfold execClimb
  refine run_eq_run ?_
  rw [hb] at hj ⊢
  exact heard_frame (f := .event) (g := fun h => h.frameTaken.climbed) hr (by simp) rfl (by
    rw [show LinkFrame.event.type = 0xA2#8 from rfl, hj])

/-- BRUSH_LOAD on a receiver that can take it. -/
theorem exec_brushLoad {s : State} (p : Pile) (hr : s.hub.drive.rx.readyFor .event = true) :
    exec (.brushLoad p) s = s.run (Hub.brushLoad p) := by
  obtain ⟨crc, hb⟩ := event_bytes 0x02#8 (byte p.ctorIdx)
  have hj : judgeFrame .event (eventBytes 0x02#8 (byte p.ctorIdx)) = .brushLoad p := by
    rw [judge_event, hb]
    cases p <;> rfl
  show execBrushLoad p s = _
  unfold execBrushLoad
  refine run_eq_run ?_
  rw [hb] at hj ⊢
  exact heard_frame (f := .event) (g := Hub.brushLoad p) hr (by simp) rfl (by
    rw [show LinkFrame.event.type = 0xA2#8 from rfl, hj])

/-- A command of the Drive link leaves the hub, or has the effect its characters' event has. -/
theorem heard_cases (h : Hub) (chars : List LinkChar) (act : LinkEvent → Option (Hub → Hub)) :
    h.heard chars act = h
    ∨ ∃ rx e g, h.drive.rx.hear chars = some (rx, e) ∧ act e = some g
        ∧ h.heard chars act = g { h with drive.rx := rx } := by
  unfold Hub.heard
  split
  · exact .inl rfl
  · rename_i rx e he
    cases ha : act e with
    | none => exact .inl rfl
    | some g => exact .inr ⟨rx, e, g, he, ha, rfl⟩

end Sys2Proof.Machine
end

