-- ==== Sys2Proof/WellFormed.lean ====
section
/-!
DEFINITION. Which commands can occur: the operands that make a command the event its row of the table names. A command
that is not well formed has a meaning all the same: it changes nothing, or is answered as its bytes deserve (log 1).
-/

namespace Sys2Proof

/-- A frame's length byte is 60 or less (R183). -/
def bodyFits (body : List Byte) : Bool := decide (body.length ≤ 60)

/-- The operands of a command make it the event its row names. -/
def Instr.wellFormed : Instr → Bool
  | .coldStart vdd nrst => decide (vdd < 2850) || !nrst
  | .coldStartResetEnd vdd nrst => decide (2900 < vdd) && nrst
  | .beaconElement _ _ periods => decide (0 < periods)
  | .planOtherCommand c _ => decide (c ≠ 0x51#8 ∧ c ≠ 0x52#8 ∧ c ≠ 0x53#8)
  | .frameError _ frame => !frame.isEmpty && !Machine.goodFrame frame
  | .unknownRequest p code body => bodyFits body && !(Machine.requestCodes p).contains code.toNat
  | .status _ body => bodyFits body
  | .takeFlags _ body => bodyFits body
  | .setMask body => bodyFits body
  | .counters body => bodyFits body
  | .setLimits body => bodyFits body
  | .setSensors body => bodyFits body
  | .mapPut body => bodyFits body
  | .mapDelete body => bodyFits body
  | .mapConfirm body => bodyFits body
  | .mapQuery body => bodyFits body
  | .mapClear body => bodyFits body
  | .setFloor body => bodyFits body
  | .setPose body => bodyFits body
  | .setDock body => bodyFits body
  | .routeAppend body => bodyFits body
  | .routeFlush body => bodyFits body
  | .routeRead body => bodyFits body
  | .hold _ body => bodyFits body
  | .release _ body => bodyFits body
  | .releaseInhibit body => bodyFits body
  | .trailRead body => bodyFits body
  | .trailClear body => bodyFits body
  | .returnStart _ body => bodyFits body
  | .returnCancel _ body => bodyFits body
  | .beaconSlot body => bodyFits body
  | .mapSave body => bodyFits body
  | .mapLoad body => bodyFits body
  | .storeStatus body => bodyFits body
  | .warmRestart body => bodyFits body
  | .loadMode body => bodyFits body
  | .docked body => bodyFits body
  | .undocked body => bodyFits body
  | .millisecondEnd => true
  | .scan _ => true
  | .lineSample _ => true
  | .liftTimerExpiry => true
  | .setDownTimerExpiry => true
  | .permitExpiry => true
  | .stopTimerExpiry => true
  | .leaseTimerExpiry => true
  | .sagClearExpiry => true
  | .dockingTimerExpiry => true
  | .sightingFreshnessExpiry _ => true
  | .ask _ => true
  | .driveFrameSent => true
  | .stopDone => true
  | .brushLoad _ => true
  | .climb => true
  | .driveBadFrame chars => !chars.isEmpty
  | .dlRxHeldLow _ => true
  | .checkSweepClaim => true
  | .recheckClaim => true
  | .applyItem => true
  | .plannedRugRead => true
  | .evictionSearchRead => true
  | .evict => true
  | .centreTileLookupDone => true
  | .passOverLookupDone _ => true
  | .beaconFrame _ _ => true
  | .beaconShadowFrame _ _ => true
  | .planReplyRead _ => true
  | .flagPeek _ => true
  | .powerReplyRead _ => true
  | .mapPutWrite => true
  | .mapDeleteWrite => true
  | .mapConfirmWrite => true
  | .mapQueryRead => true
  | .mapClearClaim => true
  | .flashStatusRead _ => true
  | .saveSlotRead => true
  | .flashReadDone _ => true
  | .loadRemovalClaim => true
  | .loadInsertWrite => true

end Sys2Proof
end

