-- ==== Sys2Proof/Tests/Slice0.lean ====
section
/-!
SUPPORT. The model's own tests: the ill-formed commands, the spec's worked examples, and for every statement of
Certificates/Slice0/Obligations.lean with hypotheses a state and operands that meet them, clause by clause, with what
the command then does.
-/

namespace Sys2Proof.Tests

open Sys2Proof.Machine

set_option Elab.async false

/-! ## States to test on -/

/-- The hub after start-up, at millisecond count 5000, TRACKING at the origin of floor 0. -/
def quiet : Hub :=
  { Hub.cold [] 0 with time.ms := 5000, odo.pose := .tracking, permit.startUpEnded := true }

/-- A state of a hub with nothing waiting. -/
def only (h : Hub) : State := ⟨h, []⟩

/-- The hub after a command. -/
def after (i : Instr) (h : Hub) : Hub :=
  match exec i (only h) with
  | .next t => t.hub
  | _ => h

/-- The hub after a step with nothing waiting. -/
def stepped (h : Hub) : Hub :=
  match step (only h) with
  | .next t => t.hub
  | _ => h

/-- A permit of 200 mm/s. -/
def ride : PermitRecord where
  kind := .normal
  speed := 200
  turn := 0
  expiry := 5000
  sweptSpeed := 200
  sweptTurn := 0
  lenNum := 180000000
  lenDen := 1500
  radius := 170
  margin := 20
  dockException := false
  travelled := 0

/-- The hub in MOVING, its permit's expiry due now. -/
def rolling : Hub :=
  { quiet with permit.state := .moving, permit.active := some ride, permit.expiry := some ⟨4900, 100⟩ }

/-- An ask for 400 mm/s straight ahead over 100 ms. -/
def straight : AskFrame where
  seq := 7
  speed := 400
  turn := 0
  horizon := 100
  intent := 0
  leftTicks := 0
  rightTicks := 0

/-- A sweep that waits with a claim, or has ended. -/
def sweepAt (claim : Option SweepClaim) : Sweep where
  planned := []
  toExamine := []
  seen := []
  firstBlocking := none
  claim := claim

/-- A check of that ask in flight. -/
def checkAt (claim : Option SweepClaim) : Check where
  ask := straight
  latch := quiet.latch straight
  speed := 400
  turn := 0
  sweep := sweepAt claim
  stale := false
  restarted := false

/-- A SENSED entry of floor 0. -/
def sensed (cls : HazardClass) (x y : Int) (confidence : Nat) : Entry where
  floor := 0
  cls := cls
  origin := .sensed
  x0 := x
  y0 := y
  width := 1
  height := 1
  confidence := confidence
  pinned := false
  rug := none
  zone := none
  stamp := 100

/-- A PLANNED entry of floor 0, one tile. -/
def planned (cls : HazardClass) (x y : Int) : Entry :=
  { sensed cls x y 15 with origin := .planned, pinned := true }

/-- A crumb on floor 0. -/
def crumbAt (x y : Int) (number : Nat) : Crumb := ⟨x, y, 0, 0, number⟩

/-- A dock record on floor 0. -/
def dockAt (x y : Int) : DockRecord := ⟨true, x, y, 0, 0⟩

/-- The hub in INHIBITED with the drive standing and the link UP. -/
def halted : Hub := { quiet with permit.state := .inhibited, permit.driveStopped := true }

/-! ## Ill-formed commands -/

/-- A body longer than a frame carries. -/
def tooLong : List Byte := List.replicate 61 0

/-- The requests with that body. -/
def overlong : List Instr :=
  [.unknownRequest .plan 0x7E#8 tooLong, .status .plan tooLong, .takeFlags .power tooLong, .setMask tooLong,
    .counters tooLong, .setLimits tooLong, .setSensors tooLong, .mapPut tooLong, .mapDelete tooLong,
    .mapConfirm tooLong, .mapQuery tooLong, .mapClear tooLong, .setFloor tooLong, .setPose tooLong, .setDock tooLong,
    .routeAppend tooLong, .routeFlush tooLong, .routeRead tooLong, .hold .power tooLong, .release .plan tooLong,
    .releaseInhibit tooLong, .trailRead tooLong, .trailClear tooLong, .returnStart .plan tooLong,
    .returnCancel .power tooLong, .beaconSlot tooLong, .mapSave tooLong, .mapLoad tooLong, .storeStatus tooLong,
    .warmRestart tooLong, .loadMode tooLong, .docked tooLong, .undocked tooLong]

theorem test_overlong_bodies_are_ill_formed : overlong.all (fun i => !i.wellFormed) = true := by decide +kernel

theorem test_cold_start_needs_its_cause :
    (Instr.coldStart 2850 true).wellFormed = false ∧ (Instr.coldStart 2849 true).wellFormed = true
    ∧ (Instr.coldStart 3300 false).wellFormed = true := by decide

theorem test_reset_end_needs_supply_and_line :
    (Instr.coldStartResetEnd 2900 true).wellFormed = false ∧ (Instr.coldStartResetEnd 2901 false).wellFormed = false
    ∧ (Instr.coldStartResetEnd 2901 true).wellFormed = true := by decide

theorem test_element_lasts : (Instr.beaconElement .left true 0).wellFormed = false := by decide

theorem test_other_command_is_another :
    [0x51#8, 0x52#8, 0x53#8].all (fun c => !(Instr.planOtherCommand c 4).wellFormed) = true := by decide

theorem test_frame_error_needs_a_bad_frame :
    (Instr.frameError .plan []).wellFormed = false
    ∧ (Instr.frameError .plan [0x01#8, 0x00#8, crc8 [0x01#8, 0x00#8]]).wellFormed = false
    ∧ (Instr.frameError .plan [0x01#8, 0x00#8, 0x00#8]).wellFormed = true := by decide +kernel

theorem test_bad_characters_are_some : (Instr.driveBadFrame []).wellFormed = false := by decide

theorem test_unknown_request_is_unknown :
    (Instr.unknownRequest .plan 0x01#8 []).wellFormed = false
    ∧ (Instr.unknownRequest .power 0x03#8 []).wellFormed = true := by decide

theorem test_ill_formed_commands_change_nothing :
    after (.planOtherCommand 0x51#8 4) quiet = quiet ∧ after (.coldStart 2850 true) quiet = quiet
    ∧ after (.frameError .plan []) quiet = quiet := by decide +kernel

/-! ## The spec's worked examples -/

/-- The pose of section 4.2 before its ASK. -/
def kitchen : Hub :=
  { quiet with odo.x := 1200000, odo.y := -350000, odo.heading := 16384, odo.floor := 1 }

theorem test_ticks_move_the_pose_as_section_4_2_shows :
    kitchen.movedPose 10 12 = ⟨1199251, -306006, 16739⟩ := by decide +kernel

theorem test_slip_shortens_the_ticks_as_section_4_2_shows :
    (Hub.movedPose { kitchen with odo.slip := some .high } 10 12).heading = 16384 + 311 := by decide +kernel

theorem test_body_points_lie_on_the_tiles_of_section_4_6 :
    let p : Pose := ⟨1199251, -306006, 16739⟩
    p.channelTile Sensors.default.offsets.fl = some ⟨22, -4⟩ ∧ p.contactTile 235 .left = some ⟨21, -7⟩
    ∧ p.contactTile 235 .right = some ⟨26, -7⟩ ∧ p.centreTile = some ⟨23, -7⟩ := by decide +kernel

/-- The hub of section 5.8: the robot at (0, 25) mm, CLIFF or DROP_SUSPECT at tile (5, 0), a THRESHOLD at (3, 0). -/
def corridor (x : Int) (cls : HazardClass) (confidence : Nat) (threshold : Bool) : Hub :=
  { quiet with
    odo.x := x
    odo.y := 25000
    limits.probe := true
    table.slots :=
      (if threshold then [(0, sensed .threshold 3 0 6)] else []) ++ [(1, sensed cls 5 0 confidence)] }

/-- The verdict on a check that has made all its claims. -/
def verdictOf (h : Hub) (a : AskFrame) (claims : Nat) : PermitOutcome × Option Reason × Int × Nat :=
  let c := h.newCheck a false
  let sweep :=
    (Hub.sweepClaim h (c.stops h.probing) (fun s => (c.blocked s).isSome))^[claims] c.sweep
  let v := Check.verdict { c with sweep } h.probing
  (v.outcome, v.reason, v.speed, v.horizon)

theorem test_threshold_caps_the_grant_of_section_5_8 :
    verdictOf (corridor 0 .cliff 6 true) straight 2 = (.clip, none, 200, 100) := by decide +kernel

theorem test_cliff_clips_the_grant_of_section_5_8 :
    verdictOf (corridor 0 .cliff 6 false) straight 1 = (.clip, none, 316, 100) := by decide +kernel

theorem test_near_cliff_refuses_as_section_5_8_shows :
    verdictOf (corridor 80000 .cliff 6 false) straight 1 = (.refuse, some .cliffAhead, 0, 0) := by decide +kernel

theorem test_suspect_is_probed_as_section_5_8_shows :
    verdictOf (corridor 0 .dropSuspect 4 true) { straight with intent := 1 } 2 = (.probe, none, 60, 100) := by
  decide +kernel

/-- The waypoint of section 6.4. -/
def doorway : Waypoint := ⟨1300, 400, 0, 100, 300, 1, false, false⟩

theorem test_guidance_points_as_section_6_4_shows :
    Hub.guidance { quiet with odo.x := 1000000, route.waypoints := [doorway] }
      = ⟨.waypoint, 9672, 500, .turnLeft, false⟩ := by decide +kernel

theorem test_queue_fills_as_section_3_2_shows :
    backlogAfter false 14 370 16 6 = false ∧ backlogAfter false 15 390 16 6 = true
    ∧ backlogAfter true 8 180 16 6 = true ∧ backlogAfter true 7 166 16 6 = false := by decide

theorem test_rug_edge_is_learned_as_chapter_3_shows :
    let t : Tile := ⟨8, 31⟩
    (Item.lowReflect .fl t 0 3).effect .low none = .create .dropSuspect 4
    ∧ (Item.lowReflect .fr t 0 3).effect .low (some (sensed .dropSuspect 8 31 4)) = .change .dropSuspect 7 none
    ∧ (Item.passOver .right t).effect .high (some (sensed .dropSuspect 8 31 7))
        = .change .rug 8 (some ⟨.high, true, true⟩)
    ∧ (Item.noReturn .fr t 0 3).effect .high (some (sensed .dropSuspect 8 31 7)) = .change .cliff 7 none
    ∧ (Item.passOver .right t).effect .high (some (sensed .cliff 8 31 10)) = .conflict := by decide

theorem test_division_cycle_is_4096_periods :
    ((List.range 125).map millisecondPeriods).sum = 4096 := by decide +kernel

theorem test_checks_of_the_layouts :
    crc8 [0x31#8, 0x32#8, 0x33#8, 0x34#8, 0x35#8, 0x36#8, 0x37#8, 0x38#8, 0x39#8] = 0xF4#8
    ∧ crc16 0xFFFF#16 [0x31#8, 0x32#8, 0x33#8, 0x34#8, 0x35#8, 0x36#8, 0x37#8, 0x38#8, 0x39#8] = 0x29B1#16 := by
  decide +kernel

/-- The loop of section 7.2: crumbs 20 to 27, the robot 140 mm from crumb 22 and 120 mm from crumb 23. -/
def loop : List Crumb :=
  [crumbAt 1000 0 20, crumbAt 600 0 21, crumbAt 140 0 22, crumbAt (-120) 0 23, crumbAt (-500) 0 24,
    crumbAt (-900) 0 25, crumbAt (-900) 400 26, crumbAt (-500) 400 27]

theorem test_loop_is_pruned_as_section_7_2_shows :
    (Hub.trailUpdate { quiet with trail := ⟨loop, 28⟩ }).trail = ⟨loop.take 3, 28⟩ := by decide +kernel

theorem test_thinning_keeps_the_crumbs_of_section_7_2 :
    let trail := (List.range 128).map fun i => crumbAt 0 0 (1000 + i)
    (thinned trail).map (·.number)
      = (List.range 32).map (fun i => 1000 + 2 * i) ++ (List.range 64).map (1064 + ·) := by decide +kernel

/-- The six slots of section 1.4's example that bear on the choice, the last the PLANNED one. -/
def victims : SlotMap :=
  [(17, { sensed .rug 0 0 8 with rug := some ⟨.low, false, false⟩, stamp := 400 }),
    (230, { sensed .obstacle 1 0 2 with floor := 1, stamp := 1210 }),
    (511, { sensed .threshold 2 0 2 with floor := 2, stamp := 900 }),
    (600, { sensed .cliff 3 0 6 with floor := 1, stamp := 300 }),
    (700, { sensed .obstacle 4 0 1 with floor := 1, pinned := true, stamp := 100 }),
    (812, { planned .nogo 5 0 with floor := 1, stamp := 50 })]

/-- A hub whose Map Updater searches a victim for a DROP_SUSPECT. -/
def searching (slots : SlotMap) (slot : Nat) (best : Option Victim) : Hub :=
  { quiet with
    table.slots := slots
    queue.records := [⟨.lowReflect, 0, 4990, .floorScanner, [.lowReflect .fl ⟨40, -12⟩ 10 3]⟩]
    updater.work := some ⟨[.lowReflect .fl ⟨40, -12⟩ 10 3], .search slot best⟩ }

theorem test_victim_is_chosen_as_section_1_4_shows :
    ((after .evictionSearchRead)^[6] (searching victims 17 none)).updater.work
      = some ⟨[.lowReflect .fl ⟨40, -12⟩ 10 3], .evict 511⟩ := by decide +kernel

/-! ## Witnesses: resets, time and timers -/

theorem test_reference_periods_are_met :
    quiet.inReset = false ∧ millisecondPeriods 0 = 33 ∧ millisecondPeriods 4 = 32
    ∧ stepped { quiet with time.refs := 31 } = { quiet with time.refs := 32 }
    ∧ stepped { quiet with time.refs := 32 } = { quiet with time := ⟨5001, 1, 0, 0⟩ }
    ∧ stepped { quiet with time.dither := 4, time.refs := 31 } = { quiet with time := ⟨5001, 5, 0, 0⟩ }
    ∧ stepped { quiet with inReset := true } = { quiet with inReset := true }
    ∧ (after .millisecondEnd { quiet with time := ⟨4294967295, 124, 3, 7⟩ }).time = ⟨0, 0, 0, 8⟩ := by decide +kernel

theorem test_cold_start_is_met :
    (after (.coldStart 2849 true) quiet).inReset = true ∧ (after (.coldStart 2850 false) quiet).inReset = true
    ∧ quiet.store.underWay = none
    ∧ after (.coldStartResetEnd 2901 true) (after (.coldStart 2849 true) quiet) = State.reset.hub
    ∧ after (.ask straight) { quiet with inReset := true } = { quiet with inReset := true } := by
  decide +kernel

/-- Both wheels have hung for 1000 ms under a permit. -/
def hanging : Hub := { rolling with lines.lift := some ⟨4000, 1000⟩ }

/-- The robot has stood for 500 ms after a lift. -/
def setDown : Hub := { quiet with odo.pose := .lifted, lines.setDown := some ⟨4500, 500⟩ }

theorem test_lift_and_set_down_are_met :
    hanging.inReset = false ∧ hanging.lines.lift.due hanging.time.ms = true
    ∧ (after .liftTimerExpiry hanging).odo.pose = .lifted ∧ (after .liftTimerExpiry hanging).permit.state = .stopping
    ∧ setDown.lines.setDown.due setDown.time.ms = true
    ∧ (after .setDownTimerExpiry setDown).odo.pose = .lost .lift := by decide +kernel

theorem test_permit_expiry_is_met :
    let checked := { rolling with permit.check := some (checkAt (some (.planned 3))) }
    rolling.permit.expiry.due rolling.time.ms = true ∧ rolling.permit.check = none
    ∧ (after .permitExpiry rolling).permit.state = .stopping
    ∧ (after .permitExpiry rolling).drive.sending = some (.stop .lapsed)
    ∧ (after .permitExpiry checked).drive.waiting = [.stop .lapsed]
    ∧ (after .permitExpiry checked).att.refusals.getD 11 0 = 1 := by decide +kernel

/-- A stop has waited 250 ms for its STOP_DONE. -/
def unconfirmed : Hub := { quiet with permit.state := .stopping, permit.stopTimer := some ⟨4750, 250⟩ }

theorem test_stop_timer_is_met :
    unconfirmed.inReset = false ∧ unconfirmed.permit.stopTimer.due unconfirmed.time.ms = true
    ∧ (after .stopTimerExpiry unconfirmed).permit.state = .inhibited
    ∧ (after .stopTimerExpiry { unconfirmed with permit.stopTimeouts := 255 }).permit.stopTimeouts = 255 := by
  decide +kernel

/-- The lease has run out, with return on lapse as given. -/
def lapsed (home : Bool) : Hub :=
  { quiet with route.lease := .running, route.leaseTimer := some ⟨4000, 1000⟩, limits.returnOnLapse := home }

theorem test_lease_expiry_is_met :
    (lapsed false).route.leaseTimer.due 5000 = true
    ∧ (after .leaseTimerExpiry (lapsed false)).permit.holds.lease = true
    ∧ Hub.returnStatus { lapsed true with trail.crumbs := [crumbAt 900 0 1] } = .done
    ∧ (after .leaseTimerExpiry { lapsed true with trail.crumbs := [crumbAt 900 0 1] }).dock.state = .trail
    ∧ (lapsed true).returnStatus = .noDock ∧ (after .leaseTimerExpiry (lapsed true)).permit.holds.lease = true
    ∧ (after .leaseTimerExpiry { lapsed true with dock.state := .docked }).permit.holds.lease = true
    ∧ (after .leaseTimerExpiry { lapsed true with dock.state := .approach }).permit.holds.lease = false := by
  decide +kernel

/-- SAG was reported 2000 ms ago. -/
def sagged : Hub := { quiet with load.sag := true, load.sagTimer := some ⟨3000, 2000⟩ }

theorem test_sag_clear_is_met :
    sagged.load.sagTimer.due sagged.time.ms = true
    ∧ (after .sagClearExpiry sagged).load = ⟨false, false, false, none⟩
    ∧ (after .sagClearExpiry sagged).planHas .heavyLoad = true
    ∧ (after .sagClearExpiry { sagged with load.rug := true }).planHas .heavyLoad = false
    ∧ (after .sagClearExpiry { sagged with load.sag := false }).planHas .heavyLoad = false := by decide +kernel

/-- The docking timer has run out after some fallbacks; the approach point is (400, 0) from the dock at the origin. -/
def seeking (x : Int) (fallbacks : Nat) (valid : Bool) : Hub :=
  { quiet with
    odo.x := x
    dock := ⟨{ dockAt 0 0 with valid }, .docking, fallbacks, some ⟨4294962296, 10000⟩⟩ }

theorem test_docking_expiry_is_met :
    (seeking 0 2 true).dock.timer.due 5000 = true
    ∧ (after .dockingTimerExpiry (seeking 0 2 true)).dock.state = .failed
    ∧ (after .dockingTimerExpiry (seeking 250000 1 true)).dock.state = .docking
    ∧ (after .dockingTimerExpiry (seeking 249999 1 true)).dock.state = .approach
    ∧ (after .dockingTimerExpiry (seeking 0 0 false)).dock.timer = some ⟨5000, 10000⟩ := by decide +kernel

/-- A sighting of the left eye is 500 ms old. -/
def fading : Hub :=
  { quiet with
    dock.state := .docking
    beacon.left := { Eye.cold with sighting := some ⟨0, .centre, 4500⟩, fresh := some ⟨4500, 500⟩ } }

theorem test_freshness_expiry_is_met :
    let other : Eye := { Eye.cold with sighting := some ⟨0, .halo, 4900⟩, fresh := some ⟨4900, 500⟩ }
    (fading.beacon.eye .left).fresh.due fading.time.ms = true
    ∧ (after (.sightingFreshnessExpiry .left) fading).dock.timer = some ⟨5000, 10000⟩
    ∧ (after (.sightingFreshnessExpiry .left) { fading with beacon.right := other }).dock.timer = none
    ∧ (after (.sightingFreshnessExpiry .left) { fading with dock.state := .idle }).dock.timer = none := by
  decide +kernel

/-! ## Witnesses: the Drive link -/

theorem test_ask_limits_are_met :
    askLegal { straight with speed := 500, turn := 720, horizon := 200 } = true
    ∧ askLegal { straight with speed := -500, turn := -720, horizon := 20 } = true
    ∧ askLegal { straight with speed := 501 } = false ∧ askLegal { straight with turn := -721 } = false
    ∧ askLegal { straight with horizon := 19 } = false ∧ askLegal { straight with horizon := 201 } = false
    ∧ askTicksLegal { straight with leftTicks := 2047, rightTicks := -2048 } = true
    ∧ askTicksLegal { straight with rightTicks := 2048 } = false := by decide

/-- What the last frame begun says, when it is a refusal. -/
def refusalOf (h : Hub) : Option Reason := h.drive.sending.bind fun f => match f with
  | .permit r => r.reason
  | .stop _ => none

theorem test_ask_refusals_are_met :
    refusalOf (after (.ask { straight with horizon := 19 }) quiet) = some .malformed
    ∧ refusalOf (after (.ask straight) { quiet with permit.state := .stopping }) = some .stopping
    ∧ refusalOf (after (.ask straight) halted) = some .inhibited
    ∧ refusalOf (after (.ask straight) { quiet with store.phase := .load .startUpLoad }) = some .loading
    ∧ refusalOf (after (.ask straight) { quiet with odo.pose := .lost .range }) = some .noPose
    ∧ refusalOf (after (.ask straight) { quiet with permit.holds.route := true }) = some .held := by decide +kernel

theorem test_ask_check_is_met :
    let known := { quiet with table.slots := [(3, planned .nogo 90 90)] }
    known.mayMove ∧ (known.newCheck straight false).sweep.claim = some (.planned 3)
    ∧ ((after (.ask straight) known).permit.check.map (·.speed)) = some 400
    ∧ (quiet.newCheck straight false).sweep.claim = none
    ∧ (after (.ask straight) quiet).permit.state = .moving
    ∧ (after (.ask straight) { quiet with limits.planCeiling := 150 }).permit.active.map (·.speed) = some 150 := by
  decide +kernel

/-- An ask with ticks. -/
def rollBy (left right : Int) : AskFrame :=
  { straight with leftTicks := BitVec.ofInt 16 left, rightTicks := BitVec.ofInt 16 right }

theorem test_equal_ticks_are_met :
    let moved (left right : Int) (h : Hub) : Pose := (after (.ask (rollBy left right)) h).pose
    kitchen.drive.rx.readyFor .ask = true ∧ askTicksLegal (rollBy 10 10) = true ∧ kitchen.tracking = true
    ∧ (rollBy 10 10).leftCount = 10 ∧ moved 10 10 kitchen = ⟨1200000, -310000, 16384⟩
    ∧ moved (-10) (-10) { kitchen with odo.heading := 0 } = ⟨1160000, -350000, 0⟩
    ∧ moved 2047 2047 { kitchen with odo.heading := 32768 } = ⟨-6988000, -350000, 32768⟩
    ∧ moved 1 1 { kitchen with odo.heading := 49152, odo.y := -2147483648 } = ⟨1200000, -2147483648, 49152⟩
    ∧ moved 10 10 { kitchen with drive.rx := .inFrame .ask [0xA1#8] } = ⟨1200000, -310000, 16384⟩
    ∧ (after (.ask (rollBy 1 1)) { quiet with odo.x := 25599999 }).odo.pose = .lost .range
    ∧ (after (.ask (rollBy 0 0)) { quiet with odo.x := 25599999 }).odo.pose = .tracking := by decide +kernel

theorem test_arrivals_are_met :
    let place (stop : Bool) (y : Int) : Waypoint := { doorway with x := 40, y := y, floor := 0, stopAt := stop }
    let ride (l : List Waypoint) : Hub := after (.ask (rollBy 10 10)) { rolling with route.waypoints := l }
    (ride [place true 100]).permit.lastStop = some .hold ∧ (ride [place true 100]).permit.holds.route = true
    ∧ (ride [place true 100]).planHas .routeEmpty = true ∧ (ride [place true 101]).route.waypoints.length = 1
    ∧ (ride [place false 0, place true 900]).route = { quiet.route with waypoints := [place true 900], advances := 1 }
    ∧ (ride [place false 0, place true 900]).permit.state = .moving := by decide +kernel

theorem test_trail_updates_are_met :
    let trailAt (l : List Crumb) : Hub := after (.ask straight) { quiet with trail := ⟨l, 28⟩ }
    let back (l : List Crumb) (d : Dock) : Hub := after (.ask straight) { quiet with trail := ⟨l, 28⟩, dock := d }
    let trailing (d : DockRecord) : Dock := ⟨d, .trail, 0, none⟩
    (trailAt loop).trail = ⟨loop.take 3, 28⟩ ∧ (trailAt [crumbAt 399 0 1]).trail.crumbs = [crumbAt 399 0 1]
    ∧ (trailAt [crumbAt 400 0 1]).trail = ⟨[crumbAt 400 0 1, crumbAt 0 0 28], 29⟩
    ∧ (trailAt []).trail = ⟨[crumbAt 0 0 28], 29⟩
    ∧ (back [crumbAt 151 0 1, crumbAt 150 0 2, crumbAt 0 0 3] (trailing (dockAt 9 9))).trail.crumbs = [crumbAt 151 0 1]
    ∧ (back [crumbAt 150 0 2] (trailing (dockAt 9000 9))).dock.state = .approach
    ∧ (back [crumbAt 150 0 2] (trailing { dockAt 9 9 with valid := false })).dock.state = .docking
    ∧ (back [] ⟨dockAt (-400) 0, .approach, 0, none⟩).dock.state = .docking
    ∧ (back [] ⟨dockAt 900 0, .approach, 0, none⟩).dock = ⟨dockAt 900 0, .approach, 0, none⟩ := by decide +kernel

/-- The spec's kitchen with a Map Updater at work and, on the left wheel's tile of before, a drop noted. -/
def crossing : Hub :=
  { kitchen with
    odo.left := ⟨some ⟨0, 0⟩, some ⟨0, 0⟩⟩
    odo.lookups := [⟨.centre, ⟨5, 5⟩, false, none⟩, ⟨.wheel .left, ⟨0, 0⟩, false, none⟩]
    updater.work := some ⟨[.climb ⟨0, 0⟩], .write⟩ }

theorem test_contact_tracking_is_met :
    let h := after (.ask straight) crossing
    let p := kitchen.pose
    p.contactTile 235 .left = some ⟨21, -7⟩ ∧ p.contactTile 235 .right = some ⟨26, -7⟩
    ∧ p.centreTile = some ⟨24, -7⟩ ∧ h.odo.left = ⟨some ⟨21, -7⟩, none⟩
    ∧ h.queue.records = [⟨.passOver, 1, 5000, .odometryUnit, [.passOver .left ⟨0, 0⟩]⟩]
    ∧ h.odo.lookups =
        [⟨.centre, ⟨5, 5⟩, true, none⟩, ⟨.wheel .left, ⟨0, 0⟩, true, none⟩, ⟨.wheel .left, ⟨21, -7⟩, false, none⟩,
          ⟨.wheel .right, ⟨26, -7⟩, false, none⟩]
    ∧ h.odo.centreAgain = true
    ∧ (after (.ask straight) { crossing with odo.lookups := [] }).odo.lookups.head?
        = some ⟨.centre, ⟨24, -7⟩, false, none⟩ := by decide +kernel

theorem test_stop_done_is_met :
    (after .stopDone { unconfirmed with drive.up := false }).permit.state = .still
    ∧ (after .stopDone { unconfirmed with drive.up := false }).drive.up = true
    ∧ (after .stopDone { halted with permit.driveStopped := false }).permit = halted.permit
    ∧ (after .stopDone rolling).permit = rolling.permit := by decide +kernel

/-- A queue of records of given item counts behind a Map Updater at work. -/
def backlogged (counts : List Nat) : Hub :=
  { quiet with
    queue.records := counts.map fun n => ⟨.climb, 0, 0, .driveLink, List.replicate n (.climb ⟨0, 0⟩)⟩
    queue.backlog := true
    updater.work := some ⟨[.climb ⟨0, 0⟩], .write⟩ }

theorem test_drive_events_are_met :
    let brink := backlogged (List.replicate 17 4 ++ [1, 1, 1, 2, 2])
    let most := backlogged (List.replicate 39 1)
    brink.queue.bytes = 626 ∧ (after (.brushLoad .high) brink).queue.bytes = 640
    ∧ most.queue.count = 39 ∧ (after .climb most).queue.count = 40
    ∧ (after .climb (backlogged (List.replicate 40 1))).queue.lost = 1
    ∧ (after .climb (backlogged (List.replicate 20 4))).planHas .evidenceLost = true
    ∧ quiet.pose.frontTile quiet.limits.radius = some ⟨3, 0⟩
    ∧ (after .climb quiet).updater.work = some ⟨[.climb ⟨3, 0⟩], .write⟩
    ∧ (after (.brushLoad .high) { quiet with odo.pose := .lost .start }).updater.pile = .high := by decide +kernel

/-- An EVENT whose last byte is not its CRC-8. -/
def badEvent : List LinkChar := linkChars [0xA2#8, 0x01#8, 0x00#8, 0x00#8]

/-- One character with its mark bit, its stop bit high. -/
def char (b : Byte) (mark : Bool) : LinkChar := ⟨b, mark, true⟩

theorem test_received_characters_are_judged :
    let rx : DriveRx := .hunting false
    let inAsk : DriveRx := .inFrame .ask [0xA1#8]
    rx.take (char 0x01#8 false) = (.hunting true, some .bad) ∧ (DriveRx.hunting true).take (char 0x01#8 false) = (.hunting true, none)
    ∧ rx.take (char 0xB1#8 true) = (.hunting false, some .bad)
    ∧ inAsk.take (char 0xA2#8 true) = (.inFrame .event [0xA2#8], some .bad)
    ∧ inAsk.take (char 0xB1#8 true) = (.hunting false, some .bad)
    ∧ inAsk.take ⟨0x00#8, false, false⟩ = (.hunting false, some .bad)
    ∧ rx.hear (linkChars straight.encode) = some (.hunting false, .ask straight)
    ∧ rx.follow ((linkChars straight.encode).take 12) = some (.inFrame .ask (straight.encode.take 12))
    ∧ rx.hear badEvent = some (.hunting false, .bad)
    ∧ rx.hear (linkChars (eventBytes 0x04#8 0x00#8)) = some (.hunting false, .bad)
    ∧ rx.hear (linkChars (eventBytes 0x02#8 0x03#8)) = some (.hunting false, .bad)
    ∧ rx.hear (linkChars (eventBytes 0x02#8 0x01#8)) = some (.hunting false, .brushLoad .medium) := by decide +kernel

theorem test_bad_frames_are_met :
    let eighth := { rolling with drive.badRun := 7 }
    let cut : List LinkChar := [char 0xA2#8 true]
    (after (.driveBadFrame badEvent) { quiet with drive.badRun := 6, drive.errors := 255 }).drive.badRun = 7
    ∧ (after (.driveBadFrame badEvent) { quiet with drive.up := false, drive.badRun := 8 }).drive.badRun = 8
    ∧ (after (.driveBadFrame cut) { quiet with drive.rx := .inFrame .ask [0xA1#8] }).drive.rx
        = .inFrame .event [0xA2#8]
    ∧ (after (.driveBadFrame badEvent) eighth).permit.state = .inhibited
    ∧ (after (.driveBadFrame badEvent) eighth).permit.lastStop = some .link
    ∧ (after (.driveBadFrame cut) { eighth with drive.rx := .inFrame .ask [0xA1#8] }).drive.errors = 2
    ∧ (after (.dlRxHeldLow []) quiet).drive.up = false ∧ (after (.dlRxHeldLow []) quiet).drive.errors = 0
    ∧ (after (.dlRxHeldLow cut) quiet).drive.errors = 1
    ∧ after (.dlRxHeldLow cut) { quiet with drive.up := false } = { quiet with drive.up := false } := by decide +kernel

theorem test_link_triggers_are_met :
    rolling.permit.check = none ∧ quiet.permit.check = none
    ∧ (halted.trigger .link) = halted
    ∧ (quiet.trigger .link).drive.sending = none ∧ (quiet.trigger .link).powerHas .inhibited = true
    ∧ (unconfirmed.trigger .link).drive.sending = some (.stop .link) := by decide +kernel

/-! ## Witnesses: the arbiter, checks, permits and rechecks -/

/-- A hub on which everyone the arbiter knows may wait. -/
def contended (check recheck updater odometry plan store : Bool) : Hub :=
  { quiet with
    table.slots := [(3, planned .nogo 90 90), (9, planned .rug 91 90)]
    permit.check := if check then some (checkAt (some (.planned 3))) else none
    permit.state := if recheck then .moving else .still
    permit.active := if recheck then some ride else none
    permit.recheck := if recheck then some (sweepAt (some (.planned 3))) else none
    updater.work := if updater then some ⟨[.climb ⟨0, 0⟩], .write⟩ else none
    odo.lookups := if odometry then [⟨.centre, ⟨0, 0⟩, false, none⟩] else []
    plan.slot := if plan then .inService (.delete 3 none) else .empty
    store.phase := if store then .save { SaveOp.begin 1 0 with step := .reading 3 } else .idle }

/-- A hub with the arbiter's memory set to a unit that rests before its next claim. -/
def resting (c : Claimant) (h : Hub) : Hub := { h with table.resting := some c }

/-- The claimants the arbiter may grant, and so may go next. -/
def grantable (h : Hub) : List Claimant :=
  [.check, .recheck, .updater, .odometry, .plan, .store].filter h.grants

theorem test_arbiter_order_is_met :
    grantable (contended true true true true true true) = [.recheck]
    ∧ grantable { contended true true true true true true with permit.recheckTurn := .check } = [.check]
    ∧ grantable (contended true false true true true true) = [.check]
    ∧ grantable (contended false true true true true true) = [.recheck]
    ∧ grantable (contended false false true true true true) = [.updater]
    ∧ grantable { contended false false true true true true with table.metBefore := true, table.lastSecond := some .updater }
        = [.odometry]
    ∧ grantable (contended false false true false true true) = [.updater]
    ∧ grantable (contended false false false true true true) = [.odometry]
    ∧ grantable (contended false false false false true true) = [.plan]
    ∧ grantable (contended false false false false false true) = [.store]
    ∧ grantable quiet = [] := by decide +kernel

theorem test_grants_in_a_gap_are_met :
    grantable (resting .check (contended true true true true true true)) = [.recheck, .updater]
    ∧ grantable (resting .check (contended true false true true true true)) = [.check, .updater]
    ∧ grantable (resting .check (contended true false false false true true)) = [.check, .plan]
    ∧ grantable (resting .updater (contended true false true true true true)) = [.check]
    ∧ grantable (resting .updater (contended false false true true true true)) = [.updater, .odometry]
    ∧ grantable (resting .updater (contended false false true false true true)) = [.updater, .plan]
    ∧ grantable (resting .plan (contended false false false false true true)) = [.plan, .store]
    ∧ grantable (resting .store (contended false false false false false true)) = [.store]
    ∧ (after .recheckClaim (contended true true true true true true)).table.resting = some .check
    ∧ (after .mapDeleteWrite (resting .updater (contended false false true false true false))).table.resting = none
    ∧ (after .saveSlotRead (contended false false false false true true)).table.resting = none := by decide +kernel

theorem test_planned_reads_are_met :
    let h := contended true true false false false false
    h.table.slots.entry 3 = some (planned .nogo 90 90) ∧ h.table.nextPlanned 0 4 = some 9
    ∧ (after .recheckClaim h).permit.recheck.map (·.claim) = some (some (.planned 9))
    ∧ (after .recheckClaim h).permit.recheckTurn = .check
    ∧ (after .checkSweepClaim (after .recheckClaim h)).permit.check.map (·.sweep.claim) = some (some (.planned 9))
    ∧ (after .checkSweepClaim (after .recheckClaim h)).permit.recheckTurn = .recheck := by decide +kernel

/-- A check of section 5.8 with its claims to make. -/
def checking (x : Int) (cls : HazardClass) (ask : AskFrame) : Hub :=
  after (.ask ask) (corridor x cls 6 false)

theorem test_check_conclusions_are_met :
    (checking 0 .cliff straight).grants .check = true
    ∧ (after .checkSweepClaim (checking 0 .cliff straight)).permit.state = .moving
    ∧ (after .checkSweepClaim (checking 0 .cliff straight)).permit.active.map (·.speed) = some 316
    ∧ (after .checkSweepClaim (checking 0 .cliff straight)).permit.expiry = some ⟨5000, 100⟩
    ∧ refusalOf (after .checkSweepClaim (checking 80000 .cliff straight)) = some .cliffAhead
    ∧ (after .checkSweepClaim (checking 80000 .cliff straight)).att.refusals.getD 5 0 = 1
    ∧ (after .checkSweepClaim (checking 0 .dropSuspect { straight with intent := 1 })).permit.state = .probing := by
  decide +kernel

/-- The permit's recheck is to read the one entry in the way. -/
def rechecking (cls : HazardClass) : Hub :=
  Hub.recheckAsked { rolling with odo.y := 25000, table.slots := [(1, sensed cls 5 0 6)] }

theorem test_recheck_is_met :
    (rechecking .cliff).grants .recheck = true
    ∧ (after .recheckClaim (rechecking .cliff)).permit.state = .stopping
    ∧ (after .recheckClaim (rechecking .cliff)).permit.lastStop = some .recheck
    ∧ (rechecking .threshold).permit.recheckPending = false
    ∧ (after .recheckClaim (rechecking .threshold)).permit = rolling.permit := by decide +kernel

theorem test_probe_speed_is_met :
    let c := (corridor 0 .dropSuspect 4 true).newCheck { straight with intent := 1, horizon := 200 } false
    let b : Seen := ⟨⟨⟨5, 0⟩, 85000 * distUnit, false, true, false⟩, [sensed .dropSuspect 5 0 4]⟩
    let v := Check.verdict { c with sweep := { sweepAt none with seen := [b], firstBlocking := some b } } false
    v.outcome = .probe ∧ v.speed = 60 ∧ v.horizon = 200 := by decide +kernel

theorem test_holds_are_met :
    let checked (h : Hub) : Hub := { h with permit.check := some (checkAt (some (.planned 3))) }
    (after (.hold .power []) quiet).permit.holds = ⟨false, true, false, false⟩
    ∧ (after (.hold .plan []) rolling).permit.lastStop = some .hold
    ∧ (after (.hold .plan []) rolling).plan.slot = .ready ⟨.done, 0x28#8, [0x01#8]⟩
    ∧ (after (.hold .plan []) (checked rolling)).att.refusals.getD 0 0 = 1
    ∧ refusalOf (after (.hold .plan []) (checked quiet)) = some .held
    ∧ (after (.hold .plan []) (checked quiet)).att.refusals.getD 0 0 = 1
    ∧ rolling.permit.holds.has .plan = false
    ∧ releasedHold .plan [0x03#8] = some .route ∧ releasedHold .power [] = some .power
    ∧ (after (.release .plan [0x03#8]) { quiet with permit.holds.route := true }).permit.holds.empty = true
    ∧ (after (.release .plan [0x01#8]) quiet).plan.slot = .ready ⟨.badField, 0x29#8, []⟩
    ∧ (after (.release .plan [0x04#8]) quiet).plan.slot = .ready ⟨.badField, 0x29#8, []⟩ := by decide +kernel

theorem test_release_inhibit_is_met :
    let answer (h : Hub) := (after (.releaseInhibit []) h).plan.slot
    answer quiet = .ready ⟨.notInhibited, 0x2A#8, []⟩
    ∧ answer { halted with drive.up := false } = .ready ⟨.linkDown, 0x2A#8, []⟩
    ∧ answer { halted with permit.driveStopped := false } = .ready ⟨.notStopped, 0x2A#8, []⟩
    ∧ answer { halted with lines.asserted.wdpR := true } = .ready ⟨.wheelDrop, 0x2A#8, []⟩
    ∧ answer halted = .ready ⟨.done, 0x2A#8, []⟩
    ∧ (after (.releaseInhibit []) halted).driveInhibit = false := by decide +kernel

/-! ## Witnesses: evidence and the Map Updater -/

theorem test_drop_evidence_is_met :
    let t : Tile := ⟨0, 0⟩
    let rug (dark : Bool) : Entry := { sensed .rug 0 0 8 with rug := some ⟨.low, dark, false⟩ }
    (Item.lowReflect .fl t 0 3).effect .low (some (sensed .cliff 0 0 15)) = .change .cliff 15 none
    ∧ (Item.noReturn .fl t 0 3).effect .low (some (sensed .dropSuspect 0 0 4)) = .change .cliff 6 none
    ∧ (Item.lowReflect .fl t 0 3).effect .low (some (rug false)) = .change .rug 8 (some ⟨.low, true, false⟩)
    ∧ (Item.noReturn .fl t 0 3).effect .low (some (rug true)) = .unchanged
    ∧ (Item.noReturn .fl t 0 3).effect .low (some (sensed .threshold 0 0 6)) = .change .cliff 6 none
    ∧ (Item.floorClear .fl t).effect .low (some (sensed .cliff 0 0 8)) = .unchanged
    ∧ (Item.floorClear .fl t).effect .low (some (sensed .cliff 0 0 7)) = .change .cliff 6 none
    ∧ (Item.floorClear .fl t).effect .low (some (sensed .obstacle 0 0 1)) = .remove
    ∧ (Item.wheelDrop .left t).effect .low (some (rug true)) = .change .cliff 15 none := by decide

theorem test_contact_evidence_is_met :
    let t : Tile := ⟨0, 0⟩
    let rug : Entry := { sensed .rug 0 0 8 with rug := some ⟨.low, true, false⟩ }
    (Item.passOver .left t).effect .medium (some (sensed .cliff 0 0 7)) = .change .rug 8 (some ⟨.medium, true, false⟩)
    ∧ (Item.passOver .left t).effect .medium (some (sensed .cliff 0 0 8)) = .conflict
    ∧ (Item.passOver .left t).effect .medium (some (sensed .obstacle 0 0 8)) = .remove
    ∧ (Item.bump .left t).effect .low (some (sensed .obstacle 0 0 14)) = .change .obstacle 15 none
    ∧ (Item.bump .left t).effect .low (some rug) = .change .obstacle 5 none
    ∧ (Item.climb t).effect .low (some (sensed .threshold 0 0 6)) = .change .threshold 9 none
    ∧ (Item.climb t).effect .low (some rug) = .unchanged
    ∧ (Item.brushLoad .high).effect .low (some rug) = .change .rug 8 (some ⟨.high, true, true⟩) := by decide

/-- The Map Updater waits to write one item to the table. -/
def applying (item : Item) (phase : ApplyPhase) (slots : SlotMap) : Hub :=
  { quiet with
    table.slots := slots
    time.secs := 44
    queue.records := [⟨.climb, 0, 4990, .driveLink, [item]⟩]
    updater.work := some ⟨[item], phase⟩ }

theorem test_apply_item_changes_are_met :
    let write (item : Item) (e : Entry) : Hub := after .applyItem (applying item .write [(5, e)])
    (applying (.climb ⟨1, 1⟩) .write []).grants .updater = true
    ∧ (write (.lowReflect .sl ⟨1, 1⟩ 0 3) (sensed .obstacle 1 1 5)).table.slots = [(5, sensed .obstacle 1 1 5)]
    ∧ (write (.passOver .left ⟨1, 1⟩) (sensed .cliff 1 1 15)).updater.conflicts = 1
    ∧ (write (.floorClear .sl ⟨1, 1⟩) (sensed .obstacle 1 1 1)).table.slots = []
    ∧ (write (.bump .left ⟨1, 1⟩) (sensed .obstacle 1 1 5)).table.slots
        = [(5, { sensed .obstacle 1 1 8 with stamp := 44 })]
    ∧ (write (.bump .left ⟨1, 1⟩) (sensed .obstacle 1 1 5)).table.generation = 0
    ∧ (write (.wheelDrop .left ⟨1, 1⟩) (sensed .obstacle 1 1 5)).table.generation = 1 := by decide +kernel

theorem test_apply_item_create_is_met :
    let h := applying (.climb ⟨1, 1⟩) .write [(0, planned .nogo 4 4), (2, planned .nogo 6 4)]
    h.table.sensedAt 0 ⟨1, 1⟩ = none ∧ h.table.slots.free = some 1
    ∧ (after .applyItem h).table.slots.entry 1 = some { sensed .threshold 1 1 6 with stamp := 44 }
    ∧ (after .applyItem h).table.generation = 1 ∧ (after .applyItem h).queue.records = [] := by decide +kernel

theorem test_dark_rug_screen_is_met :
    let dark : Entry := { planned .rug 1 1 with rug := some ⟨.low, true, false⟩ }
    let item : Item := .noReturn .fl ⟨1, 1⟩ 0 3
    (after .plannedRugRead (applying item (.plannedRead 2 false) [(2, dark), (4, planned .nogo 9 9)])).updater.work
      = some ⟨[item], .plannedRead 4 true⟩
    ∧ (after .plannedRugRead (applying item (.plannedRead 2 false) [(2, planned .nogo 1 1)])).updater.work
      = some ⟨[item], .write⟩
    ∧ (after .plannedRugRead (applying item (.plannedRead 2 false) [(2, dark)])).queue.records = [] := by
  decide +kernel

theorem test_eviction_search_is_met :
    (searching victims 17 none).grants .updater = true
    ∧ (after .evictionSearchRead (searching victims 511 (some ⟨230, 2, 1210⟩))).updater.work
        = some ⟨[.lowReflect .fl ⟨40, -12⟩ 10 3], .search 600 (some ⟨511, 2, 900⟩)⟩
    ∧ (after .evictionSearchRead (searching victims 812 (some ⟨511, 2, 900⟩))).updater.work
        = some ⟨[.lowReflect .fl ⟨40, -12⟩ 10 3], .evict 511⟩
    ∧ (after .evictionSearchRead (searching victims 812 none)).planHas .mapFull = true := by decide +kernel

/-- A full table: one entry in slot 0, the rest PLANNED. -/
def fullTable (e : Entry) : SlotMap := (0, e) :: (List.range 1023).map fun i => (i + 1, planned .nogo 9 9)

theorem test_eviction_is_met :
    let item : Item := .climb ⟨1, 1⟩
    let full := applying item (.evict 0) (fullTable (sensed .rug 5 5 3))
    full.table.slots.free = none ∧ full.table.sensedAt 0 ⟨1, 1⟩ = none
    ∧ (after .evict full).table.slots.entry 0 = some { sensed .threshold 1 1 6 with stamp := 44 }
    ∧ (after .evict full).table.evictions = 1 ∧ (after .evict full).table.generation = 2 := by decide +kernel

theorem test_eviction_turns_are_met :
    let item : Item := .climb ⟨1, 1⟩
    let pinned := applying item (.evict 0) (fullTable { sensed .rug 5 5 3 with pinned := true })
    let free := applying item (.evict 0) [(0, sensed .rug 5 5 3)]
    (after .evict pinned).updater.work = some ⟨[item], .search 0 none⟩
    ∧ free.table.slots.free = some 1 ∧ (after .evict free).table.evictions = 0
    ∧ (after .evict free).table.slots.length = 2 := by decide +kernel

/-! ## Witnesses: lookups -/

/-- A hub with one lookup of a tile in progress. -/
def looking (what : LookupFor) (discard : Bool) (slots : SlotMap) : Hub :=
  { quiet with
    table.slots := slots
    odo.left.contact := some ⟨1, 1⟩
    odo.lookups := [⟨what, ⟨1, 1⟩, discard, none⟩] }

theorem test_centre_lookup_is_met :
    let rug (p : Pile) (o : Origin) : Entry :=
      { sensed .rug 1 1 8 with origin := o, rug := some ⟨p, false, decide (p = .high)⟩ }
    let slots : SlotMap := [(2, rug .high .planned), (4, planned .nogo 9 9), (6, rug .low .sensed)]
    let read (n : Nat) (h : Hub) : Hub := (after .centreTileLookupDone)^[n] h
    (looking .centre false slots).completing .centre = some ⟨.centre, ⟨1, 1⟩, false, none⟩
    ∧ (looking .centre false slots).lookupClaim ⟨.centre, ⟨1, 1⟩, false, none⟩ = some (.sensed 6)
    ∧ (read 1 (looking .centre false slots)).odo.lookups = [⟨.centre, ⟨1, 1⟩, false, some ⟨0, 2, some .low⟩⟩]
    ∧ (read 2 (looking .centre false slots)).odo.lookups = [⟨.centre, ⟨1, 1⟩, false, some ⟨0, 4, some .high⟩⟩]
    ∧ (read 3 (looking .centre false slots)).odo.slip = some .high
    ∧ (read 3 (looking .centre false slots)).load.rug = true
    ∧ (read 3 (looking .centre true slots)).odo.slip = none ∧ (read 3 (looking .centre true slots)).odo.lookups = []
    ∧ (read 1 { looking .centre false [] with odo.slip := some .low }).odo.slip = none
    ∧ (read 1 (looking .centre false [])).odo.lookups = [] := by decide +kernel

theorem test_pass_over_lookup_is_met :
    let noted (h : Hub) := (after (.passOverLookupDone .left) h).odo.left.noted
    (looking (.wheel .left) false [(2, sensed .cliff 1 1 7)]).completing (.wheel .left)
        = some ⟨.wheel .left, ⟨1, 1⟩, false, none⟩
    ∧ noted (looking (.wheel .left) false [(2, sensed .cliff 1 1 7)]) = some ⟨1, 1⟩
    ∧ noted (looking (.wheel .left) false [(2, sensed .cliff 1 1 8)]) = none
    ∧ noted (looking (.wheel .left) true [(2, sensed .dropSuspect 1 1 4)]) = none
    ∧ noted { looking (.wheel .left) false [(2, sensed .dropSuspect 1 1 4)] with lines.asserted.wdpL := true } = none := by
  decide +kernel

/-! ## Witnesses: the Beacon Receiver -/

/-- The payload of dock id 1, field CENTRE: 0x1, 0x0, 0x8 and their sum. -/
def centreBeam : BitVec 16 := 0x1089

/-- A hub whose slot 1 takes that payload. -/
def watching : Hub :=
  { quiet with beacon.slot0 := ⟨0x2000, 0xF000, true⟩, beacon.slot1 := ⟨0x1000, 0xF000, true⟩ }

theorem test_beacon_frames_are_met :
    payloadField centreBeam = some .centre ∧ payloadField 0x1088 = none
    ∧ watching.beacon.slotFor centreBeam = some 1
    ∧ ((after (.beaconFrame .right centreBeam) watching).beacon.right.sighting) = some ⟨1, .centre, 5000⟩
    ∧ (after (.beaconFrame .right centreBeam) { watching with dock := (seeking 0 0 true).dock }).dock.timer = none
    ∧ quiet.beacon.slotFor centreBeam = none
    ∧ (after (.beaconFrame .right centreBeam) { quiet with beacon.foreign := 255 }).beacon.foreign = 255
    ∧ (after (.beaconFrame .right 0x1088) quiet) = quiet := by decide +kernel

theorem test_shadow_frames_are_met :
    let eye (n : Nat) (upright : Bool) : Hub :=
      { quiet with beacon.left := { Eye.cold with inversions := n, shadow := .space [], uprightSince := upright } }
    (after (.beaconShadowFrame .left centreBeam) (eye 6 false)).beacon.left.inversions = 7
    ∧ (after (.beaconShadowFrame .left centreBeam) (eye 7 false)).beacon.left = { Eye.cold with inverted := true }
    ∧ (after (.beaconShadowFrame .left centreBeam) (eye 7 false)).planHas .beaconPolarity = true
    ∧ (after (.beaconShadowFrame .left centreBeam) (eye 7 true)).beacon.left.inversions = 7
    ∧ (after (.beaconShadowFrame .left 0x1088) (eye 7 false)).beacon.left.inversions = 7 := by decide +kernel

theorem test_element_durations_are_met :
    lasts 82 2500 3500 = true ∧ lasts 81 2500 3500 = false ∧ lasts 114 2500 3500 = true ∧ lasts 115 2500 3500 = false
    ∧ lasts 10 300 800 = true ∧ lasts 9 300 800 = false ∧ lasts 26 300 800 = true ∧ lasts 27 300 800 = false
    ∧ lasts 40 1200 1800 = true ∧ lasts 39 1200 1800 = false ∧ lasts 58 1200 1800 = true
    ∧ lasts 59 1200 1800 = false ∧ lasts 22 300 700 = true ∧ lasts 23 300 700 = false := by decide

/-- A whole train of a payload on an eye: marks are the line low. -/
def train (p : BitVec 16) (h : Hub) : Hub :=
  (List.range 16).foldl
    (fun h i => after (.beaconElement .left false 16)
      (after (.beaconElement .left true (if p.getLsbD (15 - i) then 49 else 16)) h))
    (after (.beaconElement .left false 98) h)

theorem test_elements_are_met :
    (train centreBeam watching).beacon.left.sighting = some ⟨1, .centre, 5000⟩
    ∧ (train centreBeam watching).powerHas .dockSighted = true
    ∧ (train centreBeam { watching with beacon.left.inverted := true }).beacon.left.sighting = none
    ∧ (train centreBeam { watching with beacon.left.inverted := true }).beacon.left.inversions = 1 := by decide +kernel

/-! ## Witnesses: the ports -/

/-- A reply of four bytes on both ports. -/
def answered : Hub :=
  { quiet with
    plan.slot := .ready ⟨.done, 0x21#8, []⟩
    power.slot := some ⟨.done, 0x4B#8, []⟩
    att.planFlags := 0x15#17
    att.powerFlags := 0x3#6 }

theorem test_reads_are_met :
    (after (.planReplyRead 4) answered).plan = ⟨.empty, [0x00#8, 0x21#8, 0x00#8, crc8 [0x00#8, 0x21#8, 0x00#8]]⟩
    ∧ (after (.planReplyRead 4) answered).att.planFlags = 0x14#17
    ∧ (after (.planReplyRead 3) answered).plan.slot = answered.plan.slot
    ∧ (after (.planReplyRead 9) quiet).plan.out = [0x02#8, 0x00#8, 0x00#8, crc8 [0x02#8, 0x00#8, 0x00#8]]
    ∧ (after (.powerReplyRead 4) answered).power.slot = none ∧ (after (.powerReplyRead 4) answered).att.powerFlags = 2
    ∧ (after (.powerReplyRead 3) answered).power.slot = answered.power.slot
    ∧ (after (.flagPeek 6) answered).plan.out = [0x00#8, 0x00#8, 0x15#8, 0x00#8, 0x00#8, 0x01#8]
    ∧ (after (.planOtherCommand 0x54#8 2) answered).plan.out = [0xFF#8, 0xFF#8] := by decide +kernel

theorem test_frame_sent_is_met :
    let h := { quiet with drive.sending := some (.stop .hold), drive.waiting := [.stop .bump] }
    (after .driveFrameSent h).drive.sent
      = (linkChars [0xB2#8, 0x02#8, crc8 [0xB2#8, 0x02#8]]).flatMap (·.bits)
    ∧ (after .driveFrameSent h).drive.sent.take 11
        = [false, false, true, false, false, true, true, false, true, true, true]
    ∧ (after .driveFrameSent h).drive.sent.length = 33
    ∧ (after .driveFrameSent h).drive.sending = some (.stop .bump)
    ∧ (after .driveFrameSent h).drive.waiting = [] := by decide +kernel

/-- A hub with a Plan table request in service. -/
def serving : Hub := { quiet with plan.slot := .inService (.delete 3 none) }

theorem test_frames_are_met :
    goodFrame [0x01#8, 0x00#8] = false ∧ quiet.planOpen ∧ serving.plan.slot.claims = true
    ∧ (after (.frameError .plan [0x01#8, 0x00#8]) quiet).plan.slot = .ready ⟨.frameError, 0x01#8, []⟩
    ∧ (after (.frameError .plan [0x01#8, 0x00#8]) answered).planHas .replyLost = true
    ∧ (after (.frameError .plan [0x01#8, 0x00#8]) serving).plan.slot = serving.plan.slot
    ∧ (after (.unknownRequest .power 0x03#8 []) quiet).power.slot = some ⟨.unknownRequest, 0x03#8, []⟩
    ∧ (after (.unknownRequest .plan 0x48#8 []) quiet).route.lease = .running
    ∧ (after (.setMask [0x00#8]) quiet).plan.slot = .ready ⟨.badField, 0x03#8, []⟩
    ∧ (after (.setMask []) serving).planHas .replyLost = true
    ∧ (after (.setMask []) serving).route.leaseTimer = some ⟨5000, 1000⟩ := by decide +kernel

/-- How many bytes the body of the held Plan or Power reply has. -/
def bodyLengths (h : Hub) : Nat × Nat :=
  (match h.plan.slot with
    | .ready r => r.body.length
    | _ => 0,
   codeOf h.power.slot (·.body.length))

/-- A hub whose status has a value of its own in each main field. -/
def reported : Hub :=
  { rolling with
    odo := { rolling.odo with x := 1200400, y := -350600, heading := 16384, floor := 1, rangeSet := true }
    permit.holds.plan := true, permit.lastStop := some .bump, permit.active := some { ride with turn := -3 }
    route.advances := 513, route.waypoints := [doorway], trail := ⟨loop, 1027⟩, dock.fallbacks := 2
    load := ⟨true, false, true, none⟩, scanner.averaged := true, table.generation := 4660, drive.up := false
    store.phase := .load .startUpLoad }

theorem test_status_is_met :
    let on (p : Port) : Hub := reported.framed p
    let part (p : Port) (at_ n : Nat) : List Byte := (((on p).statusBody p).drop at_).take n
    quiet.portOpen .plan ∧ quiet.portOpen .power
    ∧ bodyLengths (after (.status .power []) (after (.status .plan []) rolling)) = (129, 127)
    ∧ part .plan 0 14 = be32s 1200 ++ be32s (-351) ++ [0x40#8, 0x00#8, 0x00#8, 0x00#8, 0x01#8, 0x01#8]
    ∧ part .plan 14 11 = [0x01#8, 0x01#8, 0x00#8, 0x06#8, 0x00#8, 0x00#8, 0x00#8, 0x00#8, 0xC8#8, 0xFF#8, 0xFD#8]
    ∧ part .plan 74 1 = [0x01#8] ∧ part .plan 81 2 = [0x02#8, 0x01#8] ∧ part .plan 86 1 = [0x08#8]
    ∧ part .plan 89 4 = [0x04#8, 0x03#8, 0x00#8, 0x02#8] ∧ part .plan 120 2 = [0x05#8, 0x01#8]
    ∧ part .plan 124 9 = [0x01#8, 0x04#8, 0x12#8, 0x34#8, 0x01#8]
    ∧ part .power 87 4 = part .plan 89 4 ∧ part .power 122 9 = part .plan 124 9 := by decide +kernel

theorem test_flag_requests_are_met :
    (after (.takeFlags .plan [0x00#8, 0x00#8, 0x04#8]) answered).att.planFlags = 0x13#17
    ∧ (after (.takeFlags .power [0x02#8]) answered).att.powerFlags = 0x1#6
    ∧ (after (.takeFlags .power [0x02#8]) answered).power.slot = some ⟨.done, 0x02#8, [0x03#8, 0x01#8]⟩
    ∧ (after (.setMask [0x00#8, 0x01#8, 0xFF#8, 0xFF#8]) quiet).att.planMask = 0x1FFFF#17
    ∧ (after (.setMask [0x01#8, 0x00#8, 0x00#8, 0xFF#8]) quiet).att.powerMask = 0x3F#6
    ∧ (after (.setMask [0x02#8, 0x00#8, 0x00#8, 0x00#8]) quiet).plan.slot = .ready ⟨.badField, 0x03#8, []⟩ := by
  decide +kernel

theorem test_counters_are_met :
    let h := { quiet with permit.stopTimeouts := 3, route.advances := 5 }
    (after (.counters [0xFE#8]) h).permit.stopTimeouts = 3 ∧ (after (.counters [0x01#8]) h).permit.stopTimeouts = 0
    ∧ (after (.counters [0x01#8]) h).route.advances = 5
    ∧ bodyLengths (after (.counters [0x01#8]) h) = (27, 0) := by decide +kernel

/-! ## Witnesses: settings and layouts -/

theorem test_limits_are_met :
    let least : Limits := ⟨50, 100, 0, 500, false, 100, false, 1, 1⟩
    let most : Limits := ⟨500, 250, 100, 4000, true, 5000, true, 40, 10⟩
    Limits.parse least.encode = some least ∧ Limits.parse most.encode = some most
    ∧ Limits.parse { least with planCeiling := 49 }.encode = none
    ∧ Limits.parse { most with byteT := 11 }.encode = none
    ∧ (after (.setLimits most.encode) quiet).route.leaseTimer = some ⟨5000, 5000⟩
    ∧ (after (.setLimits { most with leasePeriod := 0 }.encode) quiet).route.lease = .off
    ∧ (after (.setLimits { Limits.default with countT := 1 }.encode) (backlogged [1])).queue.backlog = true
    ∧ (after (.setLimits { Limits.default with countT := 3 }.encode) (backlogged [1])).queue.backlog = false
    ∧ (after (.setLimits { least with decel := 499 }.encode) quiet).limits = Limits.default := by decide +kernel

/-- The body of SET_SENSORS with the cold-start settings but F and D. -/
def sensorBody (f d : Nat) : List Byte :=
  be16 f ++ be16 d ++ be16 600 ++ be16s 150 ++ be16s 60 ++ be16s 150 ++ be16s (-60) ++ be16s 60 ++ be16s 150
  ++ be16s 60 ++ be16s (-150) ++ [0x00#8] ++ be16 1024 ++ be16 235

theorem test_sensors_are_met :
    Sensors.parse (sensorBody 320 90) = some Sensors.default
    ∧ (after (.setSensors (sensorBody 1023 1022)) quiet).sensors.darkT = 1022
    ∧ (after (.setSensors (sensorBody 90 90)) quiet).plan.slot = .ready ⟨.badField, 0x06#8, []⟩
    ∧ (after (.setSensors (sensorBody 1024 90)) quiet).sensors = Sensors.default := by decide +kernel

theorem test_layouts_are_met :
    let w : Waypoint := ⟨-25599, 25599, 3, 500, 50, 255, true, true⟩
    let e : Entry := ⟨3, .rug, .planned, -512, 448, 64, 64, 15, true, some ⟨.high, true, true⟩, some 63, 65535⟩
    Waypoint.parse w.encode = some w ∧ e.legal = true ∧ Entry.decode e.encode = some e
    ∧ (sensed .cliff 511 (-512) 1).legal = true ∧ (sensed .cliff 512 0 1).legal = false
    ∧ e.encode = [0x04#8, 0xFF#8, 0xFE#8, 0x00#8, 0x01#8, 0xC0#8, 0x40#8, 0x40#8, 0x0F#8, 0x02#8, 0x3F#8, 0xFF#8,
        0xFF#8, 0xFF#8, 0xFF#8, 0xFF#8] := by decide +kernel

/-! ## Witnesses: the Plan map requests -/

/-- The body of a MAP_PUT of a NOGO tile. -/
def putBody (floor : Nat) : List Byte :=
  [byte floor, 0x05#8] ++ be16s 4 ++ be16s (-4) ++ [0x01#8, 0x01#8, 0x00#8, 0x00#8, 0x00#8]

theorem test_map_edits_enter_service :
    let busy := { quiet with store.phase := .load .startUpLoad }
    (after (.mapPut (putBody 0)) quiet).plan.slot = .inService (.put { planned .nogo 4 (-4) with stamp := 0 })
    ∧ (after (.mapPut (putBody 4)) quiet).plan.slot = .ready ⟨.badField, 0x10#8, []⟩
    ∧ (after (.mapPut (putBody 0)) busy).plan.slot = .ready ⟨.busy, 0x10#8, []⟩
    ∧ (after (.mapDelete [0x03#8, 0xFF#8, 0x01#8, 0x00#8, 0x07#8]) quiet).plan.slot = .inService (.delete 1023 (some 7))
    ∧ (after (.mapDelete [0x04#8, 0x00#8, 0x00#8, 0x00#8, 0x00#8]) quiet).plan.slot = .ready ⟨.badField, 0x11#8, []⟩
    ∧ (after (.mapConfirm ([0x03#8] ++ be16s 511 ++ be16s (-512) ++ [0x01#8])) quiet).plan.slot
        = .inService (.confirm 3 ⟨511, -512⟩ true)
    ∧ (after (.mapConfirm ([0x03#8] ++ be16s 512 ++ be16s 0 ++ [0x01#8])) quiet).plan.slot
        = .ready ⟨.badField, 0x12#8, []⟩ := by decide +kernel

/-- The body of a MAP_QUERY of the whole of floor 0. -/
def queryBody (start : Nat) : List Byte :=
  [0x00#8] ++ be16s (-512) ++ be16s (-512) ++ be16 1024 ++ be16 1024 ++ be16 start

theorem test_queries_and_clears_enter_service :
    let h := { quiet with table.slots := [(1023, planned .nogo 4 4)] }
    (after (.mapQuery (queryBody 1023)) h).plan.slot = .inService (.query 0 (-512) (-512) 1024 1024 1023 [])
    ∧ (after (.mapQuery (queryBody 1024)) h).plan.slot = .ready ⟨.badField, 0x13#8, []⟩
    ∧ bodyLengths (after (.mapQuery (queryBody 0)) quiet) = (7, 0)
    ∧ (after (.mapClear [0x03#8]) h).plan.slot = .inService (.clear 3 1023 false 0 none)
    ∧ (after (.mapClear [0x04#8]) h).plan.slot = .ready ⟨.badField, 0x14#8, []⟩
    ∧ (after (.mapClear [0x00#8]) quiet).plan.slot = .ready ⟨.done, 0x14#8, [0x00#8, 0x00#8, 0x00#8, 0x00#8]⟩
    ∧ (after (.mapClear [0x00#8]) { h with store.phase := .load .startUpLoad }).plan.slot
        = .ready ⟨.busy, 0x14#8, []⟩ := by decide +kernel

/-- A hub with a Plan request in service on a table. -/
def servingOn (slots : SlotMap) (v : Service) : Hub :=
  { quiet with table.slots := slots, table.generation := 65535, time.secs := 44, plan.slot := .inService v }

theorem test_map_put_write_is_met :
    let h := servingOn [(0, planned .rug 8 8)] (.put (planned .nogo 4 4))
    h.grants .plan = true ∧ h.table.slots.free = some 1
    ∧ (after .mapPutWrite h).table.slots.entry 1 = some { planned .nogo 4 4 with stamp := 44 }
    ∧ (after .mapPutWrite h).table.generation = 0
    ∧ (after .mapPutWrite h).plan.slot = .ready ⟨.done, 0x10#8, [0x00#8, 0x01#8, 0x00#8, 0x00#8]⟩
    ∧ (after .mapPutWrite (servingOn (fullTable (planned .rug 8 8)) (.put (planned .nogo 4 4)))).plan.slot
        = .ready ⟨.tableFull, 0x10#8, []⟩ := by decide +kernel

theorem test_map_delete_write_is_met :
    let slots : SlotMap := [(1023, sensed .cliff 4 4 15)]
    (after .mapDeleteWrite (servingOn slots (.delete 1023 (some 65535)))).table.slots = []
    ∧ (after .mapDeleteWrite (servingOn slots (.delete 1023 none))).plan.slot
        = .ready ⟨.done, 0x11#8, [0x00#8, 0x00#8]⟩
    ∧ (after .mapDeleteWrite (servingOn slots (.delete 1023 (some 0)))).plan.slot
        = .ready ⟨.changed, 0x11#8, [0xFF#8, 0xFF#8]⟩
    ∧ (after .mapDeleteWrite (servingOn slots (.delete 0 none))).plan.slot = .ready ⟨.notFound, 0x11#8, []⟩ := by
  decide +kernel

theorem test_map_confirm_write_is_met :
    let slots : SlotMap := [(7, sensed .cliff 4 4 15)]
    (after .mapConfirmWrite (servingOn slots (.confirm 0 ⟨4, 4⟩ true))).table.slots
        = [(7, { sensed .cliff 4 4 15 with pinned := true })]
    ∧ (after .mapConfirmWrite (servingOn slots (.confirm 0 ⟨4, 4⟩ true))).table.generation = 0
    ∧ (after .mapConfirmWrite (servingOn slots (.confirm 0 ⟨4, 4⟩ false))).table.generation = 65535
    ∧ (after .mapConfirmWrite (servingOn slots (.confirm 1 ⟨4, 4⟩ true))).plan.slot
        = .ready ⟨.notFound, 0x12#8, []⟩ := by decide +kernel

theorem test_map_query_read_is_met :
    let e := planned .nogo 4 4
    let eight := List.replicate 8 (0, e)
    let read (slots : SlotMap) (floor : Floor) (found : List (Nat × Entry)) : Hub :=
      after .mapQueryRead (servingOn slots (.query floor 4 4 1 1 7 found))
    (read [(7, e), (9, e)] 0 []).plan.slot = .inService (.query 0 4 4 1 1 9 [(7, e)])
    ∧ (read [(7, e), (9, e)] 1 []).plan.slot = .inService (.query 1 4 4 1 1 9 [])
    ∧ bodyLengths (read [(7, e), (9, e)] 0 eight) = (7 + 18 * 8, 0)
    ∧ bodyLengths (read [(7, e)] 0 (eight.take 7)) = (7 + 18 * 8, 0)
    ∧ bodyLengths (read [(7, e)] 1 eight) = (7 + 18 * 8, 0) := by decide +kernel

theorem test_map_clear_claims_are_met :
    let e := planned .nogo 4 4
    let claim (slots : SlotMap) (floor : Floor) (removing : Bool) : Hub :=
      after .mapClearClaim (servingOn slots (.clear floor 7 removing 2 (some 9)))
    (claim [(7, e), (9, e)] 1 false).plan.slot = .inService (.clear 1 9 false 2 (some 9))
    ∧ (claim [(7, e), (9, e)] 0 false).plan.slot = .inService (.clear 0 7 true 2 (some 9))
    ∧ (claim [(7, e), (9, e)] 0 true).plan.slot = .inService (.clear 0 9 false 3 (some 0))
    ∧ (claim [(7, e), (9, e)] 0 true).table.slots = [(9, e)]
    ∧ (claim [(7, e)] 0 true).plan.slot = .ready ⟨.done, 0x14#8, [0x00#8, 0x03#8, 0x00#8, 0x00#8]⟩
    ∧ (claim [(7, e)] 1 false).plan.slot = .ready ⟨.done, 0x14#8, [0x00#8, 0x02#8, 0x00#8, 0x09#8]⟩
    ∧ (after .mapClearClaim (servingOn [(7, e)] (.clear 1 7 false 0 none))).plan.slot
        = .ready ⟨.done, 0x14#8, [0x00#8, 0x00#8, 0xFF#8, 0xFF#8]⟩ := by decide +kernel

/-! ## Witnesses: pose, floor and dock -/

/-- The body of a SET_POSE. -/
def poseBody (x y : Int) (heading floor : Nat) : List Byte := be16s x ++ be16s y ++ be16 heading ++ [byte floor]

theorem test_set_pose_is_met :
    let answer (h : Hub) (x : Int) (floor : Nat) := (after (.setPose (poseBody x 0 0 floor)) h).plan.slot
    answer quiet 25600 0 = .ready ⟨.badField, 0x19#8, []⟩ ∧ answer quiet 0 4 = .ready ⟨.badField, 0x19#8, []⟩
    ∧ answer { quiet with store.phase := .load .startUpLoad } 0 0 = .ready ⟨.busy, 0x19#8, []⟩
    ∧ answer rolling 0 0 = .ready ⟨.inMotion, 0x19#8, []⟩
    ∧ answer { quiet with odo.pose := .lifted } 0 0 = .ready ⟨.lifted, 0x19#8, []⟩ := by decide +kernel

theorem test_set_pose_places_the_robot :
    let h := after (.setPose (poseBody (-25599) 25599 65535 3)) { quiet with odo.pose := .lost .range, odo.rangeSet := true }
    h.pose = ⟨-25599000, 25599000, 65535⟩ ∧ h.odo.pose = .tracking ∧ h.odo.rangeSet = false ∧ h.odo.floor = 3
    ∧ h.plan.slot = .ready ⟨.done, 0x19#8, poseBody (-25599) 25599 65535 3⟩ := by decide +kernel

theorem test_set_floor_is_met :
    let h := { quiet with route.waypoints := [doorway], trail.crumbs := loop, odo.left.noted := some ⟨1, 1⟩ }
    quiet.placeRefusal = none
    ∧ (after (.setFloor [0x03#8]) h).odo.floor = 3 ∧ (after (.setFloor [0x03#8]) h).route.waypoints = []
    ∧ (after (.setFloor [0x03#8]) h).trail.crumbs = [⟨0, 0, 0, 3, 0⟩]
    ∧ (after (.setFloor [0x03#8]) h).odo.left.noted = none
    ∧ (after (.setFloor [0x00#8]) h).route.waypoints = [doorway]
    ∧ (after (.setFloor [0x04#8]) h).plan.slot = .ready ⟨.badField, 0x18#8, []⟩
    ∧ (after (.setFloor [0x03#8]) { h with store.phase := .load .startUpLoad }).plan.slot
        = .ready ⟨.busy, 0x18#8, []⟩
    ∧ (after (.setFloor [0x03#8]) rolling).plan.slot = .ready ⟨.inMotion, 0x18#8, []⟩
    ∧ (after (.setFloor [0x03#8]) { h with odo.pose := .lifted }).plan.slot = .ready ⟨.lifted, 0x18#8, []⟩ := by
  decide +kernel

theorem test_set_dock_is_met :
    let body (valid : Nat) (x : Int) (floor : Nat) : List Byte := byte valid :: poseBody x 0 0 floor
    (after (.setDock (body 1 25600 0)) quiet).plan.slot = .ready ⟨.badField, 0x1A#8, []⟩
    ∧ (after (.setDock (body 1 0 4)) quiet).plan.slot = .ready ⟨.badField, 0x1A#8, []⟩
    ∧ (after (.setDock (body 1 (-25599) 3)) quiet).dock.record = ⟨true, -25599, 0, 0, 3⟩
    ∧ (after (.setDock (body 2 0 9)) { quiet with dock.record := dockAt 5 6, dock.state := .approach }).dock.record
        = { dockAt 5 6 with valid := false }
    ∧ (after (.setDock (body 2 0 9)) { quiet with dock.record := dockAt 5 6, dock.state := .approach }).dock.state
        = .docking := by decide +kernel

theorem test_docked_is_met :
    let h := { quiet with dock.record := dockAt 900 50, dock.state := .docking, trail.crumbs := loop }
    (after (.docked []) h).pose = ⟨900000, 50000, 0⟩ ∧ (after (.docked []) h).trail.crumbs = []
    ∧ (after (.docked []) { h with odo.pose := .lifted }).pose = quiet.pose
    ∧ (after (.docked []) { h with dock.record.valid := false }).dock.record = dockAt 0 0
    ∧ (after (.docked []) h).power.slot = some ⟨.done, 0x4A#8, 0x04#8 :: (dockAt 900 50).encode⟩ := by decide +kernel

theorem test_undocked_is_met :
    let h := { quiet with dock.state := .docked, trail.pushCounter := 65535 }
    (after (.undocked []) h).dock.state = .idle ∧ (after (.undocked []) h).trail = ⟨[crumbAt 0 0 65535], 0⟩
    ∧ (after (.undocked []) { h with odo.pose := .lifted }).trail.crumbs = [] := by decide +kernel

/-! ## Witnesses: the route, the trail and the return -/

theorem test_route_append_is_met :
    let answer (h : Hub) (w : Waypoint) := (after (.routeAppend w.encode) h).plan.slot
    answer quiet { doorway with radius := 19 } = .ready ⟨.badField, 0x20#8, []⟩
    ∧ answer { quiet with dock.state := .failed } doorway = .ready ⟨.returning, 0x20#8, []⟩
    ∧ answer quiet { doorway with floor := 1 } = .ready ⟨.wrongFloor, 0x20#8, []⟩
    ∧ answer { quiet with route.waypoints := List.replicate 16 doorway } doorway = .ready ⟨.queueFull, 0x20#8, []⟩
    ∧ answer { quiet with route.waypoints := List.replicate 15 doorway, permit.holds.route := true } doorway
        = .ready ⟨.done, 0x20#8, [0x10#8, 0x00#8]⟩ := by decide +kernel

theorem test_route_reads_are_met :
    let h := { quiet with route.waypoints := List.replicate 16 doorway }
    (after (.routeRead [0x10#8]) h).plan.slot = .ready ⟨.badField, 0x22#8, []⟩
    ∧ bodyLengths (after (.routeRead [0x00#8]) h) = (5 + 12 * 4, 0)
    ∧ bodyLengths (after (.routeRead [0x0F#8]) h) = (5 + 12, 0)
    ∧ (after (.routeFlush []) h).plan.slot = .ready ⟨.done, 0x21#8, [0x10#8]⟩ := by decide +kernel

theorem test_trail_requests_are_met :
    let h := { quiet with trail := ⟨List.replicate 128 (crumbAt 0 0 9), 65535⟩ }
    (after (.trailRead [0x00#8]) h).plan.slot = .ready ⟨.badField, 0x30#8, []⟩
    ∧ (after (.trailRead [0x81#8]) h).plan.slot = .ready ⟨.badField, 0x30#8, []⟩
    ∧ bodyLengths (after (.trailRead [0x01#8]) h) = (5 + 10 * 4, 0)
    ∧ bodyLengths (after (.trailRead [0x80#8]) h) = (5 + 10, 0)
    ∧ (after (.trailClear []) { h with dock.state := .trail }).plan.slot = .ready ⟨.returning, 0x31#8, []⟩
    ∧ (after (.trailClear []) h).trail = ⟨[crumbAt 0 0 65535], 0⟩
    ∧ (after (.trailClear []) { h with dock.state := .docked }).trail = ⟨[], 65535⟩ := by decide +kernel

theorem test_full_trail_is_thinned :
    let h := { quiet with trail := ⟨List.replicate 128 (crumbAt 0 0 9), 128⟩ }
    h.trail.crumbs.length = 128 ∧ h.pushCrumb.trail.crumbs.length = 97 ∧ h.pushCrumb.trail.pushCounter = 129 := by
  decide +kernel

theorem test_return_refusals_are_met :
    let answer (h : Hub) := (after (.returnStart .plan []) h).plan.slot
    answer { quiet with dock.state := .docked } = .ready ⟨.atDock, 0x32#8, []⟩
    ∧ answer { quiet with dock.state := .docking } = .ready ⟨.done, 0x32#8, [0x03#8]⟩
    ∧ answer { quiet with odo.pose := .lost .lift } = .ready ⟨.noPose, 0x32#8, []⟩
    ∧ answer { quiet with dock.record := { dockAt 0 0 with floor := 2 } } = .ready ⟨.wrongFloor, 0x32#8, []⟩
    ∧ answer quiet = .ready ⟨.noDock, 0x32#8, []⟩ := by decide +kernel

theorem test_returns_are_met :
    let start (h : Hub) := after (.returnStart .power []) { h with route.waypoints := [doorway], dock.fallbacks := 3 }
    (start { quiet with trail.crumbs := loop, dock.state := .failed }).dock.state = .trail
    ∧ (start { quiet with trail.crumbs := loop }).route.waypoints = []
    ∧ (start { quiet with dock.record := dockAt 900 50 }).dock = ⟨dockAt 900 50, .approach, 0, none⟩
    ∧ (start { quiet with dock.record := dockAt (-400) 0 }).dock.state = .docking
    ∧ (after (.returnCancel .plan []) (seeking 0 2 true)).dock.state = .idle
    ∧ (after (.returnCancel .power []) quiet).power.slot = some ⟨.done, 0x33#8, [0x00#8]⟩ := by decide +kernel

theorem test_steer_hints_are_met :
    let eye (f : Option FieldCode) : Eye :=
      { Eye.cold with sighting := f.map fun c => ⟨0, c, 4900⟩, fresh := some ⟨4900, 500⟩ }
    let hint (l r : Option FieldCode) : SteerHint :=
      Hub.beaconHint { quiet with beacon.left := eye l, beacon.right := eye r }
    hint (some .centre) (some .centre) = .ahead ∧ hint (some .centre) (some .rightFan) = .turnLeft
    ∧ hint none (some .centre) = .turnRight ∧ hint (some .rightFan) (some .leftFan) = .ahead
    ∧ hint (some .leftFan) (some .halo) = .slideRight ∧ hint none (some .rightFan) = .slideLeft
    ∧ hint (some .halo) none = .search
    ∧ Hub.guidance { seeking 0 0 true with beacon.left := eye (some .halo) } = ⟨.beacon, 0, 0, .search, true⟩ := by
  decide +kernel

/-! ## Witnesses: beacon slots, load mode and the Map Store -/

theorem test_beacon_slots_are_met :
    let body (k : Nat) : List Byte := [byte k, 0x12#8, 0x34#8, 0xF0#8, 0x0F#8, 0x03#8]
    let m : MatchSlot := ⟨0x1234#16, 0xF00F#16, true⟩
    (after (.beaconSlot (body 0)) quiet).beacon.slot0 = m ∧ (after (.beaconSlot (body 1)) quiet).beacon.slot1 = m
    ∧ (after (.beaconSlot (body 2)) quiet).beacon.slot2 = m
    ∧ (after (.beaconSlot (body 3)) quiet).plan.slot = .ready ⟨.badField, 0x38#8, []⟩ := by decide +kernel

theorem test_load_mode_is_met :
    (after (.loadMode [0x01#8]) quiet).scanner.pendingAveraged = true
    ∧ (after (.loadMode [0x01#8]) quiet).power.slot = some ⟨.done, 0x48#8, [0x01#8, 0x01#8]⟩
    ∧ (after (.loadMode [0x00#8]) sagged).power.slot = some ⟨.done, 0x48#8, [0x04#8, 0x01#8]⟩
    ∧ (after (.loadMode [0x02#8]) quiet).power.slot = some ⟨.badField, 0x48#8, []⟩ := by decide +kernel

theorem test_store_requests_are_met :
    let saving := { quiet with store.phase := .save (.begin 1 0) }
    (after (.mapSave [0xF0#8, 0x00#8]) quiet).plan.slot = .ready ⟨.badField, 0x40#8, []⟩
    ∧ (after (.mapSave [0x08#8, 0x04#8]) quiet).plan.slot = .ready ⟨.badField, 0x40#8, []⟩
    ∧ (after (.mapSave [0x08#8, 0x03#8]) quiet).store.phase = .save (.begin 8 3)
    ∧ (after (.mapSave [0x08#8, 0x03#8]) saving).plan.slot = .ready ⟨.busy, 0x40#8, []⟩
    ∧ (after (.mapLoad [0x00#8]) quiet).plan.slot = .ready ⟨.badField, 0x41#8, []⟩
    ∧ (after (.mapLoad [0x01#8]) saving).plan.slot = .ready ⟨.busy, 0x41#8, []⟩
    ∧ (after (.mapLoad [0x01#8]) rolling).plan.slot = .ready ⟨.inMotion, 0x41#8, []⟩
    ∧ (after (.mapLoad [0x01#8]) quiet).loading = true
    ∧ refusalOf (after (.mapLoad [0x01#8]) { quiet with permit.check := some (checkAt none) }) = some .loading
    ∧ (after (.mapLoad [0x01#8]) { quiet with permit.check := some (checkAt none) }).att.refusals.getD 4 0 = 1
    ∧ (after (.storeStatus [])
          { saving with
            store.lastOp := some .load, store.lastResult := some .tooMany, store.entryCount := 258, store.dropped := 3
            store.skipped := 4, table.generation := 4660
            store.phase := .save { SaveOp.begin 1 0 with step := .reading 9, position := 515 } }).plan.slot
        = .ready ⟨.done, 0x42#8, [0x02#8, 0x02#8, 0x03#8, 0x01#8, 0x05#8, 0x01#8, 0x02#8, 0x00#8, 0x03#8, 0x00#8,
            0x04#8, 0x12#8, 0x34#8]⟩ := by decide +kernel

/-- A hub with a save in progress. -/
def saving (op : SaveOp) (slots : SlotMap) : Hub := { quiet with table.slots := slots, store.phase := .save op }

theorem test_flash_status_reads_are_met :
    let at_ (step : SaveStep) (first : Option Nat) : Hub :=
      saving { SaveOp.begin 1 0 with step := step, waitFrom := first } []
    let startUp (first : Option Nat) : Hub :=
      { quiet with
        permit.startUpEnded := false, odo.floor := 2, store.phase := .load { LoadOp.startUpLoad with waitFrom := first } }
    (after (.flashStatusRead 0x01#8) (at_ .opening none)).store.phase = (at_ .opening (some 5000)).store.phase
    ∧ (after (.flashStatusRead 0x01#8) (at_ .opening (some 4500))).store.phase = (at_ .opening (some 4500)).store.phase
    ∧ (after (.flashStatusRead 0x01#8) (at_ .opening (some 4499))).store.lastResult = some .flashTimeout
    ∧ (after (.flashStatusRead 0x01#8) (startUp (some 4500))).loading = true
    ∧ (after (.flashStatusRead 0x01#8) (startUp (some 4499))).permit.startUpEnded = true
    ∧ (after (.flashStatusRead 0x01#8) (startUp (some 4499))).odo.floor = 0
    ∧ (after (.flashStatusRead 0x00#8) (at_ .opening none)).store.phase = (at_ (.erased 0) none).store.phase
    ∧ (after (.flashStatusRead 0x02#8) (at_ (.erased 3) none)).store.underWay = some (.sectorErase 16384)
    ∧ (after (.flashStatusRead 0x02#8) (at_ (.erased 3) none)).store.linkOut
        = [[0x06#8], [0x20#8, 0x00#8, 0x40#8, 0x00#8], [0x05#8]]
    ∧ (after (.flashStatusRead 0x00#8) (startUp none)).store.linkOut = [[0x03#8, 0x00#8, 0x00#8, 0x00#8]]
    ∧ after (.flashStatusRead 0x00#8) quiet = quiet
    ∧ after (.flashStatusRead 0x01#8) (at_ (.reading 3) none) = at_ (.reading 3) none := by decide +kernel

theorem test_save_ends_are_met :
    let e := planned .nogo 4 4
    let at_ (step : SaveStep) (c : Option FlashCommand) (slots : SlotMap) : Hub :=
      { saving { SaveOp.begin 1 0 with step := step, buffer := [e], position := 3 } slots with store.underWay := c }
    let full : SaveStep := .programmed (some 7)
    let page : Option FlashCommand := some (.pageProgram 4096 e.encode)
    let marker : Option FlashCommand := some (.pageProgram 0 imageMarker)
    let ready (h : Hub) : Hub := after (.flashStatusRead 0x00#8) h
    let stepOf (h : Hub) : Option (SaveStep × Nat × Nat) := match h.store.phase with
      | .save op => some (op.step, op.position, op.written)
      | _ => none
    stepOf (ready (at_ full page [(7, e), (9, e)])) = some (.reading 9, 8, 1)
    ∧ (ready (at_ full page [(7, e), (9, e)])).flash.bytes 4096 16 = e.encode
    ∧ stepOf (ready (at_ full page [(7, e)])) = some (.headerSent, 8, 1)
    ∧ stepOf (ready (at_ (.programmed none) page [(7, e)])) = some (.headerSent, 3, 1)
    ∧ stepOf (ready { at_ (.erased 4) none [(7, e)] with flash := [] }) = some (.reading 7, 0, 0)
    ∧ (ready (saving { SaveOp.begin 1 0 with step := .erased 4 } [])).store.linkOut.map List.length = [1, 64, 1]
    ∧ (ready (at_ .headerSent none [])).store.underWay = marker
    ∧ (ready (at_ .headerSent none [])).flash.bytes 0 4 = [0xFF#8, 0xFF#8, 0xFF#8, 0xFF#8]
    ∧ (ready (at_ .markerSent marker [])).flash.bytes 0 4 = imageMarker
    ∧ (ready (at_ .markerSent marker [])).store.lastResult = some .done := by decide +kernel

/-- A save whose marker is being programmed, its busy wait begun at a time. -/
def marking (first : Nat) : Hub :=
  { saving { SaveOp.begin 1 0 with step := .markerSent, waitFrom := some first } [] with
    store.underWay := some (.pageProgram 0 imageMarker) }

theorem test_cut_markers_are_met :
    (marking 4499).flash.wf = true ∧ (marking 4499).store.underWay = some (.pageProgram 0 imageMarker)
    ∧ (after (.flashStatusRead 0x01#8) (marking 4499)).store.lastResult = some .flashTimeout
    ∧ (after (.flashStatusRead 0x01#8) (marking 4499)).freeDraws = 1
    ∧ (after (.flashStatusRead 0x01#8) (marking 4500)).store.underWay = (marking 4500).store.underWay
    ∧ (after (.warmRestart []) (marking 4499)).store.lastResult = some .aborted
    ∧ (after (.warmRestart []) (marking 4499)).freeDraws = 1 := by decide +kernel

theorem test_save_reads_are_met :
    let e := planned .nogo 4 4
    let op (held : Nat) : SaveOp :=
      { SaveOp.begin 1 0 with step := .reading 7, buffer := List.replicate held e, written := 16, position := 3 }
    let page (n : Nat) : FlashCommand := .pageProgram 4352 ((List.replicate n e).flatMap (·.encode))
    (saving (op 0) [(7, e), (9, e)]).grants .store = true
    ∧ (after .saveSlotRead (saving (op 0) [(7, e), (9, e)])).store.phase
        = .save { op 1 with step := .reading 9, position := 8 }
    ∧ (after .saveSlotRead (saving (op 15) [(7, e), (9, e)])).store.phase
        = .save { op 16 with step := .programmed (some 7) }
    ∧ (after .saveSlotRead (saving (op 15) [(7, e), (9, e)])).store.underWay = some (page 16)
    ∧ (after .saveSlotRead (saving (op 15) [(7, e), (9, e)])).flash = quiet.flash
    ∧ (after .saveSlotRead (saving (op 0) [(7, { e with floor := 1 }), (9, e)])).store.phase
        = .save { op 0 with step := .reading 9, position := 8 }
    ∧ (after .saveSlotRead (saving (op 2) [(7, e)])).store.underWay = some (page 3)
    ∧ (after .saveSlotRead (saving (op 2) [(7, e)])).store.phase
        = .save { op 3 with step := .programmed none, position := 8 }
    ∧ (after .saveSlotRead (saving (op 0) [(7, { e with floor := 1 })])).store.phase
        = .save { op 0 with step := .headerSent, position := 8 } := by decide +kernel

/-- A hub whose load reads a header. -/
def heading (header : List Byte) : Hub × FlashAnswer :=
  ({ quiet with store.phase := .load { LoadOp.startUpLoad with step := .header } }, .line header)

/-- A header of an image of floor 0. -/
def header (count floor : Nat) : List Byte :=
  imageMarker ++ (headerTail 1 0 (dockAt 1 2) count 0xFFFF#16).set 2 (byte floor)

theorem test_headers_are_judged :
    let load (bytes : List Byte) : Hub := after (.flashReadDone (heading bytes).2) (heading bytes).1
    (load [0x5A#8]).store.lastResult = some .noImage ∧ (load [0x5A#8]).permit.startUpEnded = true
    ∧ (load (header 1 4)).store.lastResult = some .badCheck ∧ (load (header 1025 3)).store.lastResult = some .badCheck
    ∧ (load (header 1024 3)).store.linkOut = [[0x03#8, 0x00#8, 0x10#8, 0x00#8]]
    ∧ (load (header 0 3)).store.lastResult = some .done ∧ (load (header 0 3)).odo.floor = 3
    ∧ (load (header 0 3)).dock.record = dockAt 1 2 := by decide +kernel

/-- A hub in the second pass of a load of floor 0. -/
def loading (step : LoadStep) (slots : SlotMap) : Hub :=
  { quiet with
    table.slots := slots
    table.generation := 65535
    store.phase := .load
      { LoadOp.startUpLoad with header := ImageHeader.decode (header 3 0), step := step, startUp := false } }

theorem test_image_entries_are_judged :
    let e := planned .nogo 4 4
    let at_ (step : LoadStep) (crc : BitVec 16) : Hub :=
      { loading step [(7, e)] with
        store.phase := .load
          { LoadOp.startUpLoad with header := ImageHeader.decode (header 3 0), step := step, crc := crc, startUp := false } }
    let read (h : Hub) (e : Entry) : Hub := after (.flashReadDone (.line e.encode)) h
    let stepOf (h : Hub) : Option LoadStep := match h.store.phase with
      | .load op => some op.step
      | _ => none
    let last (crc : BitVec 16) : Hub :=
      { at_ (.judge 2) 0 with
        store.phase := .load
          { LoadOp.startUpLoad with
            header := (ImageHeader.decode (header 3 0)).map fun k => { k with crc := crc16 crc e.encode }
            step := .judge 2, crc := crc } }
    stepOf (read (at_ (.judge 1) 0) e) = some (.judge 2)
    ∧ (read (at_ (.judge 1) 0) e).store.linkOut = [[0x03#8, 0x00#8, 0x10#8, 0x20#8]]
    ∧ stepOf (read (last 0x1234#16) e) = some (.removeRead 7)
    ∧ (read (last 0x1234#16) { e with floor := 1 }).store.lastResult = some .badCheck
    ∧ (read (at_ (.judge 2) 0) e).store.lastResult = some .badCheck
    ∧ stepOf (read (at_ (.fetch 1) 0) e) = some (.insert 1 e)
    ∧ stepOf (read (at_ (.fetch 1) 0) { e with floor := 1 }) = some (.fetch 2)
    ∧ (read (at_ (.fetch 2) 0) { e with floor := 1 }).store.lastResult = some .done := by decide +kernel

theorem test_load_ends_are_met :
    let e := sensed .cliff 4 4 9
    let last (slots : SlotMap) : Hub := after .loadInsertWrite (loading (.insert 2 e) slots)
    let full := fullTable (planned .rug 8 8)
    (last []).store.lastResult = some .done ∧ (last []).store.entryCount = 1 ∧ (last []).dock.record = dockAt 1 2
    ∧ (last [(5, e)]).store.skipped = 1 ∧ (last full).store.dropped = 1
    ∧ (last full).store.lastResult = some .tooMany := by decide +kernel

theorem test_load_removal_is_met :
    let e := planned .nogo 4 4
    (loading (.removeRead 7) [(7, e), (9, e)]).grants .store = true
    ∧ (after .loadRemovalClaim (loading (.removeRead 7) [(7, e), (9, e)])).store.phase
        = (loading (.removeWrite 7) []).store.phase
    ∧ (after .loadRemovalClaim (loading (.removeWrite 7) [(7, e), (9, e)])).table.slots = [(9, e)]
    ∧ (after .loadRemovalClaim (loading (.removeWrite 7) [(7, e), (9, e)])).table.generation = 0
    ∧ (after .loadRemovalClaim (loading (.removeWrite 7) [(7, e), (9, e)])).store.phase
        = (loading (.removeRead 9) []).store.phase := by decide +kernel

theorem test_load_insertion_is_met :
    let e := sensed .cliff 4 4 9
    let counts (h : Hub) : Option (Nat × Nat × Nat) := match h.store.phase with
      | .load op => some (op.inserted, op.skipped, op.dropped)
      | _ => none
    (after .loadInsertWrite (loading (.insert 1 e) [])).table.slots = [(0, e)]
    ∧ (after .loadInsertWrite (loading (.insert 1 e) [])).table.generation = 0
    ∧ counts (after .loadInsertWrite (loading (.insert 1 e) [])) = some (1, 0, 0)
    ∧ counts (after .loadInsertWrite (loading (.insert 1 e) [(5, e)])) = some (0, 1, 0)
    ∧ counts (after .loadInsertWrite (loading (.insert 1 e) (fullTable (planned .rug 8 8)))) = some (0, 0, 1) := by
  decide +kernel

/-! ## Witnesses: the warm restart and sensing -/

theorem test_warm_restart_is_met :
    let h := after (.warmRestart []) { rolling with store.phase := .save (.begin 1 0), route.waypoints := [doorway] }
    h.permit.state = .inhibited ∧ h.permit.holds = ⟨true, false, false, false⟩ ∧ h.route.waypoints = []
    ∧ h.route.leaseTimer = some ⟨5000, 1000⟩ ∧ h.store.lastResult = some .aborted ∧ h.att.planFlags = 1
    ∧ (after (.warmRestart []) { quiet with limits.leasePeriod := 0 }).route.lease = .off
    ∧ (after (.warmRestart []) serving).plan.slot = .ready ⟨.done, 0x7F#8, []⟩ := by decide +kernel

/-- Samples of four dark or four bright channels. -/
def reading (on rail : BitVec 10) : ScanReading :=
  let c : ChannelSamples := ⟨⟨0, on⟩, ⟨0, on⟩, ⟨0, on⟩, ⟨0, on⟩⟩
  ⟨⟨c, c, c, c⟩, rail⟩

/-- A hub whose next scan is due and is the block's number `k + 1`, with some scans of it dark and sagging. -/
def scanning (h : Hub) (k dark sag : Nat) : Hub :=
  let n : ChannelCount := ⟨dark, dark, 0⟩
  { h with
    scanner.timer := some ⟨4998, 2⟩
    scanner.block := { Block.cold with k := k, nSag := sag, counts := ⟨n, n, n, n⟩ } }

theorem test_scans_are_met :
    let scan (h : Hub) (on rail : BitVec 10) : Hub := after (.scan (reading on rail)) h
    let busy (dark : Nat) : Hub :=
      let h := scanning (backlogged [1]) 7 dark 0
      { h with scanner.block.posting := true, scanner.block.offsets := Sensors.default.offsets }
    let kinds (h : Hub) : List (EvidenceKind × Nat) := (h.queue.records.drop 1).map fun r => (r.kind, r.items.length)
    (scanning quiet 6 0 0).scanner.timer.due 5000 = true
    ∧ (scan (scanning quiet 6 0 0) 400 700).scanner.block.k = 7
    ∧ (scan (scanning quiet 7 2 2) 400 599).load.sagTimer = some ⟨5000, 2000⟩
    ∧ (scan (scanning quiet 7 2 2) 400 600).load.sag = false
    ∧ (scan (scanning rolling 7 2 0) 89 700).permit.lastStop = some .cliffSeen
    ∧ (scan (scanning rolling 7 2 0) 90 700).permit.state = .moving
    ∧ (scan (scanning { rolling with permit.state := .probing } 7 2 0) 89 700).permit.state = .stopping
    ∧ (scan (scanning quiet 7 2 0) 89 700).queue = quiet.queue
    ∧ kinds (scan (busy 3) 400 700) = [(.noReturn, 4)] ∧ kinds (scan (busy 0) 400 700) = [(.floorClear, 4)]
    ∧ kinds (scan { busy 0 with scanner.block.counts.fl := ⟨3, 0, 7⟩, scanner.block.counts.fr := ⟨3, 3, 7⟩ } 400 700)
        = [(.noReturn, 1), (.lowReflect, 1), (.floorClear, 2)]
    ∧ (scan (busy 0) 400 700).scanner.lastClear.fl = some (0, ⟨3, 1⟩)
    ∧ kinds (scan { busy 0 with scanner.lastClear.fl := some (0, ⟨3, 1⟩) } 400 700) = [(.floorClear, 3)] := by
  decide +kernel

/-- A hub that has sampled some lines closed once and is to sample again. -/
def sampling (h : Hub) (last asserted : PerLine Bool) : Hub :=
  { h with lines.timer := some ⟨4999, 1⟩, lines.lastSample := last, lines.asserted := asserted }

theorem test_line_samples_are_met :
    let open_ : PerLine Bool := ⟨true, true, true, true⟩
    let none_ : PerLine Bool := ⟨false, false, false, false⟩
    let bump : PerLine Bool := ⟨true, false, false, false⟩
    let drop : PerLine Bool := ⟨false, false, false, true⟩
    let noted := { rolling with odo.left.noted := some ⟨1, 1⟩ }
    (sampling rolling none_ none_).lines.timer.due 5000 = true
    ∧ (after (.lineSample { open_ with wdpR := false }) (sampling rolling none_ none_)).lines.lastSample = drop
    ∧ (after (.lineSample { open_ with wdpR := false }) (sampling rolling none_ none_)).permit.state = .moving
    ∧ (after (.lineSample { open_ with wdpR := false }) (sampling noted drop none_)).lines.asserted = drop
    ∧ (after (.lineSample { open_ with wdpR := false }) (sampling noted drop none_)).odo.left.noted = none
    ∧ (after (.lineSample { open_ with bmpL := false }) (sampling rolling bump none_)).permit.lastStop = some .bump
    ∧ rolling.forward = true
    ∧ (after (.lineSample open_) (sampling rolling none_ bump)).lines.asserted = none_ := by decide +kernel

theorem test_line_changes_are_met :
    let open_ : PerLine Bool := ⟨true, true, true, true⟩
    let none_ : PerLine Bool := ⟨false, false, false, false⟩
    let bump : PerLine Bool := ⟨true, false, false, false⟩
    let drop : PerLine Bool := ⟨false, false, false, true⟩
    let busy := { rolling with updater.work := some ⟨[.climb ⟨0, 0⟩], .write⟩ }
    let begun (h : Hub) (dark : Nat) : Hub :=
      let n : ChannelCount := ⟨dark, dark, 0⟩
      { h with scanner.block := { Block.cold with k := 3, counts := ⟨n, n, n, n⟩ } }
    let bumped (h : Hub) : Hub := after (.lineSample { open_ with bmpL := false }) (sampling h bump none_)
    let dropped (h : Hub) : Hub := after (.lineSample { open_ with wdpR := false }) (sampling h drop none_)
    let released (h : Hub) (on : PerLine Bool) : Hub := after (.lineSample open_) (sampling h none_ on)
    let lifted (h : Hub) : Hub := { h with odo.pose := .lifted }
    (bumped busy).queue.records.map (·.items) = [[.bump .left ⟨2, 2⟩]]
    ∧ (dropped busy).queue.records.map (·.items) = [[.wheelDrop .right ⟨0, -3⟩]]
    ∧ (dropped busy).permit.lastStop = some .wheelDrop
    ∧ (dropped (begun busy 1)).permit.lastStop = some .wheelDrop
    ∧ (dropped (begun busy 2)).permit.lastStop = some .cliffSeen ∧ (dropped (begun busy 2)).scanner.block.k = 0
    ∧ (after (.lineSample { open_ with wdpL := false, wdpR := false })
        (sampling quiet ⟨false, false, true, true⟩ none_)).lines.lift = some ⟨5000, 1000⟩
    ∧ (released { quiet with lines.lift := some ⟨4990, 1000⟩ } drop).lines.lift = none
    ∧ (released (lifted quiet) drop).lines.setDown = some ⟨5000, 500⟩
    ∧ (released (lifted quiet) bump).lines.setDown = none
    ∧ (dropped { lifted quiet with lines.setDown := some ⟨4990, 500⟩ }).lines.setDown = none := by decide +kernel

/-! ## Witnesses: claims in gaps, notifications, and what stays -/

theorem test_cold_start_cuts_a_command :
    let erasing := { quiet with store.underWay := some (.sectorErase 8192) }
    (FlashCommand.sectorErase 8192).range = (8192, 4096) ∧ (after (.coldStart 2849 true) erasing).freeDraws = 1
    ∧ (after (.coldStart 2849 true) (marking 5000)).freeDraws = 1 := by decide +kernel

/-- A check and a recheck that have read the last PLANNED entry, or a SENSED one, of the tiles still to examine. -/
def midSweep (claim : SweepClaim) : Hub :=
  let tile (x : Int) (dist : Nat) : FootTile := ⟨⟨x, 0⟩, dist * distUnit, false, true, false⟩
  let sw : Sweep := { sweepAt (some claim) with toExamine := [tile 3 40000, tile 4 60000] }
  { contended true true false false false false with
    table.slots := [(3, planned .threshold 3 0), (5, sensed .threshold 3 0 6), (7, sensed .threshold 4 0 6)]
    permit.check := some { checkAt none with sweep := sw }
    permit.recheck := some sw }

theorem test_later_reads_are_met :
    let check (h : Hub) : Option (Nat × Option SweepClaim) :=
      (after .checkSweepClaim { h with permit.recheckTurn := .check }).permit.check.map fun c =>
        (c.sweep.seen.length, c.sweep.claim)
    let recheck (h : Hub) : Option (Nat × Option SweepClaim) :=
      (after .recheckClaim h).permit.recheck.map fun sw => (sw.seen.length, sw.claim)
    check (midSweep (.planned 3)) = some (0, some (.sensed 5))
    ∧ recheck (midSweep (.planned 3)) = some (0, some (.sensed 5))
    ∧ check (midSweep (.sensed 5)) = some (1, some (.sensed 7))
    ∧ recheck (midSweep (.sensed 5)) = some (1, some (.sensed 7)) := by decide +kernel

/-- A check whose last read is due, stale. -/
def staleCheck (planned : SlotMap) : Hub :=
  let h := checking 0 .cliff straight
  { h with
    table.slots := planned ++ (if planned.isEmpty then [] else h.table.slots)
    permit.check := h.permit.check.map fun c => { c with stale := true } }

theorem test_stale_checks_restart :
    let restarted (h : Hub) : Option (Bool × Bool × Option SweepClaim) :=
      h.permit.check.map fun c => (c.restarted, c.stale, c.sweep.claim)
    (staleCheck []).grants .check = true
    ∧ restarted (after .checkSweepClaim (staleCheck [(0, planned .nogo 90 90)]))
        = some (true, false, some (.planned 0))
    ∧ (after .checkSweepClaim (staleCheck [])).permit.check = none
    ∧ (after .checkSweepClaim (staleCheck [])).permit.active.map (·.speed) = some 400 := by decide +kernel

/-- A hub with a check in flight that is to be told of a change, restarted or not. -/
def toldOf (restarted : Bool) (h : Hub) : Hub :=
  { h with permit.check := some { checkAt (some (.planned 3)) with restarted := restarted } }

theorem test_notifications_are_met :
    let known := [(3, planned .nogo 90 90)]
    let moving (slots : SlotMap) : Hub := { rolling with odo.y := 25000, table.slots := slots }
    let rechecked : Hub := { moving known with permit.recheck := some (sweepAt (some (.planned 3))) }
    (Hub.notify quiet) = quiet
    ∧ ((Hub.notify (toldOf false quiet)).permit.check.map (·.stale)) = some true
    ∧ (Hub.notify (toldOf true quiet)).permit.check = none
    ∧ refusalOf (Hub.notify (toldOf true quiet)) = some .stale
    ∧ (Hub.notify rechecked).permit.recheckPending = true
    ∧ ((Hub.notify (moving known)).permit.recheck.map (·.claim)) = some (some (.planned 3))
    ∧ Hub.notify (moving []) = moving []
    ∧ (Hub.notify { rolling with odo.x := 25500000 }).permit.state = .stopping
    ∧ (Hub.notify { rolling with odo.x := 25500000 }).permit.lastStop = some .recheck := by decide +kernel

/-- A bump on the tile ahead that the Map Updater is to write while a check waits, or rests before, a further claim. -/
def bumpAhead (rests : Bool) : Hub :=
  { applying (.bump .left ⟨5, 0⟩) .write [(3, planned .nogo 90 90), (5, sensed .obstacle 5 0 3)] with
    permit.check := some (checkAt (some (.planned 3)))
    table.resting := if rests then some .check else none }

theorem test_evidence_between_two_claims_marks_the_check_stale :
    after .applyItem (bumpAhead false) = bumpAhead false
    ∧ (bumpAhead true).grants .updater = true ∧ (bumpAhead true).grants .check = true
    ∧ ((after .applyItem (bumpAhead true)).permit.check.map (·.stale)) = some true
    ∧ (after .applyItem (bumpAhead true)).table.slots.entry 5 = some { sensed .obstacle 5 0 6 with stamp := 44 }
    ∧ (after .applyItem (bumpAhead true)).table.resting = none := by decide +kernel

theorem test_apply_item_remaining_forms_are_met :
    let climb : Item := .climb ⟨1, 1⟩
    let brush : Item := .brushLoad .high
    let rug (p : Pile) : Entry := { sensed .rug 1 1 8 with rug := some ⟨p, false, decide (p = .high)⟩ }
    let pile (slots : SlotMap) : Hub := after .applyItem (applying brush (.brushWrite 5 ⟨1, 1⟩) slots)
    let apply (item : Item) : Hub := after .applyItem (applying item .write [(0, planned .nogo 4 4)])
    (after .applyItem (applying climb .write (fullTable (sensed .rug 5 5 3)))).updater.work
      = some ⟨[climb], .search 0 none⟩
    ∧ (apply (.floorClear .sl ⟨1, 1⟩)).table.slots = [(0, planned .nogo 4 4)]
    ∧ (apply (.floorClear .sl ⟨1, 1⟩)).table.generation = 0
    ∧ Item.effect .low (.floorClear .sl ⟨1, 1⟩) none = .unchanged
    ∧ (pile [(5, rug .low)]).table.slots = [(5, { rug .high with stamp := 44 })]
    ∧ (pile [(5, rug .low)]).table.generation = 1
    ∧ (pile [(5, rug .high)]).table.slots = [(5, rug .high)] ∧ (pile [(5, rug .high)]).table.generation = 0
    ∧ (pile [(5, sensed .cliff 1 1 4)]).table.slots = [(5, sensed .cliff 1 1 4)]
    ∧ (pile [(5, { rug .low with x0 := 2 })]).table.slots = [(5, { rug .low with x0 := 2 })]
    ∧ (pile []).table.slots = [] := by decide +kernel

theorem test_writes_notify :
    let told (h : Hub) : Option Bool := h.permit.check.map (·.stale)
    let bearing (h : Hub) : Hub := resting .check (toldOf false h)
    let drop : Item := .wheelDrop .left ⟨1, 1⟩
    let full := fullTable (sensed .rug 5 5 3)
    let write (item : Item) (phase : ApplyPhase) (slots : SlotMap) : Option Bool :=
      told (after .applyItem (bearing (applying item phase slots)))
    write drop .write [(3, planned .nogo 9 9)] = some true
    ∧ write drop .write [(3, planned .nogo 9 9), (5, sensed .obstacle 1 1 5)] = some true
    ∧ write drop .write [(3, planned .nogo 9 9), (5, { sensed .cliff 1 1 15 with stamp := 44 })] = some false
    ∧ write (.climb ⟨1, 1⟩) .write [(3, planned .nogo 9 9)] = some false
    ∧ told (after .evict (bearing (applying drop (.evict 0) full))) = some true
    ∧ told (after .evict (bearing (applying (.climb ⟨1, 1⟩) (.evict 0) full))) = some false := by decide +kernel

theorem test_puts_notify :
    let put (cls : HazardClass) (h : Hub) : Hub :=
      after .mapPutWrite (resting .check
        { h with table.slots := [(3, planned .nogo 90 90)], plan.slot := .inService (.put (planned cls 4 4)) })
    let read (sw : Sweep) : Option SweepClaim := sw.claim
    let rechecked : Hub := { rolling with permit.recheck := some (sweepAt (some (.planned 3))) }
    (put .rug (toldOf false quiet)).permit = (toldOf false quiet).permit
    ∧ (put .nogo (toldOf false quiet)).permit.check.map (·.stale) = some true
    ∧ (put .nogo (toldOf true quiet)).permit.check = none ∧ refusalOf (put .nogo (toldOf true quiet)) = some .stale
    ∧ (put .nogo quiet).permit = quiet.permit
    ∧ (put .nogo rolling).permit.recheck.map read = some (some (.planned 0))
    ∧ (put .nogo rechecked).permit.recheckPending = true := by
  decide +kernel

/-! ## Witnesses: ceilings and verdicts -/

theorem test_ceilings_are_met :
    let slow := { quiet with route.waypoints := [{ doorway with cap := 90 }] }
    quiet.ceiling 400 = 400 ∧ quiet.ceiling (-400) = 100 ∧ Hub.ceiling { quiet with load.sag := true } 400 = 300
    ∧ Hub.ceiling { quiet with load.sag := true, queue.backlog := true } 400 = 200 ∧ slow.ceiling (-400) = 90 := by
  decide +kernel

theorem test_entry_rules_are_met :
    let rug (p : Pile) : Entry := { sensed .rug 0 0 8 with rug := some ⟨p, false, decide (p = .high)⟩ }
    let rule (e : Entry) : Option Reason × Option Reason × Option Nat := (e.reason false, e.reason true, e.cap)
    rule (sensed .dockZone 0 0 15) = (some .dockZone, none, none)
    ∧ rule (sensed .obstacle 0 0 4) = (some .obstacleAhead, some .obstacleAhead, none)
    ∧ rule (sensed .obstacle 0 0 3) = (none, none, some 150)
    ∧ [Pile.high, .medium, .low].map (fun p => (rug p).cap) = [some 250, some 350, none] := by decide

/-- A check of an ask that has examined some tiles, the last of them its first blocking one if it blocks. -/
def examined (ask : AskFrame) (probing : Bool) (tiles : List Seen) : Check :=
  let c := Hub.newCheck { quiet with limits.probe := probing } ask false
  { c with
    sweep :=
      { sweepAt none with seen := tiles, firstBlocking := tiles.getLast?.filter fun t => (c.blocked t).isSome } }

/-- An examined tile straight ahead at a distance in micrometres. -/
def seenAt (dist : Nat) (e : Entry) : Seen := ⟨⟨⟨e.x0, e.y0⟩, dist * distUnit, false, true, false⟩, [e]⟩

/-- What the verdict on that check says. -/
def judged (ask : AskFrame) (probing : Bool) (tiles : List Seen) : PermitOutcome × Option Reason × Int × Nat :=
  let v := (examined ask probing tiles).verdict false
  (v.outcome, v.reason, v.speed, v.horizon)

theorem test_verdicts_are_met :
    let cap := sensed .threshold 3 0 6
    let before (dist : Nat) := judged straight false [seenAt dist (sensed .cliff 5 0 6)]
    [judged straight false [], judged { straight with speed := -400 } false [],
        judged straight false [seenAt 50000 cap],
        judged straight false [seenAt 85000 cap, seenAt 50000 (sensed .cliff 5 0 6)]]
      = [(.grant, none, 400, 100), (.clip, none, -100, 100), (.clip, none, 200, 100), (.clip, none, 185, 100)]
    ∧ [before 9999, before 21033, before 21034]
        = [(.refuse, some .cliffAhead, 0, 0), (.refuse, some .cliffAhead, 0, 0), (.clip, none, 10, 100)] := by
  decide +kernel

theorem test_probe_verdicts_are_met :
    let ask := { straight with intent := 1 }
    let suspect := seenAt 85000 (sensed .dropSuspect 5 0 4)
    let beyond (dist : Nat) : Seen := seenAt dist (sensed .nogo 4 0 4)
    let both (dist : Nat) : Check :=
      let c := examined ask true [suspect]
      { c with sweep.seen := [suspect, beyond dist] }
    judged ask false [suspect] = (.clip, none, 316, 100)
    ∧ judged ask true [suspect] = (.probe, none, 60, 100)
    ∧ judged { ask with speed := 40 } true [suspect] = (.probe, none, 40, 100)
    ∧ ((both 20000).verdict false).outcome = .refuse ∧ ((both 20000).verdict false).reason = some .nogoAhead
    ∧ ((both 90000).verdict false).outcome = .probe := by decide +kernel

theorem test_running_probes_cross_unprotected_cliffs :
    let ask := { straight with intent := 1 }
    let meets (running : Bool) (confidence : Nat) : PermitOutcome × Option Reason :=
      let v := (examined ask true [seenAt 5000 (sensed .cliff 5 0 confidence)]).verdict running
      (v.outcome, v.reason)
    meets true 6 = (.probe, none) ∧ meets true 8 = (.refuse, some .cliffAhead)
    ∧ meets false 6 = (.refuse, some .cliffAhead) := by decide +kernel

/-! ## Witnesses: floors, loads and the warm restart -/

theorem test_floor_changes_are_met :
    let h := { quiet with route.waypoints := [doorway], trail.crumbs := loop }
    let place (h : Hub) : Hub := after (.setPose (poseBody 100 (-50) 16384 3)) h
    let floor (h : Hub) : Hub := after (.setFloor [0x03#8]) h
    (place h).trail.crumbs = [⟨100, -50, 16384, 3, 0⟩] ∧ (place h).route.waypoints = []
    ∧ (place h).planHas .routeEmpty = true
    ∧ (place { h with dock.state := .trail }).trail.crumbs = []
    ∧ (place { h with odo.floor := 3 }).route.waypoints = [doorway]
    ∧ (floor { h with odo.pose := .lost .lift }).trail.crumbs = []
    ∧ (floor { h with dock.state := .approach }).trail.crumbs = [] := by decide +kernel

theorem test_empty_images_are_met :
    let e := planned .nogo 4 4
    let stepOf (h : Hub) : Option LoadStep := match h.store.phase with
      | .load op => some op.step
      | _ => none
    let empty (slots : SlotMap) (header : List Byte) : Hub :=
      after (.flashReadDone (.line header)) { (heading header).1 with table.slots := slots }
    let wrong : List Byte := imageMarker ++ headerTail 1 0 (dockAt 1 2) 0 0x1234#16
    let claim (slots : SlotMap) (step : LoadStep) : Hub :=
      after .loadRemovalClaim
        { loading step slots with
          store.phase := .load
            { LoadOp.startUpLoad with header := ImageHeader.decode (header 0 0), step := step, startUp := false } }
    stepOf (empty [(7, e)] (header 0 0)) = some (.removeRead 7)
    ∧ (empty [] (header 0 0)).store.lastResult = some .done ∧ (empty [] (header 0 0)).permit.startUpEnded = true
    ∧ (empty [] wrong).store.lastResult = some .badCheck
    ∧ (claim [(7, e)] (.removeWrite 7)).store.lastResult = some .done
    ∧ (claim [(7, e)] (.removeWrite 7)).table.slots = []
    ∧ (claim [] (.removeWrite 7)).store.lastResult = some .done
    ∧ (claim [] (.removeRead 7)).store.phase = .idle := by decide +kernel

theorem test_first_passes_end_without_removals :
    let e := planned .nogo 4 4
    let read : Hub :=
      let h := loading (.judge 2) []
      after (.flashReadDone (.line e.encode))
        { h with
          store.phase := .load
            { LoadOp.startUpLoad with
              header := (ImageHeader.decode (header 3 0)).map fun k => { k with crc := crc16 0x1234#16 e.encode }
              step := .judge 2, crc := 0x1234#16 } }
    let stepOf (h : Hub) : Option LoadStep := match h.store.phase with
      | .load op => some op.step
      | _ => none
    stepOf read = some (.fetch 0) ∧ read.store.linkOut = [[0x03#8, 0x00#8, 0x10#8, 0x00#8]]
    ∧ stepOf (after .loadRemovalClaim (loading (.removeWrite 7) [(7, e)])) = some (.fetch 0)
    ∧ stepOf (after .loadRemovalClaim (loading (.removeWrite 7) [(9, e)])) = some (.removeRead 9)
    ∧ (after .loadRemovalClaim (loading (.removeWrite 7) [(9, e)])).table.slots = [(9, e)]
    ∧ stepOf (after .loadRemovalClaim (loading (.removeRead 7) [])) = some (.fetch 0) := by decide +kernel

theorem test_warm_restart_keeps_its_counters :
    let h :=
      { quiet with
        odo.heading := 77, drive.errors := 3, beacon.flips := 4, beacon.foreign := 5, table.evictions := 6 }
    let t := after (.warmRestart []) h
    (t.odo.heading, t.drive.errors, t.beacon.flips, t.beacon.foreign, t.table.evictions) = (77, 3, 4, 5, 6)
    ∧ t.att.refusals = quiet.att.refusals
    ∧ (after (.warmRestart []) (toldOf false h)).att.refusals = quiet.att.refusals.set 0 1
    ∧ (after (.warmRestart []) { h with odo.floor := 2 }).odo.floor = 2 := by decide +kernel

/-! ## Witnesses: what every step keeps -/

theorem test_motion_law_is_met : rolling.permitLaw := by
  have h : ∀ k ∈ rolling.permit.active, k = ride := by intro k hk; exact (Option.some.inj hk).symm
  refine ⟨⟨by decide, fun r hr => ?_⟩, by decide, by decide, by decide, by decide, by decide⟩
  obtain rfl := h r hr
  decide

/-- A hub with a protected CLIFF in slot 1 of its table and evidence to apply. -/
def guarded : Hub :=
  { applying (.noReturn .fl ⟨6, 0⟩ 0 3) .write [(0, planned .nogo 3 0), (1, sensed .cliff 5 0 8)] with
    plan.slot := .inService (.delete 1 none) }

theorem test_table_law_is_met : guarded.tableLaw := by
  refine ⟨by decide, by decide, by decide, by decide, by decide, ⟨by decide, fun w hw => ?_, by decide⟩, by decide⟩
  obtain rfl : w = ⟨[.noReturn .fl ⟨6, 0⟩ 0 3], .write⟩ := (Option.some.inj hw).symm
  decide

theorem test_capacity_and_time_laws_are_met :
    let full := { quiet with trail.crumbs := List.replicate 128 (crumbAt 0 0 9), drive.badRun := 8 }
    let last := { quiet with time := ⟨4294967295, 124, 31, 65535⟩ }
    quiet.capacityLaw ∧ full.capacityLaw ∧ quiet.time.law ∧ last.time.law
    ∧ Memory.wf [(0, 0x5A#8), (4096, 0x00#8)] = true ∧ Memory.wf [(0, 0xFF#8)] = false := by decide +kernel

theorem test_protected_entries_are_met :
    let e := sensed .cliff 5 0 8
    let last (i : Instr) (h : Hub) := (after i h).table.slots.entry 1
    guarded.table.slots.wf ∧ guarded.table.slots.entry 1 = some e ∧ e.isProtected = true
    ∧ last (.lineSample ⟨true, true, true, true⟩) guarded = some e
    ∧ last .mapDeleteWrite { guarded with updater.work := none } = none
    ∧ last .mapClearClaim { servingOn [(1, e)] (.clear 0 1 true 0 none) with inReset := false } = none
    ∧ last .loadRemovalClaim (loading (.removeWrite 1) [(1, e)]) = none
    ∧ last (.coldStart 0 false) guarded = none
    ∧ last .applyItem (applying (.floorClear .fl ⟨5, 0⟩) .write [(1, e)]) = some e
    ∧ last .applyItem (applying (.passOver .left ⟨5, 0⟩) .write [(1, e)]) = some e := by decide +kernel

end Sys2Proof.Tests
end

section
/-! The permit's stop timer and RELEASE_INHIBIT (R108, R111, R113). -/

namespace Sys2Proof.Machine

/-! ## What the DRV_INH line depends on (R111) -/

theorem Hub.driveInhibit_inhibited {h : Hub} (hs : h.permit.state = .inhibited) : h.driveInhibit = true := by
  simp [Hub.driveInhibit, hs]

/-- Outside INHIBITED and the cold-start reset the line waits for the end of start-up alone. -/
theorem Hub.driveInhibit_released {h : Hub} (hs : h.permit.state ≠ .inhibited) (hr : h.inReset = false) :
    h.driveInhibit = !h.permit.startUpEnded := by
  simp [Hub.driveInhibit, hs, hr]

/-! ## The stop timer (R108) -/

/-- The permit after an unconfirmed stop. -/
def PermitCtl.unconfirmed (p : PermitCtl) : PermitCtl :=
  { p with
    state := .inhibited, driveStopped := false, stopTimer := none
    stopTimeouts := min (p.stopTimeouts + 1) 255 }

theorem Hub.stopExpired_stopping {h : Hub} (hs : h.permit.state = .stopping) :
    h.stopExpired = Hub.setPower .inhibited (Hub.setPlan .inhibited { h with permit := h.permit.unconfirmed }) := by
  simp [Hub.stopExpired, hs, Hub.inhibit, PermitCtl.unconfirmed, sat8]

/-- Settles O6: the timer that is due runs `stopExpired`, whose STOPPING case is the record update stated. -/
theorem stopTimerExpiryInhibits : Obligations.StopTimerExpiryInhibits := by
  intro s hr hd hs
  have hrun : Runs .stopTimerExpiry s s.hub.stopExpired := runs_of_expiry (t := (·.permit.stopTimer)) rfl hr hd
  have hpermit : s.hub.stopExpired.permit = s.hub.permit.unconfirmed := by simp [Hub.stopExpired_stopping hs]
  refine ⟨s.hub.stopExpired, hrun, hpermit, ?inhibit, ?rest⟩
  case inhibit => exact Hub.driveInhibit_inhibited (by rw [hpermit]; rfl)
  case rest => rw [hpermit, Hub.stopExpired_stopping hs]

/-! ## RELEASE_INHIBIT (R113) -/

theorem runs_releaseInhibit {s : State} (hr : s.hub.inReset = false) (ho : s.hub.planOpen) :
    Runs (.releaseInhibit []) s (s.hub.framed .plan).releaseInhibit :=
  runs_of_request rfl hr (fun _ => ho) rfl

/-- The tests read the permit, the drive link and the wheel-drop lines, none of which the frame touches. -/
theorem Hub.inhibitStatus_framed (h : Hub) (p : Port) : (h.framed p).inhibitStatus = h.inhibitStatus := by
  simp [Hub.inhibitStatus]

/-- A test that fails answers with its status and changes nothing else. -/
theorem runs_releaseInhibit_refused {s : State} {st : Status} (hr : s.hub.inReset = false) (ho : s.hub.planOpen)
    (hst : s.hub.inhibitStatus = st) (hne : st ≠ .done) :
    Runs (.releaseInhibit []) s ((s.hub.framed .plan).reply .plan ⟨st, 0x2A#8, []⟩) := by
  have hrun := runs_releaseInhibit hr ho
  rwa [Hub.releaseInhibit, Hub.inhibitStatus_framed, hst, if_neg hne] at hrun

/-- When every test passes the permit state becomes STILL and the answer is DONE. -/
theorem runs_releaseInhibit_done {s : State} (hr : s.hub.inReset = false) (ho : s.hub.planOpen)
    (hst : s.hub.inhibitStatus = .done) :
    Runs (.releaseInhibit []) s
      ({ s.hub.framed .plan with permit.state := .still }.reply .plan ⟨.done, 0x2A#8, []⟩) := by
  have hrun := runs_releaseInhibit hr ho
  rwa [Hub.releaseInhibit, Hub.inhibitStatus_framed, hst, if_pos rfl] at hrun

/-- Settles O21: each test that fails first fixes the status, and a status fixes what the request does. -/
theorem releaseInhibitTestsInOrder : Obligations.ReleaseInhibitTestsInOrder := by
  intro s hr ho h drop
  refine ⟨fun hs => ?notInhibited, fun hs hl => ?linkDown, fun hs hl hd => ?notStopped,
    fun hs hl hd hw => ?wheelDrop, fun hs hl hd hw => ⟨?done, ?line⟩⟩
  case notInhibited => exact runs_releaseInhibit_refused hr ho (by simp [Hub.inhibitStatus, hs]) (by decide)
  case linkDown => exact runs_releaseInhibit_refused hr ho (by simp [Hub.inhibitStatus, hs, hl]) (by decide)
  case notStopped => exact runs_releaseInhibit_refused hr ho (by simp [Hub.inhibitStatus, hs, hl, hd]) (by decide)
  case wheelDrop =>
    have hst : s.hub.inhibitStatus = .wheelDrop := by
      rw [Hub.inhibitStatus, if_neg (by simp [hs]), if_neg (by simp [hl]), if_neg (by simp [hd]), if_pos hw]
    exact runs_releaseInhibit_refused hr ho hst (by decide)
  case done =>
    have hst : s.hub.inhibitStatus = .done := by
      rw [Hub.inhibitStatus, if_neg (by simp [hs]), if_neg (by simp [hl]), if_neg (by simp [hd]),
        if_neg (Bool.eq_false_iff.mp hw)]
    exact runs_releaseInhibit_done hr ho hst
  case line =>
    rw [Hub.driveInhibit_released (by simp) (by simp [h, hr])]
    simp [h]

end Sys2Proof.Machine
end

section
/-! The steer hint and the guidance of the final approach (R152, R154), settling the beacon's statement. -/

namespace Sys2Proof.Machine

/-! ## The steer hint by the fresh sightings (R154) -/

@[simp] theorem Hub.freshOf_iff (h : Hub) (f : FieldCode) :
    h.freshOf f = true ↔ h.beacon.left.freshField = some f ∨ h.beacon.right.freshField = some f :=
  decide_eq_true_iff

theorem Hub.beaconHint_centreBoth {h : Hub} (hl : h.beacon.left.freshField = some .centre)
    (hr : h.beacon.right.freshField = some .centre) : h.beaconHint = .ahead := by
  simp [Hub.beaconHint, hl, hr]

theorem Hub.beaconHint_centreLeft {h : Hub} (hl : h.beacon.left.freshField = some .centre)
    (hr : h.beacon.right.freshField ≠ some .centre) : h.beaconHint = .turnLeft := by
  simp [Hub.beaconHint, hl, hr]

theorem Hub.beaconHint_centreRight {h : Hub} (hl : h.beacon.left.freshField ≠ some .centre)
    (hr : h.beacon.right.freshField = some .centre) : h.beaconHint = .turnRight := by
  simp [Hub.beaconHint, hl, hr]

/-- Without a fresh CENTRE the hint depends on which fans are seen, on whichever eye. -/
theorem Hub.beaconHint_noCentre {h : Hub} (hl : h.beacon.left.freshField ≠ some .centre)
    (hr : h.beacon.right.freshField ≠ some .centre) :
    h.beaconHint =
      if h.freshOf .leftFan then (if h.freshOf .rightFan then .ahead else .slideRight)
      else if h.freshOf .rightFan then .slideLeft else .search := by
  cases hL : h.freshOf .leftFan <;> cases hR : h.freshOf .rightFan <;> simp [Hub.beaconHint, hl, hr, hL, hR]

/-! ## The guidance of a hub that is docking (R152) -/

/-- Bearing and distance are those to a usable dock; hint and NEAR come from the sightings alone. -/
theorem Hub.guidance_docking {h : Hub} (hd : h.dock.state = .docking) (ht : h.tracking = true) :
    h.guidance =
      let aim := if h.dockUsable then h.aim (mmPoint h.dock.record.x h.dock.record.y) else (0, 0)
      ⟨.beacon, aim.1, aim.2, h.beaconHint, h.freshOf .halo⟩ := by
  simp [Hub.guidance, hd, ht]

/-- Settles O47: the rows of R154 are the branches of the hint, and NEAR is a fresh HALO on either eye. -/
theorem steerHintFollowsTheSightings : Obligations.SteerHintFollowsTheSightings := by
  intro h l r fans
  refine ⟨Hub.beaconHint_centreBoth, Hub.beaconHint_centreLeft, Hub.beaconHint_centreRight,
    fun hl hr => ?fans, fun hd ht => ?guidance⟩
  case fans =>
    have hint := Hub.beaconHint_noCentre hl hr
    simp only [Hub.freshOf_iff] at hint
    refine ⟨fun hL hR => ?both, fun hL hR => ?leftFan, fun hL hR => ?rightFan, fun hL hR => ?neither⟩
    case both => rw [hint, if_pos hL, if_pos hR]
    case leftFan => rw [hint, if_pos hL, if_neg hR]
    case rightFan => rw [hint, if_neg hL, if_pos hR]
    case neither => rw [hint, if_neg hL, if_neg hR]
  case guidance =>
    rw [Hub.guidance_docking hd ht]
    exact ⟨rfl, rfl, h.freshOf_iff .halo⟩

end Sys2Proof.Machine
end

section
/-!
What a command can do to the hub, said once: its own action, what surrounds it (a grant of the arbiter, the frame of a
request), and the inversion that every law of the steps is derived from.
-/

namespace Sys2Proof.Machine

/-! ## The action of a command -/

/-- What a command does to the hub once its timer is due, its frame heard or taken, its claim granted. -/
def action : Instr → Hub → Hub
  | .coldStart vddMv nrstHigh => Hub.coldStart vddMv nrstHigh
  | .millisecondEnd => fun h => { h with time := h.time.endMillisecond }
  | .scan reading => Hub.scan reading
  | .lineSample levels => Hub.lineSample levels
  | .liftTimerExpiry => fun h => { h with lines.lift := none }.enterLifted
  | .setDownTimerExpiry => Hub.setDownExpired
  | .permitExpiry => fun h => Hub.trigger .lapsed { h with permit.expiry := none }
  | .stopTimerExpiry => Hub.stopExpired
  | .leaseTimerExpiry => Hub.leaseExpired
  | .sagClearExpiry => fun h => h.setCauses { h.load with sag := false, sagTimer := none }
  | .dockingTimerExpiry => Hub.dockingExpired
  | .sightingFreshnessExpiry eye => Hub.freshnessExpired eye
  | .ask frame => Hub.ask frame
  | .driveFrameSent => Hub.frameSent
  | .stopDone => fun h => h.frameTaken.stopDone
  | .brushLoad pile => Hub.brushLoad pile
  | .climb => fun h => h.frameTaken.climbed
  | .driveBadFrame _ => Hub.badFrame
  | .dlRxHeldLow chars => Hub.heldLow chars
  | .checkSweepClaim => Hub.checkClaim
  | .recheckClaim => Hub.recheckClaim
  | .applyItem => Hub.applyGrant
  | .plannedRugRead => Hub.plannedGrant
  | .evictionSearchRead => Hub.searchGrant
  | .evict => Hub.evictGrant
  | .centreTileLookupDone => Hub.centreDone
  | .passOverLookupDone wheel => Hub.passOverDone wheel
  | .beaconFrame eye payload => fun h =>
    Hub.primaryFrame eye payload (h.setEye eye { h.beacon.eye eye with primary := .hunting })
  | .beaconShadowFrame eye payload => fun h =>
    Hub.shadowFrame eye payload (decide ((h.beacon.eye eye).shadow = .hunting) || !(h.beacon.eye eye).uprightSince)
      (h.setEye eye { h.beacon.eye eye with shadow := .hunting })
  | .planReplyRead clocked => Hub.planRead clocked
  | .flagPeek clocked => fun h => { h with plan.out := h.planFlagBytes.take clocked }
  | .planOtherCommand command clocked => fun h =>
    if command = 0x51#8 ∨ command = 0x52#8 ∨ command = 0x53#8 then h
    else { h with plan.out := List.replicate clocked 0xFF#8 }
  | .powerReplyRead clocked => Hub.powerRead clocked
  | .frameError port frame => Hub.frameError port frame
  | .unknownRequest port code _ => Hub.deny port code .unknownRequest
  | .status port _ => fun h => h.done port 0x01#8 (h.statusBody port)
  | .takeFlags port body => Hub.takeFlags port body
  | .setMask body => Hub.setMask body
  | .counters body => fun h => (if bitAt body 0 0 then h.clearCounters else h).done .plan 0x04#8 h.counterBytes
  | .setLimits body => Hub.setLimits body
  | .setSensors body => Hub.setSensors body
  | .mapPut body => Hub.mapPut body
  | .mapPutWrite => Hub.putGrant
  | .mapDelete body => Hub.mapDelete body
  | .mapDeleteWrite => Hub.deleteGrant
  | .mapConfirm body => Hub.mapConfirm body
  | .mapConfirmWrite => Hub.confirmGrant
  | .mapQuery body => Hub.mapQuery body
  | .mapQueryRead => Hub.queryGrant
  | .mapClear body => Hub.mapClear body
  | .mapClearClaim => Hub.clearGrant
  | .setFloor body => Hub.setFloor body
  | .setPose body => Hub.setPose body
  | .setDock body => Hub.setDock body
  | .routeAppend body => Hub.routeAppend body
  | .routeFlush _ => fun h => h.flushRoute.done .plan 0x21#8 [byte h.route.waypoints.length]
  | .routeRead body => Hub.routeRead body
  | .hold port _ => fun h => (h.placeHold (portHold port)).doneHolds port 0x28#8
  | .release port body => Hub.release port body
  | .releaseInhibit _ => Hub.releaseInhibit
  | .trailRead body => Hub.trailRead body
  | .trailClear _ => Hub.trailClear
  | .returnStart port _ => Hub.requestReturn port
  | .returnCancel port _ => fun h => h.cancelReturn.doneReturn port 0x33#8
  | .beaconSlot body => Hub.beaconSlot body
  | .mapSave body => Hub.mapSave body
  | .mapLoad body => Hub.mapLoad body
  | .storeStatus _ => fun h => h.done .plan 0x42#8 h.storeBytes
  | .warmRestart _ => Hub.warmRestart
  | .loadMode body => Hub.loadMode body
  | .docked _ => fun h => h.docked.done .power 0x4A#8 (byte h.docked.dock.state.ctorIdx :: h.docked.dock.record.encode)
  | .undocked _ => fun h => h.undocked.doneReturn .power 0x4B#8
  | .flashStatusRead statusByte => Hub.flashStatus (statusByte.getLsbD 0)
  | .saveSlotRead => Hub.saveGrant
  | .flashReadDone answer => Hub.flashRead answer
  | .loadRemovalClaim => Hub.removalGrant
  | .loadInsertWrite => Hub.insertGrant
  | .coldStartResetEnd vddMv nrstHigh => Hub.resetEnd vddMv nrstHigh
  | .beaconElement eye lineHigh periods => Hub.element eye lineHigh periods

/-- The claimant whose grant a command is. -/
def grantee : Instr → Option Claimant
  | .checkSweepClaim => some .check
  | .recheckClaim => some .recheck
  | .applyItem | .plannedRugRead | .evictionSearchRead | .evict => some .updater
  | .mapPutWrite | .mapDeleteWrite | .mapConfirmWrite | .mapQueryRead | .mapClearClaim => some .plan
  | .saveSlotRead | .loadRemovalClaim | .loadInsertWrite => some .store
  | _ => none

/-- The timer whose expiry a command is. -/
def expiring (h : Hub) : Instr → Option Timer
  | .liftTimerExpiry => some h.lines.lift
  | .setDownTimerExpiry => some h.lines.setDown
  | .permitExpiry => some h.permit.expiry
  | .stopTimerExpiry => some h.permit.stopTimer
  | .leaseTimerExpiry => some h.route.leaseTimer
  | .sagClearExpiry => some h.load.sagTimer
  | .dockingTimerExpiry => some h.dock.timer
  | .sightingFreshnessExpiry eye => some (h.beacon.eye eye).fresh
  | _ => none

/-- The commands of the Drive receiver that stand for one event, whatever its fields: the characters say which. -/
inductive SameEvent : Instr → Instr → Prop
  | ask (a b : AskFrame) : SameEvent (.ask a) (.ask b)
  | stopDone : SameEvent .stopDone .stopDone
  | brushLoad (p q : Pile) : SameEvent (.brushLoad p) (.brushLoad q)
  | climb : SameEvent .climb .climb
  | bad (c d : List LinkChar) : SameEvent (.driveBadFrame c) (.driveBadFrame d)

/-- The hubs a command can answer with: the hub as it was, its action alone, the action of the event its characters
make, its action under a grant of the arbiter or behind the frame of a request, the refusal of a wrong body length, and
a frame lost to a request in service. -/
inductive Hub.Reaches (i : Instr) (h : Hub) : Hub → Prop
  | same : Reaches i h h
  | acted (hd : ∀ t, expiring h i = some t → t.due h.time.ms = true) : Reaches i h (action i h)
  | heard {j : Instr} (hj : SameEvent i j) (rx : DriveRx) : Reaches i h (action j { h with drive.rx := rx })
  | granted {c : Claimant} (hc : grantee i = some c) (hg : h.grants c = true) : Reaches i h ((action i h).afterGrant c)
  | taken (p : Port) (hp : ∀ g t, expiring g i ≠ some t) : Reaches i h (action i (h.framed p))
  | denied (p : Port) (code : Byte) : Reaches i h ((h.framed p).deny p code .badField)
  | lost : Reaches i h (h.renewLease.setPlan .replyLost)

/-! ## Requests -/

/-- A Plan frame that finds a request in service is lost (R184). -/
theorem Hub.request_inService {h : Hub} (hs : h.plan.slot.claims = true) (code : Byte) (len : Nat)
    (body : List Byte) (act : Hub → Hub) :
    h.request .plan code len body act = h.renewLease.setPlan .replyLost := by
  have hr : h.renewLease.plan = h.plan := by simp
  cases hp : h.plan.slot <;> simp_all [Hub.request, Hub.handIn, PlanSlot.claims]

/-- On an open port the frame is taken, and a wrong body length is refused (R184, R185). -/
theorem Hub.request_open {h : Hub} {p : Port} (ho : h.portOpen p) (code : Byte) (len : Nat) (body : List Byte)
    (act : Hub → Hub) : h.request p code len body act = takeRequest p code len body act (h.framed p) := by
  cases p with
  | power => rfl
  | plan =>
    have hc : h.renewLease.plan.slot.claims = false := by simpa using ho rfl
    cases hs : h.renewLease.plan.slot <;>
      simp_all [Hub.request, Hub.handIn, Hub.framed, Hub.clearSlot, PlanSlot.claims]

/-- A code that names no request of its port is a request of its own; any other changes nothing (R185; log 1). -/
theorem exec_unknownRequest (p : Port) (code : Byte) (body : List Byte) (s : State) :
    exec (.unknownRequest p code body) s =
      if (requestCodes p).contains code.toNat then s.run id
      else s.run (Hub.request p code body.length body (Hub.deny p code .unknownRequest)) := by
  by_cases hc : (requestCodes p).contains code.toNat = true
  · rw [if_pos hc]
    exact congrArg s.run (funext fun h => if_pos hc)
  · rw [if_neg hc]
    exact congrArg s.run (funext fun h => if_neg hc)

/-- A request's exec is that of its frame with its action inside (R183). -/
theorem exec_of_requestFrame {i : Instr} {s : State} {p : Port} {code : Byte} {len : Nat} {body : List Byte}
    (hf : requestFrame i = some (p, code, len, body)) : exec i s = s.run (Hub.request p code len body (action i)) := by
  cases i
  case unknownRequest port code' body' =>
    simp only [requestFrame] at hf
    split at hf
    · cases hf
    · next hc =>
      cases hf
      rw [exec_unknownRequest, if_neg hc]
      rfl
  all_goals first | cases hf; rfl | cases hf

/-! ## The inversion -/

theorem State.run_next {s t : State} {f : Hub → Hub} (ht : s.run f = .next t) :
    t.pending = s.pending ∧ (t.hub = s.hub ∨ t.hub = f s.hub) := by
  unfold State.run at ht
  cases ht
  exact ⟨rfl, by dsimp only; split <;> simp⟩

theorem expiring_of_requestFrame {i : Instr} {r : Port × Byte × Nat × List Byte} (hf : requestFrame i = some r)
    (g : Hub) : expiring g i = none := by
  cases i <;> first | rfl | cases hf

theorem expiring_of_grantee {i : Instr} {c : Claimant} (hc : grantee i = some c) (g : Hub) : expiring g i = none := by
  cases i <;> first | rfl | cases hc

theorem reaches_request {i : Instr} {p : Port} {code : Byte} {len : Nat} {body : List Byte}
    (hi : ∀ g, expiring g i = none) (h : Hub) : Hub.Reaches i h (h.request p code len body (action i)) := by
  by_cases ho : h.portOpen p
  · rw [Hub.request_open ho, takeRequest]
    split
    · exact .taken p fun g t => by rw [hi g]; exact (Option.some_ne_none t).symm
    · exact .denied p code
  · obtain ⟨rfl, hs⟩ : p = .plan ∧ h.plan.slot.claims = true := by simpa [Hub.portOpen, Hub.planOpen] using ho
    rw [Hub.request_inService hs]
    exact .lost

theorem reaches_granted {i : Instr} {c : Claimant} {waits : Hub → Bool} (hc : grantee i = some c) (h : Hub) :
    Hub.Reaches i h (Hub.granted c waits (action i) h) := by
  unfold Hub.granted
  split
  · next hw => exact .granted hc (Bool.and_eq_true_iff.mp hw).1
  · exact .same

theorem reaches_expiry {i : Instr} {h : Hub} {t : Timer} (ht : expiring h i = some t) :
    Hub.Reaches i h (h.expiry t (action i)) := by
  unfold Hub.expiry
  split
  · next hd => exact .acted fun u hu => by rwa [← Option.some.inj (ht.symm.trans hu)]
  · exact .same

theorem reaches_heard {i : Instr} {h : Hub} {chars : List LinkChar} {act : LinkEvent → Option (Hub → Hub)}
    (ha : ∀ e f, act e = some f → ∃ j, SameEvent i j ∧ f = action j) : Hub.Reaches i h (h.heard chars act) := by
  obtain he | ⟨rx, e, g, -, hg, he⟩ := heard_cases h chars act
  · rw [he]; exact .same
  · obtain ⟨j, hj, rfl⟩ := ha e g hg
    rw [he]; exact .heard hj rx

theorem reaches_acted {i : Instr} {h : Hub} (hi : expiring h i = none) : Hub.Reaches i h (action i h) :=
  .acted fun t ht => absurd (hi.symm.trans ht) (Option.some_ne_none t).symm

/-- Every command whose meaning is an effect `f` of the hub reaches what `f` reaches. -/
theorem reaches_of_run {i : Instr} {s t : State} {f : Hub → Hub} (he : exec i s = s.run f) (ht : exec i s = .next t)
    (hf : Hub.Reaches i s.hub (f s.hub)) : t.pending = s.pending ∧ Hub.Reaches i s.hub t.hub := by
  obtain ⟨hp, hh | hh⟩ := State.run_next (he ▸ ht)
  · exact ⟨hp, hh ▸ .same⟩
  · exact ⟨hp, hh ▸ hf⟩

/-- Every command of the Drive receiver reaches what the event its characters make reaches. -/
theorem reaches_of_heard {i : Instr} {s t : State} {chars : Hub → List LinkChar} {act : LinkEvent → Option (Hub → Hub)}
    (he : exec i s = s.run fun h => h.heard (chars h) act) (ht : exec i s = .next t)
    (ha : ∀ e f, act e = some f → ∃ j, SameEvent i j ∧ f = action j) :
    t.pending = s.pending ∧ Hub.Reaches i s.hub t.hub :=
  reaches_of_run he ht (reaches_heard ha)

/-- What a command can do: the queue stays, and the hub becomes one that the command reaches. -/
theorem exec_reaches {i : Instr} {s t : State} (ht : exec i s = .next t) :
    t.pending = s.pending ∧ Hub.Reaches i s.hub t.hub := by
  cases hf : requestFrame i with
  | some frame =>
    obtain ⟨p, code, len, body⟩ := frame
    exact reaches_of_run (exec_of_requestFrame hf) ht (reaches_request (expiring_of_requestFrame hf) _)
  | none =>
    cases i with
    | coldStart v n | coldStartResetEnd v n =>
      cases ht
      exact ⟨rfl, reaches_acted rfl⟩
    | liftTimerExpiry =>
      exact reaches_of_run (f := fun h => h.expiry h.lines.lift (action .liftTimerExpiry)) rfl ht (reaches_expiry rfl)
    | setDownTimerExpiry =>
      exact reaches_of_run (f := fun h => h.expiry h.lines.setDown (action .setDownTimerExpiry)) rfl ht (reaches_expiry rfl)
    | permitExpiry =>
      exact reaches_of_run (f := fun h => h.expiry h.permit.expiry (action .permitExpiry)) rfl ht (reaches_expiry rfl)
    | stopTimerExpiry =>
      exact reaches_of_run (f := fun h => h.expiry h.permit.stopTimer (action .stopTimerExpiry)) rfl ht (reaches_expiry rfl)
    | leaseTimerExpiry =>
      exact reaches_of_run (f := fun h => h.expiry h.route.leaseTimer (action .leaseTimerExpiry)) rfl ht (reaches_expiry rfl)
    | sagClearExpiry =>
      exact reaches_of_run (f := fun h => h.expiry h.load.sagTimer (action .sagClearExpiry)) rfl ht (reaches_expiry rfl)
    | dockingTimerExpiry =>
      exact reaches_of_run (f := fun h => h.expiry h.dock.timer (action .dockingTimerExpiry)) rfl ht (reaches_expiry rfl)
    | sightingFreshnessExpiry eye =>
      exact reaches_of_run (f := fun h => h.expiry (h.beacon.eye eye).fresh (action (.sightingFreshnessExpiry eye))) rfl ht
        (reaches_expiry rfl)
    | ask a =>
      refine reaches_of_heard (show execAsk a s = _ from rfl) ht fun e f he => ?_
      cases e <;> cases he
      exact ⟨_, .ask a _, rfl⟩
    | stopDone =>
      refine reaches_of_heard (show execStopDone s = _ from rfl) ht fun e f he => ?_
      cases e <;> cases he
      exact ⟨_, .stopDone, rfl⟩
    | brushLoad p =>
      refine reaches_of_heard (show execBrushLoad p s = _ from rfl) ht fun e f he => ?_
      cases e <;> cases he
      exact ⟨_, .brushLoad p _, rfl⟩
    | climb =>
      refine reaches_of_heard (show execClimb s = _ from rfl) ht fun e f he => ?_
      cases e <;> cases he
      exact ⟨_, .climb, rfl⟩
    | driveBadFrame c =>
      refine reaches_of_heard (show execDriveBadFrame c s = _ from rfl) ht fun e f he => ?_
      cases e <;> cases he
      exact ⟨_, .bad c c, rfl⟩
    | checkSweepClaim | recheckClaim | applyItem | plannedRugRead | evictionSearchRead | evict | mapPutWrite
    | mapDeleteWrite | mapConfirmWrite | mapQueryRead | mapClearClaim | saveSlotRead | loadRemovalClaim
    | loadInsertWrite => exact reaches_of_run rfl ht (reaches_granted rfl _)
    | unknownRequest p code body =>
      have he := exec_unknownRequest p code body s
      split at he
      · exact reaches_of_run he ht .same
      · exact reaches_of_run he ht (reaches_request (fun _ => rfl) _)
    | warmRestart body =>
      refine reaches_of_run rfl ht ?_
      unfold Hub.warmRestartFrame
      split
      · exact reaches_acted rfl
      · exact reaches_request (fun _ => rfl) _
    | _ =>
      first
      | exact reaches_of_run (f := action _) rfl ht (reaches_acted rfl)
      | cases hf

/-! ## Invariants of the commands -/

/-- What surrounds the actions keeps a property: the arbiter's note of a grant, the characters of the Drive link, a
request's frame, a reply, and a frame lost. -/
structure Unshaken (P : Hub → Prop) : Prop where
  granted : ∀ h c, P h → P (h.afterGrant c)
  heard : ∀ h rx, P h → P { h with drive.rx := rx }
  framed : ∀ h p, P h → P (h.framed p)
  replied : ∀ h p r, P h → P (h.reply p r)
  lost : ∀ h, P h → P (h.renewLease.setPlan .replyLost)

/-- A property that the surroundings and a command's action keep is kept by the command. -/
theorem exec_keeps {P : Hub → Prop} (hu : Unshaken P) {i : Instr}
    (ha : ∀ j h, (j = i ∨ SameEvent i j) → (∀ t, expiring h j = some t → t.due h.time.ms = true) → P h → P (action j h))
    {s t : State} (ht : exec i s = .next t) (hs : P s.hub) : P t.hub := by
  obtain ⟨-, hr⟩ := exec_reaches ht
  generalize t.hub = g at hr
  cases hr with
  | same => exact hs
  | acted hd => exact ha i _ (.inl rfl) hd hs
  | heard hj rx => exact ha _ _ (.inr hj) (by cases hj <;> simp [expiring]) (hu.heard _ rx hs)
  | granted hc => exact hu.granted _ _ (ha i _ (.inl rfl) (fun t ht => absurd ((expiring_of_grantee hc _).symm.trans ht) (Option.some_ne_none t).symm) hs)
  | taken p hp => exact ha i _ (.inl rfl) (fun t ht => absurd ht (hp _ t)) (hu.framed _ p hs)
  | denied p code => exact hu.replied _ p _ (hu.framed _ p hs)
  | lost => exact hu.lost _ hs

/-- A property of the hub that the passing of a reference period and every command keep is kept by every step. -/
theorem step_keeps {P : Hub → Prop} (hidle : ∀ h, P h → P h.idle)
    (hexec : ∀ i s t, exec i s = .next t → P s.hub → P t.hub) {s t : State} (ht : step s = .next t) (hs : P s.hub) :
    P t.hub := by
  unfold step at ht
  split at ht
  · cases ht
    exact hidle _ hs
  · exact hexec _ _ _ ht hs

/-- What surrounds the actions leaves a part of the hub as it is. -/
structure Steady {α : Type} (get : Hub → α) : Prop where
  granted : ∀ h c, get (Hub.afterGrant c h) = get h
  heard : ∀ h rx, get { h with drive.rx := rx } = get h
  framed : ∀ h p, get (Hub.framed p h) = get h
  replied : ∀ h p r, get (Hub.reply p r h) = get h
  lost : ∀ h, get (h.renewLease.setPlan .replyLost) = get h

theorem Steady.unshaken {α : Type} {get : Hub → α} (hg : Steady get) (v : α) : Unshaken fun h => get h = v where
  granted h c hv := (hg.granted h c).trans hv
  heard h rx hv := (hg.heard h rx).trans hv
  framed h p hv := (hg.framed h p).trans hv
  replied h p r hv := (hg.replied h p r).trans hv
  lost h hv := (hg.lost h).trans hv

/-- Neither cold start, the only commands that work in reset. -/
abbrev NotCold (i : Instr) : Prop := ∀ v n, i ≠ .coldStart v n ∧ i ≠ .coldStartResetEnd v n

/-- A part of the hub that the surroundings leave, and every action but those of its owners, is changed by its owners
alone. -/
theorem exec_changes {α : Type} {get : Hub → α} (hg : Steady get) {owns : Instr → Bool}
    (hs : ∀ i j, SameEvent i j → owns i = owns j)
    (ha : ∀ (i : Instr) (h : Hub), NotCold i → owns i = false → get (action i h) = get h) {i : Instr} (hc : NotCold i)
    {s t : State} (ht : exec i s = .next t) (hn : get t.hub ≠ get s.hub) : owns i = true := by
  by_contra ho
  rw [Bool.not_eq_true] at ho
  refine hn (exec_keeps (hg.unshaken (get s.hub)) (fun j h hj _ hv => ?_) ht rfl)
  obtain rfl | hj := hj
  · exact (ha _ h hc ho).trans hv
  · refine (ha j h (fun v n => ?_) ((hs i j hj).symm.trans ho)).trans hv
    cases hj <;> simp

end Sys2Proof.Machine
end

section
/-!
What every kind of command may change (O55): the operations whose frame the model's laws leave open, and one lemma for
each part of the hub.
-/

namespace Sys2Proof.Machine

section
variable (h : Hub)

@[simp] theorem Hub.brushLoad_frame (p : Pile) :
    (Hub.brushLoad p h).time = h.time ∧ (Hub.brushLoad p h).table = h.table
    ∧ (Hub.brushLoad p h).scanner = h.scanner ∧ (Hub.brushLoad p h).lines = h.lines
    ∧ (Hub.brushLoad p h).sensors = h.sensors ∧ (Hub.brushLoad p h).limits = h.limits
    ∧ (Hub.brushLoad p h).beacon = h.beacon ∧ (Hub.brushLoad p h).flash = h.flash
    ∧ (Hub.brushLoad p h).odo = h.odo ∧ (Hub.brushLoad p h).permit = h.permit
    ∧ (Hub.brushLoad p h).inReset = h.inReset ∧ (Hub.brushLoad p h).freeDraws = h.freeDraws
    ∧ (Hub.brushLoad p h).store = h.store ∧ (Hub.brushLoad p h).route = h.route
    ∧ (Hub.brushLoad p h).trail = h.trail ∧ (Hub.brushLoad p h).dock = h.dock := by
  unfold Hub.brushLoad
  simp

/-- A damaged frame answers with its refusal, behind the Plan slot's own frame (R183, R184). -/
theorem Hub.frameError_cases (p : Port) (f : List Byte) :
    Hub.frameError p f h = h ∨ Hub.frameError p f h = h.setPlan .replyLost
    ∨ ∃ code q, Hub.frameError p f h = (Hub.clearSlot h).deny q code .frameError ∨
      Hub.frameError p f h = h.deny q code .frameError := by
  unfold Hub.frameError
  cases f with
  | nil => exact .inl rfl
  | cons code rest =>
    dsimp only
    split
    · exact .inl rfl
    · cases p with
      | power => exact .inr (.inr ⟨code, .power, .inr rfl⟩)
      | plan =>
        dsimp only [Hub.handIn]
        unfold Hub.clearSlot
        cases hs : h.plan.slot with
        | empty => exact .inr (.inr ⟨code, .plan, .inr rfl⟩)
        | ready r => exact .inr (.inr ⟨code, .plan, .inl rfl⟩)
        | inService v => exact .inr (.inl rfl)

@[simp] theorem Hub.frameError_frame (p : Port) (f : List Byte) :
    (Hub.frameError p f h).time = h.time ∧ (Hub.frameError p f h).table = h.table
    ∧ (Hub.frameError p f h).scanner = h.scanner ∧ (Hub.frameError p f h).lines = h.lines
    ∧ (Hub.frameError p f h).sensors = h.sensors ∧ (Hub.frameError p f h).limits = h.limits
    ∧ (Hub.frameError p f h).beacon = h.beacon ∧ (Hub.frameError p f h).flash = h.flash
    ∧ (Hub.frameError p f h).odo = h.odo ∧ (Hub.frameError p f h).permit = h.permit
    ∧ (Hub.frameError p f h).inReset = h.inReset ∧ (Hub.frameError p f h).freeDraws = h.freeDraws
    ∧ (Hub.frameError p f h).store = h.store ∧ (Hub.frameError p f h).dock = h.dock
    ∧ (Hub.frameError p f h).trail = h.trail ∧ (Hub.frameError p f h).queue = h.queue
    ∧ (Hub.frameError p f h).updater = h.updater ∧ (Hub.frameError p f h).drive = h.drive
    ∧ (Hub.frameError p f h).route = h.route := by
  obtain he | he | ⟨code, q, he | he⟩ := h.frameError_cases p f <;> simp [he]

@[simp] theorem Hub.warmRestart_frame :
    (Hub.warmRestart h).time = h.time ∧ (Hub.warmRestart h).table = h.table
    ∧ (Hub.warmRestart h).scanner.averaged = h.scanner.averaged ∧ (Hub.warmRestart h).lines = h.lines
    ∧ (Hub.warmRestart h).sensors = h.sensors ∧ (Hub.warmRestart h).limits = h.limits
    ∧ (Hub.warmRestart h).beacon = h.beacon ∧ (Hub.warmRestart h).odo.x = h.odo.x
    ∧ (Hub.warmRestart h).odo.y = h.odo.y ∧ (Hub.warmRestart h).odo.heading = h.odo.heading
    ∧ (Hub.warmRestart h).inReset = h.inReset := by
  unfold Hub.warmRestart
  simp

/-- A busy wait ends with the operation, reads again, or goes on (R169). -/
theorem Hub.busyWait_cases (first : Option Nat) (busy : Bool) (ready : Hub → Hub) (again : Nat → Hub → Hub) :
    Hub.busyWait first busy ready again h = h.cutMarker.endStore .flashTimeout false
    ∨ (∃ n, Hub.busyWait first busy ready again h = Hub.flashSend [.readStatus] (again n h))
    ∨ Hub.busyWait first busy ready again h = ready h.flashDone := by
  unfold Hub.busyWait
  dsimp only
  split
  · split
    · exact .inl rfl
    · exact .inr (.inl ⟨_, rfl⟩)
  · exact .inr (.inr rfl)

/-- A status read ends the operation at its time limit, reads again, goes on with the save or the load, or is none of
its business (R169). -/
theorem Hub.flashStatus_cases (busy : Bool) :
    Hub.flashStatus busy h = h
    ∨ Hub.flashStatus busy h = h.cutMarker.endStore .flashTimeout false
    ∨ (∃ op, h.store.phase = .save op ∧
        ((∃ n, Hub.flashStatus busy h = Hub.flashSend [.readStatus] (h.setSave { op with waitFrom := some n }))
        ∨ Hub.flashStatus busy h = h.flashDone.saveReady { op with waitFrom := none }))
    ∨ ∃ op, h.store.phase = .load op ∧ op.step = .opening ∧
        ((∃ n, Hub.flashStatus busy h = Hub.flashSend [.readStatus] (h.setLoad { op with waitFrom := some n }))
        ∨ Hub.flashStatus busy h
            = Hub.flashSend [.read 0] (h.flashDone.setLoad { op with step := .header, waitFrom := none })) := by
  unfold Hub.flashStatus
  cases hp : h.store.phase with
  | idle => exact .inl rfl
  | save op =>
    dsimp only
    split
    · obtain he | ⟨n, he⟩ | he := h.busyWait_cases op.waitFrom busy (Hub.saveReady { op with waitFrom := none })
        fun n => Hub.setSave { op with waitFrom := some n }
      · exact .inr (.inl he)
      · exact .inr (.inr (.inl ⟨op, rfl, .inl ⟨n, he⟩⟩))
      · exact .inr (.inr (.inl ⟨op, rfl, .inr he⟩))
    · exact .inl rfl
  | load op =>
    dsimp only
    split
    · next ho =>
      obtain he | ⟨n, he⟩ | he := h.busyWait_cases op.waitFrom busy
        (fun h => Hub.flashSend [.read 0] (h.setLoad { op with step := .header, waitFrom := none }))
        fun n => Hub.setLoad { op with waitFrom := some n }
      · exact .inr (.inl he)
      · exact .inr (.inr (.inr ⟨op, rfl, ho, .inl ⟨n, he⟩⟩))
      · exact .inr (.inr (.inr ⟨op, rfl, ho, .inr he⟩))
    · exact .inl rfl

@[simp] theorem Hub.flashStatus_frame (busy : Bool) :
    (Hub.flashStatus busy h).time = h.time ∧ (Hub.flashStatus busy h).table = h.table
    ∧ (Hub.flashStatus busy h).scanner = h.scanner ∧ (Hub.flashStatus busy h).lines = h.lines
    ∧ (Hub.flashStatus busy h).sensors = h.sensors ∧ (Hub.flashStatus busy h).limits = h.limits
    ∧ (Hub.flashStatus busy h).beacon = h.beacon ∧ (Hub.flashStatus busy h).plan = h.plan
    ∧ (Hub.flashStatus busy h).power = h.power ∧ (Hub.flashStatus busy h).load = h.load
    ∧ (Hub.flashStatus busy h).inReset = h.inReset ∧ (Hub.flashStatus busy h).drive = h.drive
    ∧ (Hub.flashStatus busy h).permit.holds = h.permit.holds ∧ (Hub.flashStatus busy h).odo.x = h.odo.x
    ∧ (Hub.flashStatus busy h).odo.y = h.odo.y ∧ (Hub.flashStatus busy h).odo.heading = h.odo.heading := by
  obtain he | he | ⟨op, -, ⟨n, he⟩ | he⟩ | ⟨op, -, -, ⟨n, he⟩ | he⟩ := h.flashStatus_cases busy <;> simp [he]

/-! ## What sending on the flash link leaves of the flash -/

/-- Only an erase changes the flash when it is sent (R172; log 20). -/
theorem Hub.flashSend_flash {l : List FlashCommand} (hl : ∀ a, .sectorErase a ∉ l) :
    (Hub.flashSend l h).flash = h.flash := by
  unfold Hub.flashSend
  dsimp only
  induction l generalizing h with
  | nil => rfl
  | cons c l ih =>
    refine (ih (h.flashCommand c) fun a ha => hl a (List.mem_cons_of_mem c ha)).trans ?_
    cases c with
    | sectorErase a => exact absurd (List.mem_cons_self ..) (hl a)
    | _ => rfl

@[simp] theorem Hub.mapSave_flash (b : List Byte) : (Hub.mapSave b h).flash = h.flash := by
  unfold Hub.mapSave
  dsimp only
  split
  · simp
  · split <;> simp [Hub.flashSend_flash]

@[simp] theorem Hub.mapLoad_flash (b : List Byte) : (Hub.mapLoad b h).flash = h.flash := by
  unfold Hub.mapLoad
  dsimp only
  repeat' split
  all_goals simp [Hub.flashSend_flash]

@[simp] theorem Hub.programPage_flash (k : Option Nat) (o : SaveOp) : (Hub.programPage k o h).flash = h.flash := by
  unfold Hub.programPage
  simp [Hub.flashSend_flash]

@[simp] theorem Hub.programHeader_flash (o : SaveOp) : (Hub.programHeader o h).flash = h.flash := by
  unfold Hub.programHeader
  simp [Hub.flashSend_flash]

@[simp] theorem Hub.saveNext_flash (o : SaveOp) : (Hub.saveNext o h).flash = h.flash := by
  unfold Hub.saveNext
  split
  · simp
  · split <;> simp

@[simp] theorem Hub.saveGrant_flash : (Hub.saveGrant h).flash = h.flash := by
  unfold Hub.saveGrant
  split
  · split
    · dsimp only
      split <;> simp
    · rfl
  · rfl

@[simp] theorem Hub.fetchEntry_flash (o : LoadOp) (i : Nat) : (Hub.fetchEntry o i h).flash = h.flash := by
  unfold Hub.fetchEntry
  split <;> simp [Hub.flashSend_flash]

@[simp] theorem Hub.removeNext_flash (o : LoadOp) (i : Nat) : (Hub.removeNext o i h).flash = h.flash := by
  unfold Hub.removeNext
  split <;> simp

@[simp] theorem Hub.judgeEntry_flash (o : LoadOp) (i : Nat) : (Hub.judgeEntry o i h).flash = h.flash := by
  unfold Hub.judgeEntry
  split
  · simp [Hub.flashSend_flash]
  · split <;> simp

@[simp] theorem Hub.flashRead_flash (a : FlashAnswer) : (Hub.flashRead a h).flash = h.flash := by
  unfold Hub.flashRead Hub.loadRead
  repeat' split
  all_goals simp

@[simp] theorem Hub.removalGrant_flash : (Hub.removalGrant h).flash = h.flash := by
  unfold Hub.removalGrant
  repeat' split
  all_goals simp

@[simp] theorem Hub.insertGrant_flash : (Hub.insertGrant h).flash = h.flash := by
  unfold Hub.insertGrant
  repeat' split
  all_goals simp

@[simp] theorem Hub.clearCounters_resting : (Hub.clearCounters h).table.resting = h.table.resting := rfl

end

/-! ## Each part of the hub, and the commands whose action may change it -/

section
variable {i : Instr} (h : Hub)

theorem action_inReset (hc : NotCold i) :
    (action i h).inReset = h.inReset := by
  cases i with
  | coldStart v n => exact absurd rfl (hc v n).1
  | coldStartResetEnd v n => exact absurd rfl (hc v n).2
  | planOtherCommand | counters => dsimp only [action]; split <;> simp
  | _ => simp [action]

/-- What is sent to the flash may change it, or draw bytes from it. -/
def flashWorks : Instr → Bool
  | .flashStatusRead _ | .warmRestart _ => true
  | _ => false

theorem action_freeDraws (hc : NotCold i) (hi : flashWorks i = false) :
    (action i h).freeDraws = h.freeDraws := by
  cases i with
  | coldStart v n => exact absurd rfl (hc v n).1
  | coldStartResetEnd v n => exact absurd rfl (hc v n).2
  | flashStatusRead | warmRestart => cases hi
  | planOtherCommand | counters => dsimp only [action]; split <;> simp
  | _ => simp [action]

theorem action_flash (hc : NotCold i) (hi : flashWorks i = false) :
    (action i h).flash = h.flash := by
  cases i with
  | coldStart v n => exact absurd rfl (hc v n).1
  | coldStartResetEnd v n => exact absurd rfl (hc v n).2
  | flashStatusRead | warmRestart => cases hi
  | planOtherCommand | counters => dsimp only [action]; split <;> simp
  | _ => simp [action]

/-- The end of a millisecond. -/
def timeWorks : Instr → Bool
  | .millisecondEnd => true
  | _ => false

theorem action_time (hc : NotCold i) (hi : timeWorks i = false) :
    (action i h).time = h.time := by
  cases i with
  | coldStart v n => exact absurd rfl (hc v n).1
  | coldStartResetEnd v n => exact absurd rfl (hc v n).2
  | millisecondEnd => cases hi
  | planOtherCommand | counters => dsimp only [action]; split <;> simp
  | _ => simp [action]

/-- The grants that may write the table. -/
def tableWrites : Instr → Bool
  | .applyItem | .evict | .mapPutWrite | .mapDeleteWrite | .mapConfirmWrite | .mapClearClaim | .loadRemovalClaim
    | .loadInsertWrite => true
  | _ => false

theorem action_tableSlots (hc : NotCold i) (hi : tableWrites i = false) :
    (action i h).table.slots = h.table.slots := by
  cases i with
  | coldStart v n => exact absurd rfl (hc v n).1
  | coldStartResetEnd v n => exact absurd rfl (hc v n).2
  | applyItem | evict | mapPutWrite | mapDeleteWrite | mapConfirmWrite | mapClearClaim | loadRemovalClaim |
  loadInsertWrite => cases hi
  | planOtherCommand | counters => dsimp only [action]; split <;> simp
  | _ => simp [action]

/-- The grants of the arbiter and the lookups. -/
def tableWorks : Instr → Bool
  | .checkSweepClaim | .recheckClaim | .applyItem | .plannedRugRead | .evictionSearchRead | .evict |
    .centreTileLookupDone | .passOverLookupDone _ | .mapPutWrite | .mapDeleteWrite | .mapConfirmWrite |
    .mapQueryRead | .mapClearClaim | .saveSlotRead | .loadRemovalClaim | .loadInsertWrite => true
  | _ => false

theorem action_tableResting (hc : NotCold i) (hi : tableWorks i = false) :
    (action i h).table.resting = h.table.resting := by
  cases i with
  | coldStart v n => exact absurd rfl (hc v n).1
  | coldStartResetEnd v n => exact absurd rfl (hc v n).2
  | checkSweepClaim | recheckClaim | applyItem | plannedRugRead | evictionSearchRead | evict |
  centreTileLookupDone | passOverLookupDone | mapPutWrite | mapDeleteWrite | mapConfirmWrite | mapQueryRead |
  mapClearClaim | saveSlotRead | loadRemovalClaim | loadInsertWrite => cases hi
  | planOtherCommand | counters => dsimp only [action]; split <;> simp
  | _ => simp [action]

/-- SET_SENSORS. -/
def sensorsWork : Instr → Bool
  | .setSensors _ => true
  | _ => false

theorem action_sensors (hc : NotCold i) (hi : sensorsWork i = false) :
    (action i h).sensors = h.sensors := by
  cases i with
  | coldStart v n => exact absurd rfl (hc v n).1
  | coldStartResetEnd v n => exact absurd rfl (hc v n).2
  | setSensors => cases hi
  | planOtherCommand | counters => dsimp only [action]; split <;> simp
  | _ => simp [action]

/-- SET_LIMITS. -/
def limitsWork : Instr → Bool
  | .setLimits _ => true
  | _ => false

theorem action_limits (hc : NotCold i) (hi : limitsWork i = false) :
    (action i h).limits = h.limits := by
  cases i with
  | coldStart v n => exact absurd rfl (hc v n).1
  | coldStartResetEnd v n => exact absurd rfl (hc v n).2
  | setLimits => cases hi
  | planOtherCommand | counters => dsimp only [action]; split <;> simp
  | _ => simp [action]

/-- The line sample and the line timers. -/
def linesWork : Instr → Bool
  | .lineSample _ | .liftTimerExpiry | .setDownTimerExpiry => true
  | _ => false

theorem action_lines (hc : NotCold i) (hi : linesWork i = false) :
    (action i h).lines = h.lines := by
  cases i with
  | coldStart v n => exact absurd rfl (hc v n).1
  | coldStartResetEnd v n => exact absurd rfl (hc v n).2
  | lineSample | liftTimerExpiry | setDownTimerExpiry => cases hi
  | planOtherCommand | counters => dsimp only [action]; split <;> simp
  | _ => simp [action]

/-- The scan and the line sample. -/
def scansWork : Instr → Bool
  | .scan _ | .lineSample _ => true
  | _ => false

theorem action_scannerAveraged (hc : NotCold i) (hi : scansWork i = false) :
    (action i h).scanner.averaged = h.scanner.averaged := by
  cases i with
  | coldStart v n => exact absurd rfl (hc v n).1
  | coldStartResetEnd v n => exact absurd rfl (hc v n).2
  | scan | lineSample => cases hi
  | planOtherCommand | counters => dsimp only [action]; split <;> simp
  | _ => simp [action]

/-- What the eyes hear, and what the host sets or clears of the beacon. -/
def beaconWorks : Instr → Bool
  | .beaconFrame _ _ | .beaconShadowFrame _ _ | .beaconElement _ _ _ | .sightingFreshnessExpiry _ | .beaconSlot
    _ | .counters _ => true
  | _ => false

theorem action_beacon (hc : NotCold i) (hi : beaconWorks i = false) :
    (action i h).beacon = h.beacon := by
  cases i with
  | coldStart v n => exact absurd rfl (hc v n).1
  | coldStartResetEnd v n => exact absurd rfl (hc v n).2
  | beaconFrame | beaconShadowFrame | beaconElement | sightingFreshnessExpiry | beaconSlot | counters => cases
  hi
  | planOtherCommand => dsimp only [action]; split <;> simp
  | _ => simp [action]

/-- What may move the pose. -/
def poseWorks : Instr → Bool
  | .ask _ | .setPose _ | .docked _ => true
  | _ => false

theorem action_odoX (hc : NotCold i) (hi : poseWorks i = false) :
    (action i h).odo.x = h.odo.x := by
  cases i with
  | coldStart v n => exact absurd rfl (hc v n).1
  | coldStartResetEnd v n => exact absurd rfl (hc v n).2
  | ask | setPose | docked => cases hi
  | planOtherCommand | counters => dsimp only [action]; split <;> simp
  | _ => simp [action]

theorem action_odoY (hc : NotCold i) (hi : poseWorks i = false) :
    (action i h).odo.y = h.odo.y := by
  cases i with
  | coldStart v n => exact absurd rfl (hc v n).1
  | coldStartResetEnd v n => exact absurd rfl (hc v n).2
  | ask | setPose | docked => cases hi
  | planOtherCommand | counters => dsimp only [action]; split <;> simp
  | _ => simp [action]

theorem action_odoHeading (hc : NotCold i) (hi : poseWorks i = false) :
    (action i h).odo.heading = h.odo.heading := by
  cases i with
  | coldStart v n => exact absurd rfl (hc v n).1
  | coldStartResetEnd v n => exact absurd rfl (hc v n).2
  | ask | setPose | docked => cases hi
  | planOtherCommand | counters => dsimp only [action]; split <;> simp
  | _ => simp [action]

/-- What may set the active floor. -/
def floorWorks : Instr → Bool
  | .setPose _ | .setFloor _ | .warmRestart _ | .flashStatusRead _ | .flashReadDone _ | .loadRemovalClaim |
    .loadInsertWrite => true
  | _ => false

theorem action_odoFloor (hc : NotCold i) (hi : floorWorks i = false) :
    (action i h).odo.floor = h.odo.floor := by
  cases i with
  | coldStart v n => exact absurd rfl (hc v n).1
  | coldStartResetEnd v n => exact absurd rfl (hc v n).2
  | setPose | setFloor | warmRestart | flashStatusRead | flashReadDone | loadRemovalClaim | loadInsertWrite =>
  cases hi
  | planOtherCommand | counters => dsimp only [action]; split <;> simp
  | _ => simp [action]

/-- What may place or release a hold. -/
def holdsWork : Instr → Bool
  | .leaseTimerExpiry | .hold _ _ | .release _ _ | .routeAppend _ | .warmRestart _ | .ask _ | .setPose _ |
    .docked _ => true
  | _ => false

theorem action_permitHolds (hc : NotCold i) (hi : holdsWork i = false) :
    (action i h).permit.holds = h.permit.holds := by
  cases i with
  | coldStart v n => exact absurd rfl (hc v n).1
  | coldStartResetEnd v n => exact absurd rfl (hc v n).2
  | leaseTimerExpiry | hold | release | routeAppend | warmRestart | ask | setPose | docked => cases hi
  | planOtherCommand | counters => dsimp only [action]; split <;> simp
  | _ => simp [action]

end

/-! ## What surrounds the actions -/

theorem steady_inReset : Steady fun h => h.inReset := by constructor <;> intros <;> simp

theorem steady_freeDraws : Steady fun h => h.freeDraws := by constructor <;> intros <;> simp

theorem steady_time : Steady fun h => h.time := by constructor <;> intros <;> simp

theorem steady_tableSlots : Steady fun h => h.table.slots := by constructor <;> intros <;> simp

theorem steady_sensors : Steady fun h => h.sensors := by constructor <;> intros <;> simp

theorem steady_limits : Steady fun h => h.limits := by constructor <;> intros <;> simp

theorem steady_lines : Steady fun h => h.lines := by constructor <;> intros <;> simp

theorem steady_scannerAveraged : Steady fun h => h.scanner.averaged := by constructor <;> intros <;> simp

theorem steady_beacon : Steady fun h => h.beacon := by constructor <;> intros <;> simp

theorem steady_flash : Steady fun h => h.flash := by constructor <;> intros <;> simp

theorem steady_odoX : Steady fun h => h.odo.x := by constructor <;> intros <;> simp

theorem steady_odoY : Steady fun h => h.odo.y := by constructor <;> intros <;> simp

theorem steady_odoHeading : Steady fun h => h.odo.heading := by constructor <;> intros <;> simp

theorem steady_odoFloor : Steady fun h => h.odo.floor := by constructor <;> intros <;> simp

theorem steady_permitHolds : Steady fun h => h.permit.holds := by constructor <;> intros <;> simp

/-- The arbiter's memory of its last grant is changed by grants and lookups alone: `afterGrant` notes a grant itself,
so the note is not steady, but every grantee is among its owners. -/
theorem exec_resting {i : Instr} (hc : NotCold i) {s t : State} (ht : exec i s = .next t)
    (hn : t.hub.table.resting ≠ s.hub.table.resting) : tableWorks i = true := by
  by_contra ho
  rw [Bool.not_eq_true] at ho
  refine hn ?_
  obtain ⟨-, hr⟩ := exec_reaches ht
  generalize t.hub = g at hr
  cases hr with
  | same => rfl
  | acted => exact action_tableResting _ hc ho
  | heard hj rx =>
    refine action_tableResting _ (fun v n => ?_) ?_
    · cases hj <;> simp
    · cases hj <;> rfl
  | granted hi =>
    cases i with
    | checkSweepClaim | recheckClaim | applyItem | plannedRugRead | evictionSearchRead | evict | mapPutWrite
    | mapDeleteWrite | mapConfirmWrite | mapQueryRead | mapClearClaim | saveSlotRead | loadRemovalClaim
    | loadInsertWrite => cases ho
    | _ => cases hi
  | taken p => exact (action_tableResting _ hc ho).trans (by simp)
  | denied p code => simp
  | lost => simp

/-! ## The statement's own words for the owners -/

section
variable {i : Instr}

theorem exists_of_flashWorks (h : flashWorks i = true) : ∃ w b, i = .flashStatusRead w ∨ i = .warmRestart b := by
  cases i with
  | flashStatusRead w => exact ⟨w, [], .inl rfl⟩
  | warmRestart b => exact ⟨0, b, .inr rfl⟩
  | _ => cases h

theorem exists_of_poseWorks (h : poseWorks i = true) : ∃ a b, i = .ask a ∨ i = .setPose b ∨ i = .docked b := by
  cases i with
  | ask a => exact ⟨a, [], .inl rfl⟩
  | setPose b => exact ⟨⟨0, 0, 0, 0, 0, 0, 0⟩, b, .inr (.inl rfl)⟩
  | docked b => exact ⟨⟨0, 0, 0, 0, 0, 0, 0⟩, b, .inr (.inr rfl)⟩
  | _ => cases h

theorem mem_of_tableWrites (h : tableWrites i = true) :
    i ∈ [.applyItem, .evict, .mapPutWrite, .mapDeleteWrite, .mapConfirmWrite, .mapClearClaim, .loadRemovalClaim,
      .loadInsertWrite] := by
  cases i with
  | applyItem | evict | mapPutWrite | mapDeleteWrite | mapConfirmWrite | mapClearClaim | loadRemovalClaim
  | loadInsertWrite => simp
  | _ => cases h

theorem mem_of_tableWorks (h : tableWorks i = true) :
    i ∈ [.checkSweepClaim, .recheckClaim, .applyItem, .plannedRugRead, .evictionSearchRead, .evict,
        .centreTileLookupDone, .mapPutWrite, .mapDeleteWrite, .mapConfirmWrite, .mapQueryRead, .mapClearClaim,
        .saveSlotRead, .loadRemovalClaim, .loadInsertWrite]
      ∨ ∃ side, i = .passOverLookupDone side := by
  cases i with
  | passOverLookupDone side => exact .inr ⟨side, rfl⟩
  | checkSweepClaim | recheckClaim | applyItem | plannedRugRead | evictionSearchRead | evict | centreTileLookupDone
  | mapPutWrite | mapDeleteWrite | mapConfirmWrite | mapQueryRead | mapClearClaim | saveSlotRead | loadRemovalClaim
  | loadInsertWrite => simp
  | _ => cases h

theorem eq_of_timeWorks (h : timeWorks i = true) : i = .millisecondEnd := by
  cases i with
  | millisecondEnd => rfl
  | _ => cases h

theorem exists_of_sensorsWork (h : sensorsWork i = true) : ∃ b, i = .setSensors b := by
  cases i with
  | setSensors b => exact ⟨b, rfl⟩
  | _ => cases h

theorem exists_of_limitsWork (h : limitsWork i = true) : ∃ b, i = .setLimits b := by
  cases i with
  | setLimits b => exact ⟨b, rfl⟩
  | _ => cases h

theorem exists_of_linesWork (h : linesWork i = true) :
    i = .liftTimerExpiry ∨ i = .setDownTimerExpiry ∨ ∃ g, i = .lineSample g := by
  cases i with
  | liftTimerExpiry | setDownTimerExpiry | lineSample g => simp
  | _ => cases h

theorem exists_of_scansWork (h : scansWork i = true) : (∃ g, i = .scan g) ∨ ∃ g, i = .lineSample g := by
  cases i with
  | scan g | lineSample g => simp
  | _ => cases h

theorem exists_of_beaconWorks (h : beaconWorks i = true) :
    ∃ e p l n b, i = .beaconFrame e p ∨ i = .beaconShadowFrame e p ∨ i = .beaconElement e l n
      ∨ i = .sightingFreshnessExpiry e ∨ i = .beaconSlot b ∨ i = .counters b := by
  cases i with
  | beaconFrame e p => exact ⟨e, p, false, 0, [], by simp⟩
  | beaconShadowFrame e p => exact ⟨e, p, false, 0, [], by simp⟩
  | beaconElement e l n => exact ⟨e, 0, l, n, [], by simp⟩
  | sightingFreshnessExpiry e => exact ⟨e, 0, false, 0, [], by simp⟩
  | beaconSlot b => exact ⟨.left, 0, false, 0, b, by simp⟩
  | counters b => exact ⟨.left, 0, false, 0, b, by simp⟩
  | _ => cases h

theorem exists_of_floorWorks (h : floorWorks i = true) :
    i = .loadRemovalClaim ∨ i = .loadInsertWrite
      ∨ ∃ b w a, i = .setPose b ∨ i = .setFloor b ∨ i = .warmRestart b ∨ i = .flashStatusRead w
        ∨ i = .flashReadDone a := by
  cases i with
  | loadRemovalClaim => exact .inl rfl
  | loadInsertWrite => exact .inr (.inl rfl)
  | setPose b => exact .inr (.inr ⟨b, 0, .content, by simp⟩)
  | setFloor b => exact .inr (.inr ⟨b, 0, .content, by simp⟩)
  | warmRestart b => exact .inr (.inr ⟨b, 0, .content, by simp⟩)
  | flashStatusRead w => exact .inr (.inr ⟨[], w, .content, by simp⟩)
  | flashReadDone a => exact .inr (.inr ⟨[], 0, a, by simp⟩)
  | _ => cases h

theorem exists_of_holdsWork (h : holdsWork i = true) :
    i = .leaseTimerExpiry
      ∨ ∃ p a b, i = .hold p b ∨ i = .release p b ∨ i = .routeAppend b ∨ i = .warmRestart b ∨ i = .ask a
        ∨ i = .setPose b ∨ i = .docked b := by
  cases i with
  | leaseTimerExpiry => exact .inl rfl
  | hold p b => exact .inr ⟨p, ⟨0, 0, 0, 0, 0, 0, 0⟩, b, by simp⟩
  | release p b => exact .inr ⟨p, ⟨0, 0, 0, 0, 0, 0, 0⟩, b, by simp⟩
  | routeAppend b => exact .inr ⟨.plan, ⟨0, 0, 0, 0, 0, 0, 0⟩, b, by simp⟩
  | warmRestart b => exact .inr ⟨.plan, ⟨0, 0, 0, 0, 0, 0, 0⟩, b, by simp⟩
  | ask a => exact .inr ⟨.plan, a, [], by simp⟩
  | setPose b => exact .inr ⟨.plan, ⟨0, 0, 0, 0, 0, 0, 0⟩, b, by simp⟩
  | docked b => exact .inr ⟨.plan, ⟨0, 0, 0, 0, 0, 0, 0⟩, b, by simp⟩
  | _ => cases h

end

/-- Settles O55: every command reaches one of the hubs of `Hub.Reaches`; its action leaves each part to the owners of
that part, and so does what surrounds it. -/
theorem commandsChangeOnlyTheirBlocks : Obligations.CommandsChangeOnlyTheirBlocks := by
  intro s t i ht hc
  refine ⟨(exec_reaches ht).1, ?_, ?_, ?_, ?_, ?_, ?_, ?_, ?_, ?_, ?_, ?_, ?_, ?_, ?_⟩
  · by_contra hn
    exact Bool.noConfusion (exec_changes (owns := fun _ => false) steady_inReset (fun _ _ _ => rfl)
      (fun _ h hj _ => action_inReset h hj) hc ht hn)
  · exact fun hn => exists_of_flashWorks
      (exec_changes steady_freeDraws (by rintro _ _ ⟨⟩ <;> rfl) (fun _ h => action_freeDraws h) hc ht hn)
  · exact fun hn => eq_of_timeWorks
      (exec_changes steady_time (by rintro _ _ ⟨⟩ <;> rfl) (fun _ h => action_time h) hc ht hn)
  · exact fun hn => mem_of_tableWrites
      (exec_changes steady_tableSlots (by rintro _ _ ⟨⟩ <;> rfl) (fun _ h => action_tableSlots h) hc ht hn)
  · exact fun hn => mem_of_tableWorks (exec_resting hc ht hn)
  · exact fun hn => exists_of_sensorsWork
      (exec_changes steady_sensors (by rintro _ _ ⟨⟩ <;> rfl) (fun _ h => action_sensors h) hc ht hn)
  · exact fun hn => exists_of_limitsWork
      (exec_changes steady_limits (by rintro _ _ ⟨⟩ <;> rfl) (fun _ h => action_limits h) hc ht hn)
  · exact fun hn => exists_of_linesWork
      (exec_changes steady_lines (by rintro _ _ ⟨⟩ <;> rfl) (fun _ h => action_lines h) hc ht hn)
  · exact fun hn => exists_of_scansWork
      (exec_changes steady_scannerAveraged (by rintro _ _ ⟨⟩ <;> rfl) (fun _ h => action_scannerAveraged h) hc ht hn)
  · exact fun hn => exists_of_beaconWorks
      (exec_changes steady_beacon (by rintro _ _ ⟨⟩ <;> rfl) (fun _ h => action_beacon h) hc ht hn)
  · exact fun hn => exists_of_flashWorks
      (exec_changes steady_flash (by rintro _ _ ⟨⟩ <;> rfl) (fun _ h => action_flash h) hc ht hn)
  · rintro (hn | hn | hn)
    · exact exists_of_poseWorks
        (exec_changes steady_odoX (by rintro _ _ ⟨⟩ <;> rfl) (fun _ h => action_odoX h) hc ht hn)
    · exact exists_of_poseWorks
        (exec_changes steady_odoY (by rintro _ _ ⟨⟩ <;> rfl) (fun _ h => action_odoY h) hc ht hn)
    · exact exists_of_poseWorks
        (exec_changes steady_odoHeading (by rintro _ _ ⟨⟩ <;> rfl) (fun _ h => action_odoHeading h) hc ht hn)
  · exact fun hn => exists_of_floorWorks
      (exec_changes steady_odoFloor (by rintro _ _ ⟨⟩ <;> rfl) (fun _ h => action_odoFloor h) hc ht hn)
  · exact fun hn => exists_of_holdsWork
      (exec_changes steady_permitHolds (by rintro _ _ ⟨⟩ <;> rfl) (fun _ h => action_permitHolds h) hc ht hn)

end Sys2Proof.Machine
end

section
/-!
Every step keeps the law of motion (O56): the law is the permit's shape, and that a permit or a check in flight needs
the conditions of R86; each operation of the Permit Controller keeps both.
-/

namespace Sys2Proof.Machine

/-! ## The law in two parts -/

/-- The part of the law that speaks of the Permit Controller alone. -/
def PermitCtl.shape (p : PermitCtl) : Prop :=
  p.activeMatches ∧ p.checkMatches
  ∧ (p.recheck.isSome = true ∨ p.recheckPending = true → p.active.isSome = true)
  ∧ p.expiry.isSome = p.active.isSome ∧ (p.stopTimer.isSome = true ↔ p.state = .stopping)

/-- No permit is active and no check in flight. -/
def PermitCtl.quiet (p : PermitCtl) : Prop := p.active = none ∧ p.check = none

/-- The law: the permit's shape, and nothing active or in flight without the conditions of R86. -/
structure Hub.Lawful (h : Hub) : Prop where
  shape : h.permit.shape
  moves : h.permit.quiet ∨ h.mayMove

theorem Hub.permitLaw_iff (h : Hub) : h.permitLaw ↔ h.Lawful := by
  constructor
  · rintro ⟨hact, hchk, hmay, hrest⟩
    refine ⟨⟨hact, hchk, hrest⟩, ?_⟩
    by_cases hq : h.permit.active.isSome = true ∨ h.permit.check.isSome = true
    · exact .inr (hmay hq)
    · rw [not_or, Option.not_isSome_iff_eq_none, Option.not_isSome_iff_eq_none] at hq
      exact .inl hq
  · rintro ⟨⟨hact, hchk, hrest⟩, hq⟩
    refine ⟨hact, hchk, fun hsome => ?_, hrest⟩
    refine hq.resolve_left fun ⟨hna, hnc⟩ => ?_
    rw [hna, hnc] at hsome
    exact hsome.elim nofun nofun

/-- A permit with nothing active, in flight or running has the shape, outside MOVING and PROBING. -/
theorem PermitCtl.shape_of_none {p : PermitCtl} (ha : p.active = none) (hc : p.check = none) (hr : p.recheck = none)
    (hp : p.recheckPending = false) (he : p.expiry = none) (hs : p.state ≠ .moving ∧ p.state ≠ .probing)
    (ht : p.stopTimer.isSome = true ↔ p.state = .stopping) : p.shape := by
  refine ⟨⟨fun _ => hs, ?_⟩, ?_, ?_, ?_, ht⟩
  · rw [ha]; exact nofun
  · intro hsome; rw [hc] at hsome; cases hsome
  · rw [hr, hp]; exact fun h => h.elim nofun nofun
  · rw [he, ha]; rfl

/-- The permit without the note that start-up has ended, of which the law does not speak. -/
def Hub.motion (h : Hub) : PermitCtl := { h.permit with startUpEnded := true }

theorem Hub.motion_shape (h : Hub) : h.motion.shape ↔ h.permit.shape := Iff.rfl
theorem Hub.motion_quiet (h : Hub) : h.motion.quiet ↔ h.permit.quiet := Iff.rfl
theorem Hub.motion_holds (h : Hub) : h.motion.holds = h.permit.holds := rfl

/-- The law speaks of the permit, the pose being TRACKING and the Map Store being in LOAD alone; gaining the first and
losing the second does no harm. -/
theorem Hub.Lawful.of_motion {g h : Hub} (hl : h.Lawful) (hm : g.motion = h.motion)
    (ht : h.tracking = true → g.tracking = true) (hs : h.loading = false → g.loading = false) : g.Lawful := by
  obtain ⟨hsh, hq⟩ := hl
  rw [← Hub.motion_shape] at hsh
  refine ⟨g.motion_shape.mp (hm ▸ hsh), hq.imp (fun q => g.motion_quiet.mp (hm ▸ h.motion_quiet.mpr q)) ?_⟩
  rintro ⟨t, e, l⟩
  exact ⟨ht t, by rw [← Hub.motion_holds, hm]; exact e, hs l⟩

/-- A hub with the same permit, pose and store keeps the law. -/
theorem Hub.Lawful.same {g h : Hub} (hl : h.Lawful) (hp : g.permit = h.permit) (ho : g.odo.pose = h.odo.pose)
    (hs : g.store.phase = h.store.phase) : g.Lawful :=
  hl.of_motion (by simp only [Hub.motion, hp]) (by simp only [Hub.tracking, ho, imp_self])
    (by simp only [Hub.loading, hs, imp_self])

theorem Hub.Lawful.of_quiet {h : Hub} (hs : h.permit.shape) (hq : h.permit.quiet) : h.Lawful :=
  ⟨hs, .inl hq⟩

theorem PermitCtl.shape.state_of_active {p : PermitCtl} (hs : p.shape) (ha : p.active.isSome = true) :
    p.state = .moving ∨ p.state = .probing := by
  obtain ⟨r, hr⟩ := Option.isSome_iff_exists.mp ha
  exact (hs.1.2 r hr).imp And.left And.left

theorem PermitCtl.shape.active_of_state {p : PermitCtl} (hs : p.shape) (hm : p.state = .moving ∨ p.state = .probing) :
    p.active.isSome = true := by
  by_contra hn
  rw [Option.not_isSome_iff_eq_none] at hn
  obtain ⟨h1, h2⟩ := hs.1.1 hn
  exact hm.elim h1 h2

theorem PermitCtl.shape.quiet_at_rest {p : PermitCtl} (hs : p.shape) (hr : p.state = .stopping ∨ p.state = .inhibited) :
    p.quiet := by
  constructor
  · by_contra hn
    have := hs.state_of_active (Option.isSome_iff_ne_none.mpr hn)
    grind
  · by_contra hn
    have := hs.2.1 (Option.isSome_iff_ne_none.mpr hn)
    grind

theorem PermitCtl.shape.none_in_still {p : PermitCtl} (hs : p.shape) (hr : p.state = .still) : p.active = none := by
  by_contra hn
  have := hs.state_of_active (Option.isSome_iff_ne_none.mpr hn)
  grind

/-! ## The parts of the Permit Controller -/

theorem Hub.Lawful.ite {c : Prop} [Decidable c] {g h : Hub} (hg : g.Lawful) (hh : h.Lawful) :
    (if c then g else h).Lawful := by
  split
  · exact hg
  · exact hh

/-- Dropping a check keeps the shape. -/
theorem PermitCtl.shape.dropCheck {p : PermitCtl} (hs : p.shape) : PermitCtl.shape { p with check := none } :=
  ⟨hs.1, fun h => by simp at h, hs.2.2⟩

theorem abandonCheck_law {h : Hub} (hl : h.Lawful) {r : Reason} : (h.abandonCheck r).Lawful := by
  constructor
  · rw [Hub.abandonCheck_permit]
    exact hl.shape.dropCheck
  · rw [Hub.abandonCheck_permit]
    refine hl.moves.imp (fun q => ⟨q.1, rfl⟩) ?_
    simp [Hub.mayMove, Hub.tracking, Hub.loading]

theorem markStale_law {h : Hub} (hl : h.Lawful) : h.markStale.Lawful := by
  unfold Hub.markStale
  cases hc : h.permit.check with
  | none => exact hl
  | some c =>
    refine .ite (abandonCheck_law hl) ?_
    obtain ⟨⟨hact, hchk, hrest⟩, hq⟩ := hl
    refine ⟨⟨hact, fun _ => hchk (by rw [hc]; rfl), hrest⟩, hq.imp (fun q => ?_) id⟩
    rw [q.2] at hc
    cases hc

/-- The permit the stop sequence leaves has the shape, whatever it was before. -/
theorem stopSequence_shape (h : Hub) (c : StopCause) : (h.stopSequence c).permit.shape := by
  rw [Hub.stopSequence_permit]
  exact PermitCtl.shape_of_none rfl rfl rfl rfl rfl ⟨nofun, nofun⟩ ⟨fun _ => rfl, fun _ => rfl⟩

theorem stopSequence_quiet (h : Hub) (c : StopCause) : (h.stopSequence c).permit.quiet := by
  rw [Hub.stopSequence_permit]
  exact ⟨rfl, rfl⟩

theorem linkTrigger_shape {h : Hub} (hs : h.permit.shape) : h.linkTrigger.permit.shape := by
  rw [Hub.linkTrigger_permit]
  cases hst : h.permit.state with
  | inhibited => exact hs
  | still =>
    have ha := hs.none_in_still hst
    obtain ⟨-, -, hrec, hexp, hstop⟩ := hs
    refine PermitCtl.shape_of_none ha rfl ?_ ?_ ?_ ⟨nofun, nofun⟩ ?_ <;> simp_all
  | moving | probing | stopping => exact PermitCtl.shape_of_none rfl rfl rfl rfl rfl ⟨nofun, nofun⟩ ⟨nofun, nofun⟩

theorem linkTrigger_quiet {h : Hub} (hs : h.permit.shape) : h.linkTrigger.permit.quiet := by
  rw [Hub.linkTrigger_permit]
  cases hst : h.permit.state with
  | inhibited => exact hs.quiet_at_rest (.inr hst)
  | still => exact ⟨hs.none_in_still hst, rfl⟩
  | moving | probing | stopping => exact ⟨rfl, rfl⟩

theorem restartTrigger_shape {h : Hub} (hs : h.permit.shape) : h.restartTrigger.permit.shape := by
  rw [Hub.restartTrigger_permit]
  have ht := hs.2.2.2.2
  cases hst : h.permit.state with
  | moving | probing | stopping => exact PermitCtl.shape_of_none rfl rfl rfl rfl rfl ⟨nofun, nofun⟩ ⟨nofun, nofun⟩
  | still | inhibited =>
    refine PermitCtl.shape_of_none rfl rfl rfl rfl rfl ?_ ht
    rw [hst]
    exact ⟨nofun, nofun⟩

theorem restartTrigger_quiet (h : Hub) : h.restartTrigger.permit.quiet := by
  rw [Hub.restartTrigger_permit]
  cases h.permit.state <;> exact ⟨rfl, rfl⟩

/-- The triggers after which no permit is active and no check in flight, whatever was so before. -/
def StopCause.ends : StopCause → Bool
  | .hold | .poseLost | .link | .restart => true
  | _ => false

theorem trigger_shape {h : Hub} (hs : h.permit.shape) (c : StopCause) : (h.trigger c).permit.shape := by
  by_cases hl : c = .link
  · subst hl; exact linkTrigger_shape hs
  by_cases hr : c = .restart
  · subst hr; exact restartTrigger_shape hs
  cases hst : h.permit.state with
  | moving => rw [h.trigger_in_motion c (.inl hst) hl hr]; exact stopSequence_shape h c
  | probing => rw [h.trigger_in_motion c (.inr hst) hl hr]; exact stopSequence_shape h c
  | stopping => rw [h.trigger_at_rest c (.inl hst) hl hr]; exact hs
  | inhibited => rw [h.trigger_at_rest c (.inr hst) hl hr]; exact hs
  | still =>
    have hm : h.markStale.permit.shape := by
      unfold Hub.markStale
      cases hc : h.permit.check with
      | none => exact hs
      | some k =>
        dsimp only
        split
        · rw [Hub.abandonCheck_permit]; exact hs.dropCheck
        · exact ⟨hs.1, fun _ => .inl hst, hs.2.2⟩
    unfold Hub.trigger
    rw [hst]
    cases c with
    | hold | poseLost => rw [Hub.abandonCheck_permit]; exact hs.dropCheck
    | wheelDrop => exact hm
    | link => exact absurd rfl hl
    | restart => exact absurd rfl hr
    | lapsed | cliffSeen | bump | recheck => exact hs

theorem trigger_quiet {h : Hub} (hs : h.permit.shape) {c : StopCause} (he : c.ends = true) :
    (h.trigger c).permit.quiet := by
  by_cases hl : c = .link
  · subst hl; exact linkTrigger_quiet hs
  by_cases hr : c = .restart
  · subst hr; exact restartTrigger_quiet h
  cases hst : h.permit.state with
  | moving => rw [h.trigger_in_motion c (.inl hst) hl hr]; exact stopSequence_quiet h c
  | probing => rw [h.trigger_in_motion c (.inr hst) hl hr]; exact stopSequence_quiet h c
  | stopping => rw [h.trigger_at_rest c (.inl hst) hl hr]; exact hs.quiet_at_rest (.inl hst)
  | inhibited => rw [h.trigger_at_rest c (.inr hst) hl hr]; exact hs.quiet_at_rest (.inr hst)
  | still =>
    unfold Hub.trigger
    rw [hst]
    cases c with
    | hold | poseLost => rw [Hub.abandonCheck_permit]; exact ⟨hs.none_in_still hst, rfl⟩
    | link => exact absurd rfl hl
    | restart => exact absurd rfl hr
    | wheelDrop | lapsed | cliffSeen | bump | recheck => cases he

/-- A trigger that ends the motion restores the law from the shape alone. -/
theorem trigger_law_of_ends {h : Hub} (hs : h.permit.shape) {c : StopCause} (he : c.ends = true) :
    (h.trigger c).Lawful :=
  .of_quiet (trigger_shape hs c) (trigger_quiet hs he)

theorem trigger_law {h : Hub} (hl : h.Lawful) {c : StopCause} : (h.trigger c).Lawful := by
  have hs := hl.shape
  cases he : c.ends with
  | true => exact trigger_law_of_ends hs he
  | false =>
    have hne : c ≠ .link ∧ c ≠ .restart := by constructor <;> rintro rfl <;> cases he
    cases hst : h.permit.state with
    | moving =>
      rw [h.trigger_in_motion c (.inl hst) hne.1 hne.2]
      exact .of_quiet (stopSequence_shape h c) (stopSequence_quiet h c)
    | probing =>
      rw [h.trigger_in_motion c (.inr hst) hne.1 hne.2]
      exact .of_quiet (stopSequence_shape h c) (stopSequence_quiet h c)
    | stopping => rw [h.trigger_at_rest c (.inl hst) hne.1 hne.2]; exact hl
    | inhibited => rw [h.trigger_at_rest c (.inr hst) hne.1 hne.2]; exact hl
    | still =>
      unfold Hub.trigger
      rw [hst]
      cases c with
      | wheelDrop => exact markStale_law hl
      | lapsed | cliffSeen | bump | recheck => exact hl
      | hold | poseLost | link | restart => cases he

/-! ## Checks and rechecks -/

theorem refuse_law {h : Hub} (hl : h.Lawful) {q : Byte} {r : Reason} {b : Bool} : (h.refuse q r b).Lawful :=
  hl.same (by simp) (by simp) (by simp)

/-- The states in which a check may start. -/
abbrev PermitCtl.checks (p : PermitCtl) : Prop := p.state = .still ∨ p.state = .moving ∨ p.state = .probing

theorem grant_law {h : Hub} (hl : h.Lawful) (hm : h.mayMove) (hc : h.permit.check = none)
    (hs : h.permit.checks) {c : Check} {v : Verdict} : (h.grant c v).Lawful := by
  obtain ⟨⟨-, -, -, -, hstop⟩, -⟩ := hl
  have hns : h.permit.state ≠ .stopping := by rcases hs with hs | hs | hs <;> simp [hs]
  have ht : h.permit.stopTimer.isSome = false := by
    rw [← Bool.not_eq_true, hstop]
    exact hns
  refine ⟨?_, .inr ?_⟩
  · unfold Hub.grant
    by_cases ho : v.outcome = .probe <;>
      simp [PermitCtl.shape, PermitCtl.activeMatches, PermitCtl.checkMatches, Check.record, Hub.timer, ho, hc, ht]
  · unfold Hub.grant
    simpa [Hub.mayMove, Hub.tracking, Hub.loading] using hm

theorem concludeCheck_law {h : Hub} (hl : h.Lawful) (hm : h.mayMove) (hs : h.permit.checks) {c : Check} :
    (h.concludeCheck c).Lawful := by
  have hd : Hub.Lawful { h with permit.check := none } := ⟨hl.shape.dropCheck, .inr hm⟩
  unfold Hub.concludeCheck
  dsimp only
  split
  · exact refuse_law hd
  · exact grant_law hd hm rfl hs

theorem settleCheck_law {h : Hub} (hl : h.Lawful) (hm : h.mayMove) (hs : h.permit.checks) {c : Check} :
    (h.settleCheck c).Lawful := by
  have hset (k : Check) : Hub.Lawful { h with permit.check := some k } :=
    ⟨⟨hl.shape.1, fun _ => hs, hl.shape.2.2⟩, .inr hm⟩
  have hend {k : Check} : (h.concludeCheck k).Lawful := concludeCheck_law hl hm hs
  unfold Hub.settleCheck
  exact .ite (hset c) (.ite (.ite (hset _) hend) hend)

theorem settleRecheck_law {h : Hub} (hl : h.Lawful) (ha : h.permit.active.isSome = true) {sw : Sweep} :
    (h.settleRecheck sw).Lawful := by
  have hset (r : Option Sweep) : Hub.Lawful { h with permit.recheck := r } :=
    ⟨⟨hl.shape.1, hl.shape.2.1, fun _ => ha, hl.shape.2.2.2⟩, hl.moves⟩
  unfold Hub.settleRecheck
  exact .ite (hset _) (.ite (trigger_law (hset none)) (hset none))

/-- Whose turn it is at the arbiter's first place is no part of the law. -/
theorem Hub.Lawful.turn {h : Hub} (hl : h.Lawful) {t : FirstPlace} : Hub.Lawful { h with permit.recheckTurn := t } :=
  ⟨hl.shape, hl.moves⟩

theorem startRecheck_law {h : Hub} (hl : h.Lawful) : h.startRecheck.Lawful := by
  unfold Hub.startRecheck
  cases ha : h.permit.active with
  | none => exact hl
  | some p =>
    exact settleRecheck_law (h := { h with permit.recheckTurn := .recheck }) hl.turn (congrArg Option.isSome ha)

theorem startPending_law {h : Hub} (hl : h.Lawful) : h.startPending.Lawful := by
  have hp : Hub.Lawful { h with permit.recheckPending := false } :=
    ⟨⟨hl.shape.1, hl.shape.2.1, fun hr => hl.shape.2.2.1 (hr.imp id nofun), hl.shape.2.2.2⟩, hl.moves⟩
  unfold Hub.startPending
  exact .ite (startRecheck_law hp).turn hl

theorem recheckAsked_law {h : Hub} (hl : h.Lawful) : h.recheckAsked.Lawful := by
  have hask (hm : h.permit.state = .moving ∨ h.permit.state = .probing) :
      (match h.permit.recheck with
        | none => h.startRecheck
        | some _ => { h with permit.recheckPending := true }).Lawful := by
    split
    · exact startRecheck_law hl
    · have ha := hl.shape.active_of_state hm
      exact ⟨⟨hl.shape.1, hl.shape.2.1, fun _ => ha, hl.shape.2.2.2⟩, hl.moves⟩
  unfold Hub.recheckAsked
  cases hst : h.permit.state with
  | moving => exact hask (.inl hst)
  | probing => exact hask (.inr hst)
  | still | stopping | inhibited => exact hl

theorem notify_law {h : Hub} (hl : h.Lawful) : h.notify.Lawful := recheckAsked_law (markStale_law hl)

/-! ## Holds, the pose and the route -/

theorem placeHold_law {h : Hub} (hl : h.Lawful) {k : Hold} : (h.placeHold k).Lawful := by
  cases hk : h.permit.holds.has k with
  | true => rw [h.placeHold_present k hk]; exact hl
  | false =>
    rw [h.placeHold_absent k hk]
    exact trigger_law_of_ends (h := { h with permit.holds := h.permit.holds.set k true }) (c := .hold) hl.shape rfl

theorem removeHold_law {h : Hub} (hl : h.Lawful) {k : Hold} : (h.removeHold k).Lawful := by
  refine ⟨hl.shape, hl.moves.imp id ?_⟩
  rintro ⟨ht, he, hs⟩
  refine ⟨ht, ?_, hs⟩
  unfold Hub.removeHold Holds.set
  cases k <;> simp_all [Holds.empty]

/-- An entry into LOST or LIFTED ends the motion before the law is asked about again (R77). -/
theorem poseEntry_law {h : Hub} (hs : h.permit.shape) {st : PoseState} : (h.poseEntry st).Lawful := by
  unfold Hub.poseEntry
  dsimp only
  refine Hub.Lawful.same (trigger_law_of_ends (c := .poseLost) ?_ rfl) (by simp; rfl) (by simp) (by simp)
  simpa using hs

theorem enterLost_law {h : Hub} (hs : h.permit.shape) {c : LossCause} : (h.enterLost c).Lawful :=
  (poseEntry_law hs (st := .lost c)).same (by simp [Hub.enterLost]) (by simp [Hub.enterLost]) (by simp [Hub.enterLost])

theorem enterLifted_law {h : Hub} (hs : h.permit.shape) : h.enterLifted.Lawful :=
  (poseEntry_law hs (st := .lifted)).same (by simp [Hub.enterLifted]) (by simp [Hub.enterLifted])
    (by simp [Hub.enterLifted])

theorem arrive_law (l : List Waypoint) {h : Hub} (hl : h.Lawful) : (Hub.arrive l h).Lawful := by
  induction l generalizing h with
  | nil => exact hl
  | cons w rest ih =>
    have ha : (h.advanceRoute rest).Lawful := hl.same (by simp) (by simp) (by simp)
    unfold Hub.arrive
    refine .ite (.ite ?_ (ih (ha.same (by simp) (by simp) (by simp)))) hl
    exact (placeHold_law ha (k := .route)).same (by simp) (by simp) (by simp)

theorem poseUpdated_law {h : Hub} (hl : h.Lawful) : h.poseUpdated.Lawful :=
  (arrive_law h.route.waypoints hl).same (by simp [Hub.poseUpdated]) (by simp [Hub.poseUpdated])
    (by simp [Hub.poseUpdated])

theorem changeFloor_law {h : Hub} (hl : h.Lawful) {f : Floor} : (h.changeFloor f).Lawful :=
  hl.same (by simp) (by simp) (by simp)

theorem place_law {h : Hub} (hl : h.Lawful) {p : Pose} : (h.place p).Lawful :=
  hl.of_motion (by simp [Hub.motion]) (fun _ => rfl) (by simp [Hub.loading])

theorem dockedCorrection_law {h : Hub} (hl : h.Lawful) : h.dockedCorrection.Lawful := by
  unfold Hub.dockedCorrection
  exact .ite hl (poseUpdated_law (recheckAsked_law (markStale_law (place_law hl))))

theorem docked_law {h : Hub} (hl : h.Lawful) : h.docked.Lawful := by
  have hd : Hub.Lawful ({ h.setReturn .docked with dock.timer := none, dock.fallbacks := 0 }.emptyTrail) :=
    hl.same (by simp) (by simp) (by simp)
  unfold Hub.docked
  exact .ite (dockedCorrection_law hd) (.ite (hd.same (by simp) (by simp) (by simp)) hd)

/-- Travel is added to the permit record alone, which stays of its kind (R87). -/
theorem Hub.Lawful.travel {h : Hub} (hl : h.Lawful) {n : Nat} :
    Hub.Lawful { h with permit.active := h.permit.active.map (PermitRecord.travel n) } := by
  obtain ⟨⟨⟨hnone, hkind⟩, hchk, hrec, hexp, hstop⟩, hq⟩ := hl
  refine ⟨⟨⟨?_, ?_⟩, hchk, ?_, ?_, hstop⟩, ?_⟩
  · simpa using hnone
  · simpa [PermitRecord.travel] using hkind
  · simpa using hrec
  · simpa using hexp
  · simpa [PermitCtl.quiet, Hub.mayMove, Hub.tracking, Hub.loading] using hq

theorem applyTicks_law {h : Hub} (hl : h.Lawful) {l r : Int} : (h.applyTicks l r).Lawful := by
  have hp (p : Pose) : (h.loadPose p).Lawful := ⟨hl.shape, hl.moves⟩
  have hm := (hp (h.movedPose l r)).travel (n := h.ticksTravel l r)
  unfold Hub.applyTicks
  dsimp only
  refine .ite (poseUpdated_law hm) (enterLost_law ?_)
  exact hm.shape

theorem takeTicks_law {h : Hub} (hl : h.Lawful) {a : AskFrame} : (h.takeTicks a).Lawful := by
  unfold Hub.takeTicks
  exact .ite hl (.ite (applyTicks_law hl) (enterLost_law hl.shape))

/-- An ask that meets no refusal finds the conditions of R86. -/
theorem mayMove_of_askRefusal {h : Hub} {a : AskFrame} (ha : h.askRefusal a = none) :
    h.mayMove ∧ h.permit.checks := by
  unfold Hub.askRefusal at ha
  unfold Hub.mayMove PermitCtl.checks
  cases hst : h.permit.state <;> grind

theorem startCheck_law {h : Hub} (hl : h.Lawful) (hm : h.mayMove) (hs : h.permit.checks) {a : AskFrame} :
    (h.startCheck a).Lawful :=
  settleCheck_law (h := { h with permit.recheckTurn := .recheck }) hl.turn hm hs

theorem ask_law {h : Hub} (hl : h.Lawful) {a : AskFrame} : (h.ask a).Lawful := by
  have hf : h.frameTaken.Lawful := hl.same (by simp) (by simp) (by simp)
  have ht := abandonCheck_law (takeTicks_law hf (a := a)) (r := .superseded)
  unfold Hub.ask
  dsimp only
  split
  · exact refuse_law ht
  · next hr =>
    obtain ⟨hm, hs⟩ := mayMove_of_askRefusal hr
    exact startCheck_law ht hm hs

/-! ## The scanner and the lines -/

theorem post_law {h : Hub} (hl : h.Lawful) {k : EvidenceKind} {src : Source} {l : List Item} :
    (h.post k src l).Lawful :=
  hl.same (by simp) (by simp) (by simp)

theorem boundary_law {h : Hub} (hl : h.Lawful) : h.boundary.Lawful := hl.same (by simp) (by simp) (by simp)

theorem reportSag_law {h : Hub} (hl : h.Lawful) : h.reportSag.Lawful := hl.same (by simp) (by simp) (by simp)

theorem blockEnd_law {h : Hub} (hl : h.Lawful) : h.blockEnd.Lawful := by
  have hn {g : Hub} (hg : g.Lawful) {l : List Item} : (g.noteClear l).Lawful := hg.same (by simp) (by simp) (by simp)
  have hp {k1 k2 k3 : EvidenceKind} {s1 s2 s3 : Source} {l1 l2 l3 l4 : List Item} :
      ((((h.post k1 s1 l1).post k2 s2 l2).noteClear l4).post k3 s3 l3).Lawful :=
    post_law (hn (post_law (post_law hl)))
  unfold Hub.blockEnd
  refine boundary_law (.ite (trigger_law ?_) ?_) <;> exact .ite (reportSag_law hp) hp

theorem scan_law {h : Hub} (hl : h.Lawful) {r : ScanReading} : (h.scan r).Lawful := by
  unfold Hub.scan
  dsimp only
  split
  · have hg : Hub.Lawful
        { h with scanner.timer := h.scanner.timer.reload, scanner.block := h.scanner.block.scan r h.scanner.averaged } :=
      hl.same rfl rfl rfl
    exact .ite (blockEnd_law hg) hg
  · exact hl

theorem endBlockEarly_law {h : Hub} (hl : h.Lawful) : h.endBlockEarly.Lawful := by
  unfold Hub.endBlockEarly
  exact .ite (boundary_law hl) (blockEnd_law hl)

theorem dropAssert_law {h : Hub} (hl : h.Lawful) {s : Side} : (h.dropAssert s).Lawful := by
  have hc {g : Hub} (hg : g.Lawful) : g.cancelPassOver.Lawful := hg.same rfl rfl rfl
  have ht {g : Hub} (hg : g.Lawful) : g.timingAssert.Lawful := hg.same (by simp) (by simp) (by simp)
  unfold Hub.dropAssert
  exact ht (hc (trigger_law (endBlockEarly_law (post_law hl))))

theorem bumpAssert_law {h : Hub} (hl : h.Lawful) {s : Side} : (h.bumpAssert s).Lawful := by
  unfold Hub.bumpAssert
  exact .ite (trigger_law (post_law hl)) (post_law hl)

theorem lineChanged_law {h : Hub} (hl : h.Lawful) {l : Line} {b : Bool} : (h.lineChanged l b).Lawful := by
  have hr : h.timingRelease.Lawful := hl.same (by simp) (by simp) (by simp)
  cases b with
  | false => cases l <;> first | exact hl | exact hr
  | true => cases l <;> first | exact bumpAssert_law hl | exact dropAssert_law hl

theorem sampleLine_law {h : Hub} (hl : h.Lawful) {v : PerLine Bool} {l : Line} : (h.sampleLine v l).Lawful := by
  unfold Hub.sampleLine
  dsimp only
  split
  · refine lineChanged_law ?_
    exact hl.same rfl rfl rfl
  · exact hl.same rfl rfl rfl

theorem lineSample_law {h : Hub} (hl : h.Lawful) {v : PerLine Bool} : (h.lineSample v).Lawful := by
  unfold Hub.lineSample
  refine .ite ?_ hl
  refine List.foldlRecOn (motive := Hub.Lawful) _ _ ?_ fun g hg l _ => sampleLine_law hg
  exact hl.same rfl rfl rfl

/-! ## Expiries and the link -/

theorem setDownExpired_law {h : Hub} (hl : h.Lawful) : h.setDownExpired.Lawful := by
  have hg : Hub.Lawful { h with lines.setDown := none } := ⟨hl.shape, hl.moves⟩
  unfold Hub.setDownExpired
  exact .ite (enterLost_law hg.shape) hg

/-- An expiry of the permit finds the permit active, so that the trigger LAPSED runs the stop sequence (R103). -/
theorem permitExpiry_law {h : Hub} (hl : h.Lawful) (hd : h.permit.expiry.isSome = true) :
    (Hub.trigger .lapsed { h with permit.expiry := none }).Lawful := by
  have hst := hl.shape.state_of_active (hl.shape.2.2.2.1 ▸ hd)
  rw [Hub.trigger_in_motion { h with permit.expiry := none } .lapsed hst nofun nofun]
  exact .of_quiet (stopSequence_shape _ _) (stopSequence_quiet _ _)

/-- In the states without a permit the shape asks for nothing but the stop timer (R86). -/
theorem PermitCtl.shape.to_rest {p q : PermitCtl} (hs : p.shape) (hr : p.quiet)
    (hq : q.active = p.active ∧ q.check = p.check ∧ q.recheck = p.recheck ∧ q.recheckPending = p.recheckPending
      ∧ q.expiry = p.expiry) (hst : q.state ≠ .moving ∧ q.state ≠ .probing)
    (ht : q.stopTimer.isSome = true ↔ q.state = .stopping) : q.shape := by
  obtain ⟨ha, hc, hrec, hpend, hexp⟩ := hq
  obtain ⟨hpa, hpc⟩ := hr
  obtain ⟨-, -, hrp, hpe, -⟩ := hs
  have hno : ¬ (p.recheck.isSome = true ∨ p.recheckPending = true) := fun hsome => by
    have := hrp hsome
    rw [hpa] at this
    cases this
  rw [not_or, Option.not_isSome_iff_eq_none, Bool.not_eq_true] at hno
  rw [hpa] at hpe
  exact PermitCtl.shape_of_none (ha.trans hpa) (hc.trans hpc) (hrec.trans hno.1) (hpend.trans hno.2)
    (hexp.trans (Option.isSome_eq_false_iff.mp hpe |> Option.isNone_iff_eq_none.mp)) hst ht

theorem stopExpired_law {h : Hub} (hl : h.Lawful) : h.stopExpired.Lawful := by
  unfold Hub.stopExpired
  dsimp only
  split
  · next hst =>
    have hq := hl.shape.quiet_at_rest (.inl hst)
    have hs : PermitCtl.shape
        { h.permit with
          state := .inhibited, driveStopped := false, stopTimer := none
          stopTimeouts := sat8 h.permit.stopTimeouts } :=
      hl.shape.to_rest hq ⟨rfl, rfl, rfl, rfl, rfl⟩ ⟨nofun, nofun⟩ ⟨nofun, nofun⟩
    exact .of_quiet (by simpa [Hub.inhibit] using hs) (by simpa [Hub.inhibit, PermitCtl.quiet] using hq)
  · next hst => exact ⟨⟨hl.shape.1, hl.shape.2.1, hl.shape.2.2.1, hl.shape.2.2.2.1, nofun, fun h => absurd h hst⟩, hl.moves⟩

theorem leaseExpired_law {h : Hub} (hl : h.Lawful) : h.leaseExpired.Lawful := by
  have hg : Hub.Lawful (Hub.setPlan .leaseLapsed { h with route.lease := .lapsed, route.leaseTimer := none }) :=
    hl.same (by simp) (by simp) (by simp)
  have hr : Hub.Lawful
      (Hub.setPlan .leaseLapsed { h with route.lease := .lapsed, route.leaseTimer := none }).returnStart :=
    hg.same (by simp) (by simp) (by simp)
  unfold Hub.leaseExpired
  refine .ite ?_ (placeHold_law hg)
  split
  · exact hg
  · exact hg
  · exact hg
  · exact .ite hr (placeHold_law hg)
  · exact .ite hr (placeHold_law hg)
  · exact .ite hr (placeHold_law hg)

theorem stopDone_law {h : Hub} (hl : h.Lawful) : h.stopDone.Lawful := by
  unfold Hub.stopDone
  cases hst : h.permit.state with
  | stopping =>
    have hq := hl.shape.quiet_at_rest (.inl hst)
    exact .of_quiet (hl.shape.to_rest hq ⟨rfl, rfl, rfl, rfl, rfl⟩ ⟨nofun, nofun⟩ ⟨nofun, nofun⟩) hq
  | inhibited => exact ⟨hl.shape, hl.moves⟩
  | still | moving | probing => exact hl

theorem linkBreak_law {h : Hub} (hl : h.Lawful) : h.linkBreak.Lawful := by
  unfold Hub.linkBreak
  refine trigger_law_of_ends (c := .link) ?_ rfl
  exact hl.shape

theorem badFrame_law {h : Hub} (hl : h.Lawful) : h.badFrame.Lawful := by
  have hc : h.countBad.Lawful := hl.same rfl rfl rfl
  unfold Hub.badFrame
  exact .ite (linkBreak_law hc) hc

theorem heldLow_law {h : Hub} (hl : h.Lawful) {c : List LinkChar} : (h.heldLow c).Lawful := by
  unfold Hub.heldLow
  refine .ite ?_ hl
  cases h.drive.rx.follow c with
  | none => exact hl
  | some rx =>
    refine linkBreak_law ?_
    exact hl.same rfl rfl rfl

/-! ## Grants -/

theorem checkClaim_law {h : Hub} (hl : h.Lawful) : h.checkClaim.Lawful := by
  unfold Hub.checkClaim
  cases hc : h.permit.check with
  | none => exact hl
  | some c =>
    have hm : h.mayMove := hl.moves.resolve_left fun q => by rw [q.2] at hc; cases hc
    exact settleCheck_law (h := { h with permit.recheckTurn := .recheck }) hl.turn hm
      (hl.shape.2.1 (by rw [hc]; rfl))

theorem recheckClaim_law {h : Hub} (hl : h.Lawful) : h.recheckClaim.Lawful := by
  unfold Hub.recheckClaim
  split
  · next p sw ha _ =>
    refine startPending_law (settleRecheck_law (h := { h with permit.recheckTurn := _ }) ?_ ?_)
    · exact hl.turn
    · exact congrArg Option.isSome ha
  · exact hl

theorem noteSecond_law {h : Hub} (hl : h.Lawful) {c : SecondPlace} : (h.noteSecond c).Lawful :=
  hl.same (by simp) (by simp) (by simp)

theorem itemDone_law {h : Hub} (hl : h.Lawful) : h.itemDone.Lawful := hl.same (by simp) (by simp) (by simp)

theorem setPhase_law {h : Hub} (hl : h.Lawful) {p : ApplyPhase} : (h.setPhase p).Lawful :=
  hl.same (by simp) (by simp) (by simp)

theorem beginSearch_law {h : Hub} (hl : h.Lawful) : h.beginSearch.Lawful := hl.same (by simp) (by simp) (by simp)

theorem writeEffect_law {h : Hub} (hl : h.Lawful) {slot : Nat} {e : Entry} {f : Effect} :
    (h.writeEffect slot e f).Lawful := by
  unfold Hub.writeEffect
  cases f with
  | unchanged | create => exact hl
  | change cls conf rug =>
    have hg {n : Entry} : (h.changeSlot slot e n).Lawful := hl.same (by simp) (by simp) (by simp)
    exact .ite (notify_law hg) hg
  | remove => exact hl.same (by simp) (by simp) (by simp)
  | conflict => exact hl.same rfl rfl rfl

theorem writeCreate_law {h : Hub} (hl : h.Lawful) {slot : Nat} {e : Entry} : (h.writeCreate slot e).Lawful := by
  have hg : (h.createIn slot e).Lawful := hl.same (by simp) (by simp) (by simp)
  unfold Hub.writeCreate
  exact .ite (notify_law hg) hg

theorem applyWrite_law {h : Hub} (hl : h.Lawful) {i : Item} {f : Floor} {t : Tile} : (h.applyWrite i f t).Lawful := by
  unfold Hub.applyWrite
  split
  · split
    · exact itemDone_law (writeEffect_law hl)
    · exact itemDone_law hl
  · split
    · split
      · exact itemDone_law (writeCreate_law hl)
      · exact beginSearch_law hl
    · exact itemDone_law hl

theorem brushWrite_law {h : Hub} (hl : h.Lawful) {i : Item} {f : Floor} {slot : Nat} {t : Tile} :
    (h.brushWrite i f slot t).Lawful := by
  unfold Hub.brushWrite
  split
  · exact itemDone_law (writeEffect_law hl)
  · exact itemDone_law hl

theorem applyGrant_law {h : Hub} (hl : h.Lawful) : h.applyGrant.Lawful := by
  unfold Hub.applyGrant
  split
  · split
    · exact applyWrite_law (noteSecond_law hl)
    · exact brushWrite_law (noteSecond_law hl)
    · exact hl
  · exact hl

theorem plannedGrant_law {h : Hub} (hl : h.Lawful) : h.plannedGrant.Lawful := by
  unfold Hub.plannedGrant
  split
  · dsimp only
    split
    · exact setPhase_law (noteSecond_law hl)
    · exact .ite (itemDone_law (noteSecond_law hl)) (setPhase_law (noteSecond_law hl))
  · exact hl

theorem searchGrant_law {h : Hub} (hl : h.Lawful) : h.searchGrant.Lawful := by
  unfold Hub.searchGrant
  split
  · dsimp only
    split
    · exact setPhase_law (noteSecond_law hl)
    · exact setPhase_law (noteSecond_law hl)
    · refine itemDone_law ?_
      exact (noteSecond_law hl (c := .updater)).same (by simp) (by simp) (by simp)
  · exact hl

theorem replaceVictim_law {h : Hub} (hl : h.Lawful) {v : Nat} {e : Entry} : (h.replaceVictim v e).Lawful := by
  unfold Hub.replaceVictim
  dsimp only
  split
  · refine notify_law ?_
    exact hl.same (by simp) (by simp) (by simp)
  · exact hl.same (by simp) (by simp) (by simp)

theorem evictGrant_law {h : Hub} (hl : h.Lawful) : h.evictGrant.Lawful := by
  unfold Hub.evictGrant
  split
  · dsimp only
    split
    · exact .ite (applyWrite_law (noteSecond_law hl))
        (.ite (itemDone_law (replaceVictim_law (noteSecond_law hl))) (beginSearch_law (noteSecond_law hl)))
    · exact itemDone_law (noteSecond_law hl)
  · exact hl

theorem putGrant_law {h : Hub} (hl : h.Lawful) : h.putGrant.Lawful := by
  unfold Hub.putGrant
  split
  · split
    · exact hl.same (by simp) (by simp) (by simp)
    · dsimp only
      split
      · refine notify_law ?_
        exact hl.same (by simp) (by simp) (by simp)
      · exact hl.same (by simp) (by simp) (by simp)
  · exact hl

theorem lookupGranted_law {h : Hub} {f : Hub → Hub} (hf : ∀ g : Hub, g.Lawful → (f g).Lawful) (hl : h.Lawful) :
    (Hub.lookupGranted f h).Lawful :=
  (hf _ (noteSecond_law (c := .odometry) hl)).same (by simp [Hub.lookupGranted]) (by simp [Hub.lookupGranted])
    (by simp [Hub.lookupGranted])

theorem centreEnd_law {h : Hub} (hl : h.Lawful) {d : Bool} {p : Option Pile} : (h.centreEnd d p).Lawful := by
  refine hl.same (by simp) ?_ (by simp)
  unfold Hub.centreEnd
  dsimp only
  repeat' split
  all_goals simp [Hub.endLookup]

theorem centreDone_law {h : Hub} (hl : h.Lawful) : h.centreDone.Lawful := by
  have hr {g : Hub} {r : TileRead} (hg : g.Lawful) : (g.readOn r).Lawful := hg.same rfl rfl rfl
  unfold Hub.centreDone
  split
  · exact hl
  · split
    · exact centreEnd_law hl
    · split
      · exact lookupGranted_law (fun _ hg => hr hg) hl
      · exact lookupGranted_law (fun _ hg => centreEnd_law hg) hl

theorem passOverEnd_law {h : Hub} (hl : h.Lawful) {s : Side} {l : Lookup} : (h.passOverEnd s l).Lawful := by
  refine hl.same (by simp) ?_ (by simp)
  unfold Hub.passOverEnd
  dsimp only
  split
  · cases s <;> rfl
  · rfl

theorem passOverDone_law {h : Hub} (hl : h.Lawful) {s : Side} : (h.passOverDone s).Lawful := by
  unfold Hub.passOverDone
  split
  · exact hl
  · exact .ite (lookupGranted_law (fun _ hg => passOverEnd_law hg) hl) (passOverEnd_law hl)

/-! ## Requests -/

theorem reply_law {h : Hub} (hl : h.Lawful) {p : Port} {r : Reply} : (h.reply p r).Lawful :=
  hl.same (by simp) (by simp) (by simp)

theorem done_law {h : Hub} (hl : h.Lawful) {p : Port} {c : Byte} {l : List Byte} : (h.done p c l).Lawful :=
  hl.same (by simp) (by simp) (by simp)

theorem deny_law {h : Hub} (hl : h.Lawful) {p : Port} {c : Byte} {st : Status} : (h.deny p c st).Lawful :=
  hl.same (by simp) (by simp) (by simp)

theorem moveToFloor_law {h : Hub} (hl : h.Lawful) {f : Floor} : (h.moveToFloor f).Lawful := by
  have hc : Hub.Lawful { h.changeFloor f with scanner.block.posting := false }.restartTracking :=
    hl.same (by simp) (by simp) (by simp)
  have ht {g : Hub} (hg : g.Lawful) : g.startCentreLookup.trackWheels.Lawful := hg.same (by simp) (by simp) (by simp)
  unfold Hub.moveToFloor
  exact .ite hl (.ite (ht (markStale_law hc)) (markStale_law hc))

theorem setFloor_law {h : Hub} (hl : h.Lawful) {b : List Byte} : (h.setFloor b).Lawful := by
  unfold Hub.setFloor
  split
  · exact deny_law hl
  · exact deny_law hl
  · exact done_law (moveToFloor_law hl)

theorem setPose_law {h : Hub} (hl : h.Lawful) {b : List Byte} : (h.setPose b).Lawful := by
  unfold Hub.setPose
  dsimp only
  split
  · exact deny_law hl
  · exact deny_law hl
  · exact done_law (poseUpdated_law (markStale_law (changeFloor_law (place_law hl))))

theorem routeAppend_law {h : Hub} (hl : h.Lawful) {b : List Byte} : (h.routeAppend b).Lawful := by
  unfold Hub.routeAppend
  split
  · exact deny_law hl
  · refine .ite (deny_law hl) (.ite (deny_law hl) (.ite (deny_law hl) (done_law (removeHold_law ?_))))
    exact hl.same rfl rfl rfl

theorem hold_law {h : Hub} (hl : h.Lawful) {p : Port} {k : Hold} {c : Byte} :
    ((h.placeHold k).doneHolds p c).Lawful :=
  done_law (placeHold_law hl)

theorem release_law {h : Hub} (hl : h.Lawful) {p : Port} {b : List Byte} : (h.release p b).Lawful := by
  unfold Hub.release
  split
  · exact done_law (removeHold_law hl)
  · exact deny_law hl

theorem releaseInhibit_law {h : Hub} (hl : h.Lawful) : h.releaseInhibit.Lawful := by
  unfold Hub.releaseInhibit
  split
  · next hd =>
    have hst : h.permit.state = .inhibited := by
      by_contra hn
      simp [Hub.inhibitStatus, hn] at hd
    have hq := hl.shape.quiet_at_rest (.inr hst)
    have ht : ¬ h.permit.stopTimer.isSome = true := fun hsome => by
      have := hl.shape.2.2.2.2.mp hsome
      rw [hst] at this
      cases this
    have hg : Hub.Lawful { h with permit.state := .still } :=
      .of_quiet (hl.shape.to_rest hq ⟨rfl, rfl, rfl, rfl, rfl⟩ ⟨nofun, nofun⟩ ⟨fun h => absurd h ht, nofun⟩) hq
    exact done_law hg
  · exact deny_law hl

/-- MAP_LOAD is taken in STILL or INHIBITED alone and abandons the check, so that LOAD finds nothing in motion (R175). -/
theorem mapLoad_law {h : Hub} (hl : h.Lawful) {b : List Byte} : (h.mapLoad b).Lawful := by
  unfold Hub.mapLoad
  dsimp only
  split
  · exact deny_law hl
  · split
    · exact deny_law hl
    · split
      · exact deny_law hl
      · next hm =>
        have ha : h.permit.active = none := by
          cases hst : h.permit.state with
          | still => exact hl.shape.none_in_still hst
          | inhibited => exact (hl.shape.quiet_at_rest (.inr hst)).1
          | moving | probing | stopping => simp [Hub.inMotion, hst] at hm
        refine .of_quiet ?_ ?_
        · simpa using hl.shape.dropCheck
        · simpa [PermitCtl.quiet] using ha

/-! ## The Map Store -/

section
variable (h : Hub)

@[simp] theorem Hub.endStore_motion (r : StoreResult) (b : Bool) : (h.endStore r b).motion = h.motion := by
  unfold Hub.endStore
  split
  · rfl
  · simp [Hub.motion]
  · dsimp only
    split <;> simp [Hub.motion, Hub.endStartUp]

@[simp] theorem Hub.endStore_pose (r : StoreResult) (b : Bool) : (h.endStore r b).odo.pose = h.odo.pose := by
  unfold Hub.endStore
  split
  · rfl
  · simp
  · dsimp only
    split <;> simp [Hub.endStartUp]

/-- An operation that ends leaves the Map Store idle. -/
@[simp] theorem Hub.endStore_phase (r : StoreResult) (b : Bool) : (h.endStore r b).store.phase = .idle := by
  unfold Hub.endStore
  split
  · assumption
  · simp
  · dsimp only
    split <;> simp

@[simp] theorem Hub.flashSend_phase (l : List FlashCommand) : (Hub.flashSend l h).store.phase = h.store.phase := by
  unfold Hub.flashSend
  dsimp only
  induction l generalizing h with
  | nil => rfl
  | cons c l ih =>
    refine (ih _).trans ?_
    cases c <;> rfl

end

/-- What the Map Store does with a load in progress keeps the law: LOAD is on already. -/
theorem Hub.Lawful.of_load {g h : Hub} (hl : h.Lawful) {op : LoadOp} (hp : h.store.phase = .load op)
    (hm : g.motion = h.motion) (ho : g.odo.pose = h.odo.pose) : g.Lawful :=
  hl.of_motion hm (by simp only [Hub.tracking, ho, imp_self]) (by simp [Hub.loading, hp])

/-- What the Map Store does outside LOAD keeps the law: LOAD stays off. -/
theorem Hub.Lawful.of_save {g h : Hub} (hl : h.Lawful) (hm : g.motion = h.motion) (ho : g.odo.pose = h.odo.pose)
    (hg : g.loading = false) : g.Lawful :=
  hl.of_motion hm (by simp only [Hub.tracking, ho, imp_self]) fun _ => hg

section
variable (h : Hub)

@[simp] theorem Hub.endStore_loading (r : StoreResult) (b : Bool) : (h.endStore r b).loading = false := by
  simp [Hub.loading]

@[simp] theorem Hub.flashSend_motion (l : List FlashCommand) : (Hub.flashSend l h).motion = h.motion := by
  simp [Hub.motion]

@[simp] theorem Hub.setLoad_motion (o : LoadOp) : (h.setLoad o).motion = h.motion := rfl

@[simp] theorem Hub.flashDone_motion : h.flashDone.motion = h.motion := rfl

@[simp] theorem Hub.cutLookups_pose : h.cutLookups.odo.pose = h.odo.pose := by
  unfold Hub.cutLookups
  dsimp only
  split <;> simp

@[simp] theorem Hub.programPage_loading (k : Option Nat) (o : SaveOp) : (h.programPage k o).loading = false := by
  simp [Hub.loading, Hub.programPage, Hub.setSave]

@[simp] theorem Hub.programHeader_loading (o : SaveOp) : (h.programHeader o).loading = false := by
  simp [Hub.loading, Hub.programHeader, Hub.setSave]

@[simp] theorem Hub.eraseNext_loading (o : SaveOp) (n : Nat) : (h.eraseNext o n).loading = false := by
  simp [Hub.loading, Hub.eraseNext, Hub.setSave]

@[simp] theorem Hub.saveNext_loading (o : SaveOp) : (h.saveNext o).loading = false := by
  unfold Hub.saveNext
  split
  · simp [Hub.loading, Hub.setSave]
  · split <;> simp

@[simp] theorem Hub.pageDone_loading (k : Option Nat) (o : SaveOp) : (h.pageDone k o).loading = false := by
  unfold Hub.pageDone
  cases k <;> simp

@[simp] theorem Hub.saveReady_motion (o : SaveOp) : (h.saveReady o).motion = h.motion := by
  unfold Hub.saveReady
  cases o.step with
  | erased s => dsimp only; split <;> simp [Hub.motion]
  | markerSent => simp
  | opening | reading s | programmed s | headerSent => simp [Hub.motion]

@[simp] theorem Hub.saveReady_pose (o : SaveOp) : (h.saveReady o).odo.pose = h.odo.pose := by
  unfold Hub.saveReady
  cases o.step with
  | erased s => dsimp only; split <;> simp
  | opening | reading s | programmed s | headerSent | markerSent => simp

theorem Hub.saveReady_loading (o : SaveOp) (hs : h.loading = false) : (h.saveReady o).loading = false := by
  unfold Hub.saveReady
  cases o.step with
  | erased s => dsimp only; split <;> simp
  | reading s => exact hs
  | headerSent => simp [Hub.loading, Hub.setSave]
  | opening | programmed s | markerSent => simp

@[simp] theorem Hub.fetchEntry_motion (o : LoadOp) (i : Nat) : (h.fetchEntry o i).motion = h.motion := by
  unfold Hub.fetchEntry Hub.loadEnd
  split
  · simp [Hub.motion]
  · dsimp only
    rw [Hub.endStore_motion]
    repeat' split
    all_goals simp [Hub.motion]

@[simp] theorem Hub.fetchEntry_pose (o : LoadOp) (i : Nat) : (h.fetchEntry o i).odo.pose = h.odo.pose := by
  unfold Hub.fetchEntry Hub.loadEnd
  split
  · simp
  · dsimp only
    rw [Hub.endStore_pose]
    repeat' split
    all_goals simp

@[simp] theorem Hub.removeNext_motion (o : LoadOp) (i : Nat) : (h.removeNext o i).motion = h.motion := by
  unfold Hub.removeNext
  split
  · simp [Hub.motion]
  · simp

@[simp] theorem Hub.removeNext_pose (o : LoadOp) (i : Nat) : (h.removeNext o i).odo.pose = h.odo.pose := by
  unfold Hub.removeNext
  split <;> simp

@[simp] theorem Hub.judgeEntry_motion (o : LoadOp) (i : Nat) : (h.judgeEntry o i).motion = h.motion := by
  unfold Hub.judgeEntry
  split
  · simp
  · split <;> simp

@[simp] theorem Hub.judgeEntry_pose (o : LoadOp) (i : Nat) : (h.judgeEntry o i).odo.pose = h.odo.pose := by
  unfold Hub.judgeEntry
  split
  · simp
  · split <;> simp

@[simp] theorem Hub.loadRead_motion (o : LoadOp) (a : FlashAnswer) : (h.loadRead o a).motion = h.motion := by
  unfold Hub.loadRead
  repeat' split
  all_goals first | rfl | simp

@[simp] theorem Hub.loadRead_pose (o : LoadOp) (a : FlashAnswer) : (h.loadRead o a).odo.pose = h.odo.pose := by
  unfold Hub.loadRead
  repeat' split
  all_goals first | rfl | simp

end

theorem endStore_law {h : Hub} (hl : h.Lawful) {r : StoreResult} {b : Bool} : (h.endStore r b).Lawful :=
  hl.of_save (by simp) (by simp) (by simp)

theorem cutMarker_law {h : Hub} (hl : h.Lawful) : h.cutMarker.Lawful := hl.same (by simp) (by simp) (by simp)

theorem mapSave_law {h : Hub} (hl : h.Lawful) {b : List Byte} : (h.mapSave b).Lawful := by
  unfold Hub.mapSave
  dsimp only
  split
  · exact deny_law hl
  · split
    · refine reply_law ?_
      exact hl.of_save (by simp [Hub.motion]) (by simp) (by simp [Hub.loading, Hub.setSave])
    · exact deny_law hl

theorem flashStatus_law {h : Hub} (hl : h.Lawful) {busy : Bool} : (h.flashStatus busy).Lawful := by
  obtain he | he | ⟨op, hp, ⟨n, he⟩ | he⟩ | ⟨op, hp, -, ⟨n, he⟩ | he⟩ := h.flashStatus_cases busy <;> rw [he]
  · exact hl
  · exact endStore_law (cutMarker_law hl)
  · exact hl.of_save (by simp [Hub.motion]) (by simp) (by simp [Hub.loading, Hub.setSave])
  · have hd : h.flashDone.loading = false := by simp [Hub.loading, Hub.flashDone, hp]
    exact hl.of_save (by simp) (by simp) (Hub.saveReady_loading _ _ hd)
  · exact hl.of_load hp (by simp [Hub.motion]) (by simp)
  · exact hl.of_load hp (by simp [Hub.motion]) (by simp)

theorem saveGrant_law {h : Hub} (hl : h.Lawful) : h.saveGrant.Lawful := by
  unfold Hub.saveGrant
  split
  · split
    · exact .ite (hl.of_save (by simp [Hub.motion]) (by simp) (by simp))
        (hl.of_save (by simp [Hub.motion]) (by simp) (by simp))
    · exact hl
  · exact hl

theorem flashRead_law {h : Hub} (hl : h.Lawful) {a : FlashAnswer} : (h.flashRead a).Lawful := by
  unfold Hub.flashRead
  split
  · next op hp => exact hl.of_load hp (by simp) (by simp)
  · exact hl

theorem removalGrant_law {h : Hub} (hl : h.Lawful) : h.removalGrant.Lawful := by
  have hr (g : Hub) (k : Nat) : (g.removeSlot k).motion = g.motion := by simp [Hub.motion]
  unfold Hub.removalGrant
  split
  · next op hp =>
    split
    · exact .ite (hl.of_load hp (by simp [Hub.motion]) (by simp)) (hl.of_load hp (by simp) (by simp))
    · exact .ite (hl.of_load hp (by simp [hr]) (by simp)) (hl.of_load hp (by simp) (by simp))
    · exact hl
  · exact hl

theorem insertGrant_law {h : Hub} (hl : h.Lawful) : h.insertGrant.Lawful := by
  have hc (g : Hub) (k : Nat) (e : Entry) : (g.createIn k e).motion = g.motion := by simp [Hub.motion]
  unfold Hub.insertGrant
  split
  · next op hp =>
    split
    · refine .ite (hl.of_load hp (by simp) (by simp)) ?_
      split
      · exact hl.of_load hp (by simp [hc]) (by simp)
      · exact hl.of_load hp (by simp) (by simp)
    · exact hl
  · exact hl

theorem warmRestart_law {h : Hub} (hl : h.Lawful) : h.warmRestart.Lawful := by
  have ht : Hub.Lawful ({ h with plan.slot := .empty }.restartTrigger) := by
    refine trigger_law_of_ends (h := { h with plan.slot := .empty }) (c := .restart) ?_ rfl
    exact hl.shape
  have ha {g : Hub} (hg : g.Lawful) : g.abortStore.Lawful := by
    unfold Hub.abortStore
    split
    · exact endStore_law (cutMarker_law hg)
    · exact endStore_law (cutMarker_law hg)
    · exact hg
  have he : Hub.Lawful { ({ h with plan.slot := .empty }.restartTrigger).emptyQueue with route.waypoints := [] } :=
    ht.same (by simp) (by simp) (by simp)
  unfold Hub.warmRestart
  dsimp only
  refine done_law ?_
  exact (ha he).same (by simp) (by simp) (by simp)

/-! ## Every command -/

theorem Timer.isSome_of_due {t : Timer} {ms : Nat} (h : t.due ms = true) : t.isSome = true := by
  cases t with
  | none => cases h
  | some r => rfl

theorem cold_law {m : Memory} {n : Nat} {b : Bool} : Hub.Lawful { Hub.cold m n with inReset := b } :=
  .of_quiet (PermitCtl.shape_of_none rfl rfl rfl rfl rfl ⟨nofun, nofun⟩ ⟨nofun, nofun⟩) ⟨rfl, rfl⟩

theorem started_law {m : Memory} {n : Nat} : (Hub.started m n).Lawful :=
  .of_quiet (PermitCtl.shape_of_none rfl rfl rfl rfl rfl ⟨nofun, nofun⟩ ⟨nofun, nofun⟩) ⟨rfl, rfl⟩

theorem action_law {i : Instr} {h : Hub} (hd : ∀ t, expiring h i = some t → t.due h.time.ms = true)
    (hl : h.Lawful) : (action i h).Lawful := by
  cases i with
  | coldStart => exact .ite cold_law hl
  | coldStartResetEnd => exact .ite started_law hl
  | scan => exact scan_law hl
  | lineSample => exact lineSample_law hl
  | liftTimerExpiry => exact enterLifted_law (h := { h with lines.lift := none }) hl.shape
  | setDownTimerExpiry => exact setDownExpired_law hl
  | permitExpiry => exact permitExpiry_law hl (Timer.isSome_of_due (hd _ rfl))
  | stopTimerExpiry => exact stopExpired_law hl
  | leaseTimerExpiry => exact leaseExpired_law hl
  | ask => exact ask_law hl
  | stopDone =>
    refine stopDone_law ?_
    exact hl.same (by simp) (by simp) (by simp)
  | driveBadFrame => exact badFrame_law hl
  | dlRxHeldLow => exact heldLow_law hl
  | checkSweepClaim => exact checkClaim_law hl
  | recheckClaim => exact recheckClaim_law hl
  | applyItem => exact applyGrant_law hl
  | plannedRugRead => exact plannedGrant_law hl
  | evictionSearchRead => exact searchGrant_law hl
  | evict => exact evictGrant_law hl
  | mapPutWrite => exact putGrant_law hl
  | setFloor => exact setFloor_law hl
  | setPose => exact setPose_law hl
  | routeAppend => exact routeAppend_law hl
  | hold => exact hold_law hl
  | release => exact release_law hl
  | releaseInhibit => exact releaseInhibit_law hl
  | mapSave => exact mapSave_law hl
  | mapLoad => exact mapLoad_law hl
  | warmRestart => exact warmRestart_law hl
  | docked => exact done_law (docked_law hl)
  | flashStatusRead => exact flashStatus_law hl
  | saveSlotRead => exact saveGrant_law hl
  | flashReadDone => exact flashRead_law hl
  | loadRemovalClaim => exact removalGrant_law hl
  | loadInsertWrite => exact insertGrant_law hl
  | centreTileLookupDone => exact centreDone_law hl
  | passOverLookupDone => exact passOverDone_law hl
  | planOtherCommand => exact .ite hl (hl.same rfl rfl rfl)
  | counters =>
    refine done_law (.ite ?_ hl)
    exact ⟨hl.shape, hl.moves⟩
  | _ => exact hl.same (by simp [action]) (by simp [action]) (by simp [action])

theorem unshaken_law : Unshaken Hub.Lawful where
  granted h c hl := hl.same (by simp) (by simp) (by simp)
  heard h rx hl := ⟨hl.shape, hl.moves⟩
  framed h p hl := hl.same (by simp) (by simp) (by simp)
  replied h p r hl := reply_law hl
  lost h hl := hl.same (by simp) (by simp) (by simp)

/-- Settles O56: every action keeps the law, and so does what surrounds it and the passing of a period. -/
theorem everyStepKeepsTheLawOfMotion : Obligations.EveryStepKeepsTheLawOfMotion := by
  intro s t hs ht
  rw [Hub.permitLaw_iff] at hs ⊢
  refine step_keeps (fun h hl => ?_) (fun i s t ht => exec_keeps unshaken_law (fun j h _ => action_law) ht) ht hs
  unfold Hub.idle
  exact .ite hl ⟨hl.shape, hl.moves⟩

end Sys2Proof.Machine
end

section
/-!
Every step keeps the table's law (O57): the seconds count, the entries that wait for their slot, the tiles the evidence
names, and with them the slots.
-/

namespace Sys2Proof.Machine

/-! ## The entry of a MAP_PUT in service -/

section
variable (h : Hub)

@[simp] theorem Hub.reply_entryGood (p : Port) (r : Reply) :
    (h.reply p r).plan.slot.entryGood = (decide (p = .plan) || h.plan.slot.entryGood) := by
  cases p with
  | plan => simp [Hub.reply, Hub.planReply, PlanSlot.entryGood]
  | power => simp [Hub.reply, Hub.powerReply]

@[simp] theorem Hub.done_entryGood (p : Port) (c : Byte) (l : List Byte) :
    (h.done p c l).plan.slot.entryGood = (decide (p = .plan) || h.plan.slot.entryGood) :=
  h.reply_entryGood p _

@[simp] theorem Hub.deny_entryGood (p : Port) (c : Byte) (st : Status) :
    (h.deny p c st).plan.slot.entryGood = (decide (p = .plan) || h.plan.slot.entryGood) :=
  h.reply_entryGood p _

@[simp] theorem Hub.clearSlot_entryGood : h.clearSlot.plan.slot.entryGood = h.plan.slot.entryGood := by
  unfold Hub.clearSlot
  cases hs : h.plan.slot <;> simp [hs, PlanSlot.entryGood]

@[simp] theorem Hub.framed_entryGood (p : Port) : (h.framed p).plan.slot.entryGood = h.plan.slot.entryGood := by
  cases p with
  | plan => simp [Hub.framed]
  | power => rfl

/-- A table request other than MAP_PUT enters service with nothing to be judged. -/
theorem Hub.serve_entryGood {v : Service} (hv : ∀ e, v ≠ .put e) : (h.serve v).plan.slot.entryGood = true := by
  cases v with
  | put e => exact absurd rfl (hv e)
  | _ => rfl

end

theorem parsePut_good {b : List Byte} {n : Nat} {e : Entry} (he : Entry.parsePut b n = some e) :
    e.legal = true ∧ e.origin = .planned := by
  simp only [Entry.parsePut, Option.bind_eq_bind, Option.bind_eq_some_iff] at he
  obtain ⟨f, -, c, -, r, -, he⟩ := he
  obtain ⟨hl, he⟩ := Option.ite_none_right_eq_some.mp he
  obtain rfl := Option.some.inj he
  exact ⟨hl, rfl⟩

theorem queryNext_entryGood {h : Hub} {f : Floor} {x y : Int} {w k lo : Nat} {l : List (Nat × Entry)} :
    (h.queryNext f x y w k lo l).plan.slot.entryGood = true := by
  unfold Hub.queryNext
  split
  · rfl
  · simp [Hub.answerQuery]

theorem clearNext_entryGood {h : Hub} {f : Floor} {lo n : Nat} {l : Option Nat} :
    (h.clearNext f lo n l).plan.slot.entryGood = true := by
  unfold Hub.clearNext
  split
  · rfl
  · simp

theorem serveEdit_entryGood {h : Hub} {c : Byte} {v : Service} (hv : (h.serve v).plan.slot.entryGood = true) :
    (h.serveEdit c v).plan.slot.entryGood = true := by
  unfold Hub.serveEdit
  split
  · simp
  · exact hv

theorem action_entryGood {i : Instr} {h : Hub} (hg : h.plan.slot.entryGood = true) :
    (action i h).plan.slot.entryGood = true := by
  cases i with
  | coldStart =>
    dsimp only [action, Hub.coldStart]
    split
    · rfl
    · exact hg
  | coldStartResetEnd =>
    dsimp only [action, Hub.resetEnd]
    split
    · rfl
    · exact hg
  | mapPut body =>
    dsimp only [action, Hub.mapPut]
    split
    · simp
    · next e he =>
      obtain ⟨hl, ho⟩ := parsePut_good he
      exact serveEdit_entryGood (by simp [Hub.serve, PlanSlot.entryGood, hl, ho])
  | frameError p f =>
    obtain he | he | ⟨code, q, he | he⟩ := h.frameError_cases p f <;> simp [action, he, hg]
  | planReplyRead n =>
    dsimp only [action, Hub.planRead]
    split
    · split
      · simp [PlanSlot.entryGood]
      · exact hg
    · exact hg
    · exact hg
  | brushLoad => simp [action, Hub.brushLoad, hg]
  | takeFlags p => cases p <;> simp [action, Hub.takeFlags, hg]
  | setMask => dsimp only [action, Hub.setMask]; split <;> simp
  | setLimits => dsimp only [action, Hub.setLimits]; split <;> simp
  | setSensors => dsimp only [action, Hub.setSensors]; split <;> simp
  | mapPutWrite =>
    dsimp only [action, Hub.putGrant]
    split
    · repeat' split
      all_goals simp
    · exact hg
  | mapDelete =>
    dsimp only [action, Hub.mapDelete]
    split
    · exact serveEdit_entryGood rfl
    · simp
  | mapDeleteWrite =>
    dsimp only [action, Hub.deleteGrant]
    split
    · repeat' split
      all_goals simp
    · exact hg
  | mapConfirm =>
    dsimp only [action, Hub.mapConfirm]
    split
    · exact serveEdit_entryGood rfl
    · simp
  | mapConfirmWrite =>
    dsimp only [action, Hub.confirmGrant]
    split
    · split <;> simp
    · exact hg
  | mapQuery =>
    dsimp only [action, Hub.mapQuery]
    split
    · exact queryNext_entryGood
    · simp
  | mapQueryRead =>
    dsimp only [action, Hub.queryGrant]
    split
    · split
      · split
        · simp [Hub.answerQuery]
        · exact queryNext_entryGood
      · exact queryNext_entryGood
    · exact hg
  | mapClear =>
    dsimp only [action, Hub.mapClear]
    split
    · simp
    · split
      · simp
      · exact clearNext_entryGood
  | mapClearClaim =>
    dsimp only [action, Hub.clearGrant]
    split
    · split
      · rfl
      · exact clearNext_entryGood
      · exact clearNext_entryGood
    · exact hg
  | setFloor => dsimp only [action, Hub.setFloor]; split <;> simp
  | setPose => dsimp only [action, Hub.setPose]; split <;> simp
  | setDock =>
    dsimp only [action, Hub.setDock]
    split
    · split <;> simp
    · simp
  | routeAppend =>
    dsimp only [action, Hub.routeAppend]
    repeat' split
    all_goals simp
  | routeRead => dsimp only [action, Hub.routeRead]; split <;> simp
  | hold => simp [action, Hub.doneHolds, hg]
  | release => dsimp only [action, Hub.release]; split <;> simp [Hub.doneHolds, hg]
  | releaseInhibit => dsimp only [action, Hub.releaseInhibit]; split <;> simp
  | trailRead => dsimp only [action, Hub.trailRead]; split <;> simp
  | trailClear => dsimp only [action, Hub.trailClear]; split <;> simp
  | returnStart => dsimp only [action, Hub.requestReturn]; split <;> simp [Hub.doneReturn, hg]
  | returnCancel => simp [action, Hub.doneReturn, hg]
  | beaconSlot => dsimp only [action, Hub.beaconSlot]; split <;> simp
  | mapSave =>
    dsimp only [action, Hub.mapSave]
    split
    · simp
    · split <;> simp
  | mapLoad =>
    dsimp only [action, Hub.mapLoad]
    repeat' split
    all_goals simp
  | warmRestart => simp [action, Hub.warmRestart]
  | loadMode => dsimp only [action, Hub.loadMode]; split <;> simp [hg]
  | docked => simp [action, hg]
  | undocked => simp [action, Hub.doneReturn, hg]
  | planOtherCommand => dsimp only [action]; split <;> simp [hg]
  | _ => simp [action, hg]

theorem unshaken_entryGood : Unshaken fun h => h.plan.slot.entryGood = true where
  granted h c hg := by simpa using hg
  heard h rx hg := hg
  framed h p hg := by simpa using hg
  replied h p r hg := by simp [hg]
  lost h hg := by simpa using hg

/-! ## The entry of a load's insertion -/

section
variable (h : Hub)

@[simp] theorem Hub.setLoad_phase (o : LoadOp) : (h.setLoad o).store.phase = .load o := rfl

@[simp] theorem Hub.setSave_phase (o : SaveOp) : (h.setSave o).store.phase = .save o := rfl

@[simp] theorem entryGood_idle : StorePhase.idle.entryGood = true := rfl

@[simp] theorem entryGood_save (o : SaveOp) : (StorePhase.save o).entryGood = true := rfl

theorem decode_legal {b : List Byte} {e : Entry} (he : Entry.decode b = some e) : e.legal = true := by
  simp only [Entry.decode, Option.bind_eq_bind, Option.bind_eq_some_iff] at he
  obtain ⟨c, -, f, -, r, -, he⟩ := he
  obtain ⟨hl, he⟩ := Option.ite_none_right_eq_some.mp he
  obtain rfl := Option.some.inj he
  exact hl

@[simp] theorem endStore_phaseGood (r : StoreResult) (b : Bool) : (h.endStore r b).store.phase.entryGood = true := by
  rw [Hub.endStore_phase]
  rfl

@[simp] theorem fetchEntry_phaseGood (o : LoadOp) (i : Nat) : (h.fetchEntry o i).store.phase.entryGood = true := by
  unfold Hub.fetchEntry Hub.loadEnd
  split
  · simp [StorePhase.entryGood]
  · simp

@[simp] theorem removeNext_phaseGood (o : LoadOp) (i : Nat) : (h.removeNext o i).store.phase.entryGood = true := by
  unfold Hub.removeNext
  split
  · simp [StorePhase.entryGood]
  · simp

@[simp] theorem judgeEntry_phaseGood (o : LoadOp) (i : Nat) : (h.judgeEntry o i).store.phase.entryGood = true := by
  unfold Hub.judgeEntry
  split
  · simp [StorePhase.entryGood]
  · split <;> simp

end

theorem loadRead_phaseGood {h : Hub} {o : LoadOp} {a : FlashAnswer} (hg : h.store.phase.entryGood = true) :
    (h.loadRead o a).store.phase.entryGood = true := by
  unfold Hub.loadRead
  split
  · split
    · simp
    · split <;> simp
  · simp
  · split
    · next e he =>
      split
      · exact decode_legal he
      · simp
    · simp
  · exact hg
  · exact hg
  · exact hg
  · exact hg

section
variable (h : Hub)

@[simp] theorem saveNext_phaseGood (o : SaveOp) : (h.saveNext o).store.phase.entryGood = true := by
  unfold Hub.saveNext
  split
  · rfl
  · split <;> simp [Hub.programPage, Hub.programHeader]

theorem saveReady_phaseGood {o : SaveOp} (hg : h.store.phase.entryGood = true) :
    (h.saveReady o).store.phase.entryGood = true := by
  unfold Hub.saveReady
  cases o.step with
  | opening => simp [Hub.eraseNext]
  | erased s => dsimp only; split <;> simp [Hub.eraseNext]
  | reading s => exact hg
  | programmed k => cases k <;> simp [Hub.pageDone, Hub.programHeader]
  | headerSent => simp
  | markerSent => simp

end

theorem abortStore_phase (h : Hub) : h.abortStore.store.phase = .idle := by
  unfold Hub.abortStore
  split
  · simp
  · simp
  · assumption

theorem action_phaseGood {i : Instr} {h : Hub} (hg : h.store.phase.entryGood = true) :
    (action i h).store.phase.entryGood = true := by
  cases i with
  | coldStart =>
    dsimp only [action, Hub.coldStart]
    split
    · rfl
    · exact hg
  | coldStartResetEnd =>
    dsimp only [action, Hub.resetEnd]
    split
    · rfl
    · exact hg
  | mapSave =>
    dsimp only [action, Hub.mapSave]
    split
    · simpa using hg
    · split
      · simp
      · simpa using hg
  | mapLoad =>
    dsimp only [action, Hub.mapLoad]
    repeat' split
    · simpa using hg
    · simpa using hg
    · simpa using hg
    · simp [StorePhase.entryGood, LoadOp.startUpLoad]
  | warmRestart => simp [action, Hub.warmRestart, abortStore_phase]
  | flashStatusRead w =>
    obtain he | he | ⟨op, hp, ⟨n, he⟩ | he⟩ | ⟨op, hp, ho, ⟨n, he⟩ | he⟩ := h.flashStatus_cases (w.getLsbD 0) <;>
      rw [action, he]
    · exact hg
    · simp
    · simp [StorePhase.entryGood]
    · exact saveReady_phaseGood _ hg
    · simp [StorePhase.entryGood, ho]
    · simp [StorePhase.entryGood]
  | saveSlotRead =>
    dsimp only [action, Hub.saveGrant]
    split
    · split
      · split
        · simp [Hub.programPage]
        · simp
      · exact hg
    · exact hg
  | flashReadDone =>
    dsimp only [action, Hub.flashRead]
    split
    · exact loadRead_phaseGood hg
    · exact hg
  | loadRemovalClaim =>
    dsimp only [action, Hub.removalGrant]
    split
    · split
      · split
        · simp [StorePhase.entryGood]
        · simp
      · split <;> simp
      · exact hg
    · exact hg
  | loadInsertWrite =>
    dsimp only [action, Hub.insertGrant]
    split
    · split
      · split
        · simp
        · split <;> simp
      · exact hg
    · exact hg
  | planOtherCommand | counters => dsimp only [action]; split <;> simp [hg]
  | _ => simp [action, hg]

theorem unshaken_phaseGood : Unshaken fun h => h.store.phase.entryGood = true where
  granted h c hg := hg
  heard h rx hg := hg
  framed h p hg := by simpa using hg
  replied h p r hg := by simp [hg]
  lost h hg := by simpa using hg

/-! ## The seconds count -/

theorem sat16_le {n : Nat} (hn : n ≤ 65535) : sat16 n ≤ 65535 := by
  unfold sat16
  omega

theorem endMillisecond_secs {t : TimeBase} (ht : t.secs ≤ 65535) : t.endMillisecond.secs ≤ 65535 := by
  unfold TimeBase.endMillisecond
  dsimp only
  split
  · exact sat16_le ht
  · exact ht

theorem tick_secs {t : TimeBase} (ht : t.secs ≤ 65535) : t.tick.secs ≤ 65535 := by
  unfold TimeBase.tick
  split
  · exact endMillisecond_secs ht
  · exact ht

theorem cold_of_not {i : Instr} (hc : ¬ NotCold i) : ∃ v n, i = .coldStart v n ∨ i = .coldStartResetEnd v n := by
  simpa only [not_forall, not_and_or, not_not] using hc

theorem action_secs {i : Instr} {h : Hub} (hg : h.time.secs ≤ 65535) : (action i h).time.secs ≤ 65535 := by
  by_cases hc : NotCold i
  · cases ht : timeWorks i with
    | false => rw [action_time h hc ht]; exact hg
    | true => rw [eq_of_timeWorks ht]; exact endMillisecond_secs hg
  · obtain ⟨v, n, rfl | rfl⟩ := cold_of_not hc
    · dsimp only [action, Hub.coldStart]
      split
      · exact Nat.zero_le _
      · exact hg
    · dsimp only [action, Hub.resetEnd]
      split
      · exact Nat.zero_le _
      · exact hg

/-! ## The tiles of the evidence -/

/-- Items whose tiles lie on the world. -/
def TilesGood (l : List Item) : Prop := ∀ i ∈ l, i.tile.all Tile.onWorld = true

/-- A wheel's tiles lie on the world. -/
def WheelTrack.good (w : WheelTrack) : Prop := w.contact.all Tile.onWorld = true ∧ w.noted.all Tile.onWorld = true

/-- The law of the evidence's tiles, part by part. -/
structure Hub.Evident (h : Hub) : Prop where
  records : ∀ r ∈ h.queue.records, TilesGood r.items
  work : ∀ w ∈ h.updater.work, TilesGood w.items
  left : h.odo.left.good
  right : h.odo.right.good

theorem Hub.evidenceTiles_iff (h : Hub) : h.evidenceTiles ↔ h.Evident := by
  constructor
  · rintro ⟨hr, hw, hcl, hcr, hnl, hnr⟩
    exact ⟨hr, hw, ⟨hcl, hnl⟩, ⟨hcr, hnr⟩⟩
  · rintro ⟨hr, hw, ⟨hcl, hnl⟩, ⟨hcr, hnr⟩⟩
    exact ⟨hr, hw, hcl, hcr, hnl, hnr⟩

theorem Hub.Evident.same {g h : Hub} (he : h.Evident) (hr : g.queue.records = h.queue.records)
    (hw : g.updater.work = h.updater.work) (hl : g.odo.left = h.odo.left) (hr' : g.odo.right = h.odo.right) :
    g.Evident :=
  ⟨hr ▸ he.records, hw ▸ he.work, hl ▸ he.left, hr' ▸ he.right⟩

theorem Hub.Evident.ite {c : Prop} [Decidable c] {g h : Hub} (hg : g.Evident) (hh : h.Evident) :
    (if c then g else h).Evident := by
  split
  · exact hg
  · exact hh

theorem tilesGood_nil : TilesGood [] := nofun

theorem TilesGood.tail {i : Item} {l : List Item} (hl : TilesGood (i :: l)) : TilesGood l :=
  fun j hj => hl j (List.mem_cons_of_mem i hj)

theorem worldTile_good (p : Point) : p.worldTile.all Tile.onWorld = true := by
  unfold Point.worldTile
  split
  · simpa
  · rfl

theorem contactTile_good (p : Pose) (w : Nat) (s : Side) : (p.contactTile w s).all Tile.onWorld = true := by
  cases s <;> exact worldTile_good _

/-! ### The queue and the updater -/

section
variable (h : Hub)

@[simp] theorem Hub.testBacklog_records : h.testBacklog.queue.records = h.queue.records := by
  unfold Hub.testBacklog
  dsimp only
  split <;> simp

@[simp] theorem Hub.dropHead_records : h.dropHead.queue.records = h.queue.records.tail := by
  simp [Hub.dropHead]

end

theorem dropHead_evident {h : Hub} (he : h.Evident) : h.dropHead.Evident :=
  ⟨fun r hr => he.records r (List.mem_of_mem_tail (by simpa using hr)), by simpa using he.work, by simpa using he.left,
    by simpa using he.right⟩

/-- The Map Updater without work. -/
theorem Hub.Evident.idle {h : Hub} (he : h.Evident) : Hub.Evident { h with updater.work := none } :=
  ⟨he.records, nofun, he.left, he.right⟩

/-- The Map Updater with items of good tiles. -/
theorem Hub.Evident.works {h : Hub} (he : h.Evident) {w : Work} (hw : TilesGood w.items) :
    Hub.Evident { h with updater.work := some w } :=
  ⟨he.records, fun _ hv => Option.mem_some.mp hv ▸ hw, he.left, he.right⟩

theorem beginItems_evident {f : Floor} {l : List Item} (hl : TilesGood l) {h : Hub} (he : h.Evident) :
    (Hub.beginItems f l h).1.Evident := by
  induction l generalizing h with
  | nil => exact he
  | cons item rest ih =>
    unfold Hub.beginItems
    split
    · exact he.same rfl rfl rfl rfl
    · cases item with
      | lowReflect | noReturn =>
        dsimp only
        split <;> exact he.works hl
      | brushLoad p =>
        have hp : Hub.Evident { h with updater.pile := p } := ⟨he.records, he.work, he.left, he.right⟩
        dsimp only
        split
        · exact hp.works hl
        · exact ih hl.tail hp
      | floorClear | wheelDrop | bump | passOver | climb => exact he.works hl

theorem takeRecords_evident {l : List Record} (hl : ∀ r ∈ l, TilesGood r.items) {h : Hub} (he : h.Evident) :
    (Hub.takeRecords l h).Evident := by
  induction l generalizing h with
  | nil => exact he.idle
  | cons r rest ih =>
    have hb := beginItems_evident (f := r.floor) (hl r (List.mem_cons_self ..)) he
    unfold Hub.takeRecords
    exact .ite hb (ih (fun q hq => hl q (List.mem_cons_of_mem r hq)) (dropHead_evident hb))

theorem kickUpdater_evident {h : Hub} (he : h.Evident) : h.kickUpdater.Evident := by
  unfold Hub.kickUpdater
  exact .ite he (takeRecords_evident he.records he)

theorem itemDone_evident {h : Hub} (he : h.Evident) : h.itemDone.Evident := by
  unfold Hub.itemDone
  split
  · next w r rest hw hr =>
    have hi : TilesGood w.items.tail := fun i hi => he.work w hw i (List.mem_of_mem_tail hi)
    have hb := beginItems_evident (f := r.floor) hi he
    have hd := dropHead_evident hb.idle
    refine .ite hb (.ite hd (takeRecords_evident (fun q hq => ?_) hd))
    exact he.records q (hr ▸ List.mem_cons_of_mem r hq)
  · exact he.idle

theorem offer_evident {h : Hub} (he : h.Evident) {r : Record} (hr : TilesGood r.items) : (h.offer r).Evident := by
  have ha : Hub.Evident { h with queue.records := h.queue.records ++ [r] } := by
    refine ⟨fun q hq => ?_, he.work, he.left, he.right⟩
    obtain hq | hq := List.mem_append.mp hq
    · exact he.records q hq
    · exact List.mem_singleton.mp hq ▸ hr
  unfold Hub.offer
  refine .ite he (.ite (kickUpdater_evident ?_) ?_)
  · exact ha.same (by simp) (by simp) (by simp) (by simp)
  · exact he.same (by simp) (by simp) (by simp) (by simp)

theorem post_evident {h : Hub} (he : h.Evident) {k : EvidenceKind} {src : Source} {l : List Item} (hl : TilesGood l) :
    (h.post k src l).Evident := by
  unfold Hub.post
  exact .ite he (offer_evident he hl)

/-- The one item a tile that lies on the world makes. -/
theorem tilesGood_of_tile {t : Option Tile} (ht : t.all Tile.onWorld = true) {f : Tile → Item}
    (hf : ∀ t, (f t).tile = some t) : TilesGood (t.elim [] fun t => [f t]) := by
  cases t with
  | none => exact tilesGood_nil
  | some t =>
    intro i hi
    rw [List.mem_singleton.mp hi, hf]
    exact ht

/-! ### The grants of the updater -/

section
variable (h : Hub)

theorem writeEffect_queue (k : Nat) (e : Entry) (f : Effect) :
    (h.writeEffect k e f).queue = h.queue ∧ (h.writeEffect k e f).updater.work = h.updater.work := by
  unfold Hub.writeEffect
  cases f with
  | unchanged | create => exact ⟨rfl, rfl⟩
  | change => dsimp only; split <;> simp
  | remove => simp
  | conflict => exact ⟨rfl, rfl⟩

end

theorem writeEffect_evident {h : Hub} (he : h.Evident) {k : Nat} {e : Entry} {f : Effect} :
    (h.writeEffect k e f).Evident := by
  obtain ⟨hq, hw⟩ := writeEffect_queue h k e f
  exact he.same (by rw [hq]) hw (by simp) (by simp)

theorem setPhase_evident {h : Hub} (he : h.Evident) {p : ApplyPhase} : (h.setPhase p).Evident := by
  refine ⟨he.records, fun w hw => ?_, he.left, he.right⟩
  obtain ⟨v, hv, rfl⟩ := Option.map_eq_some_iff.mp (Option.mem_def.mp hw)
  exact he.work v hv

theorem beginSearch_evident {h : Hub} (he : h.Evident) : h.beginSearch.Evident := by
  unfold Hub.beginSearch
  split
  · exact setPhase_evident he
  · refine itemDone_evident ?_
    exact he.same (by simp) (by simp) (by simp) (by simp)

theorem writeCreate_evident {h : Hub} (he : h.Evident) {k : Nat} {e : Entry} : (h.writeCreate k e).Evident :=
  he.same (by simp) (by simp) (by simp) (by simp)

theorem noteSecond_evident {h : Hub} (he : h.Evident) {c : SecondPlace} : (h.noteSecond c).Evident :=
  ⟨he.records, he.work, he.left, he.right⟩

theorem applyWrite_evident {h : Hub} (he : h.Evident) {i : Item} {f : Floor} {t : Tile} :
    (h.applyWrite i f t).Evident := by
  unfold Hub.applyWrite
  split
  · split
    · exact itemDone_evident (writeEffect_evident he)
    · exact itemDone_evident he
  · split
    · split
      · exact itemDone_evident (writeCreate_evident he)
      · exact beginSearch_evident he
    · exact itemDone_evident he

theorem brushWrite_evident {h : Hub} (he : h.Evident) {i : Item} {f : Floor} {k : Nat} {t : Tile} :
    (h.brushWrite i f k t).Evident := by
  unfold Hub.brushWrite
  split
  · exact itemDone_evident (writeEffect_evident he)
  · exact itemDone_evident he

theorem applyGrant_evident {h : Hub} (he : h.Evident) : h.applyGrant.Evident := by
  unfold Hub.applyGrant
  split
  · split
    · exact applyWrite_evident (noteSecond_evident he)
    · exact brushWrite_evident (noteSecond_evident he)
    · exact he
  · exact he

theorem plannedGrant_evident {h : Hub} (he : h.Evident) : h.plannedGrant.Evident := by
  have hn := noteSecond_evident (c := .updater) he
  unfold Hub.plannedGrant
  split
  · dsimp only
    split
    · exact setPhase_evident hn
    · exact .ite (itemDone_evident hn) (setPhase_evident hn)
  · exact he

theorem searchGrant_evident {h : Hub} (he : h.Evident) : h.searchGrant.Evident := by
  have hn := noteSecond_evident (c := .updater) he
  unfold Hub.searchGrant
  split
  · dsimp only
    split
    · exact setPhase_evident hn
    · exact setPhase_evident hn
    · refine itemDone_evident ?_
      exact hn.same (by simp) (by simp) (by simp) (by simp)
  · exact he

theorem replaceVictim_evident {h : Hub} (he : h.Evident) {v : Nat} {e : Entry} : (h.replaceVictim v e).Evident :=
  he.same (by simp) (by simp) (by simp) (by simp)

theorem evictGrant_evident {h : Hub} (he : h.Evident) : h.evictGrant.Evident := by
  have hn := noteSecond_evident (c := .updater) he
  unfold Hub.evictGrant
  split
  · dsimp only
    split
    · exact .ite (applyWrite_evident hn)
        (.ite (itemDone_evident (replaceVictim_evident hn)) (beginSearch_evident hn))
    · exact itemDone_evident hn
  · exact he

/-! ### The wheels and the pose -/

theorem restartTracking_evident {h : Hub} (he : h.Evident) : h.restartTracking.Evident :=
  ⟨he.records, he.work, ⟨rfl, rfl⟩, ⟨rfl, rfl⟩⟩

theorem poseEntry_evident {h : Hub} (he : h.Evident) {st : PoseState} : (h.poseEntry st).Evident := by
  refine ⟨?_, ?_, ?_, ?_⟩
  · simpa using he.records
  · simpa using he.work
  · rw [Hub.poseEntry_odo]; exact ⟨rfl, rfl⟩
  · rw [Hub.poseEntry_odo]; exact ⟨rfl, rfl⟩

theorem enterLost_evident {h : Hub} (he : h.Evident) {c : LossCause} : (h.enterLost c).Evident :=
  (poseEntry_evident he (st := .lost c)).same (by simp [Hub.enterLost]) (by simp [Hub.enterLost])
    (by simp [Hub.enterLost]) (by simp [Hub.enterLost])

theorem enterLifted_evident {h : Hub} (he : h.Evident) : h.enterLifted.Evident :=
  (poseEntry_evident he (st := .lifted)).same (by simp [Hub.enterLifted]) (by simp [Hub.enterLifted])
    (by simp [Hub.enterLifted]) (by simp [Hub.enterLifted])

theorem cancelPassOver_evident {h : Hub} (he : h.Evident) : h.cancelPassOver.Evident :=
  ⟨he.records, he.work, ⟨he.left.1, rfl⟩, ⟨he.right.1, rfl⟩⟩

theorem trackWheel_evident {h : Hub} (he : h.Evident) (s : Side) :
    (h.trackWheel s).1.Evident ∧ TilesGood (h.trackWheel s).2 := by
  have hc := contactTile_good h.pose h.sensors.wheelBase s
  have hn : TilesGood ((h.odo.wheel s).noted.elim [] fun n => [.passOver s n]) := by
    refine tilesGood_of_tile ?_ fun _ => rfl
    cases s
    · exact he.left.2
    · exact he.right.2
  unfold Hub.trackWheel
  dsimp only
  split
  · exact ⟨he, tilesGood_nil⟩
  · refine ⟨⟨he.records, he.work, ?_, ?_⟩, hn⟩
    · cases s
      · exact ⟨hc, rfl⟩
      · exact he.left
    · cases s
      · exact he.right
      · exact ⟨hc, rfl⟩

theorem trackWheels_evident {h : Hub} (he : h.Evident) : h.trackWheels.Evident := by
  obtain ⟨hl, il⟩ := trackWheel_evident he .left
  obtain ⟨hr, ir⟩ := trackWheel_evident hl .right
  unfold Hub.trackWheels
  refine post_evident hr fun i hi => ?_
  exact (List.mem_append.mp hi).elim (il i) (ir i)

theorem startCentreLookup_evident {h : Hub} (he : h.Evident) : h.startCentreLookup.Evident :=
  he.same (by simp) (by simp) (by simp) (by simp)

theorem poseUpdated_evident {h : Hub} (he : h.Evident) : h.poseUpdated.Evident := by
  unfold Hub.poseUpdated
  refine trackWheels_evident (startCentreLookup_evident ?_)
  exact he.same (by simp) (by simp) (by simp) (by simp)

theorem changeFloor_evident {h : Hub} (he : h.Evident) {f : Floor} : (h.changeFloor f).Evident :=
  he.same (by simp) (by simp) (by simp) (by simp)

theorem place_evident {h : Hub} (he : h.Evident) {p : Pose} : (h.place p).Evident :=
  ⟨he.records, he.work, ⟨rfl, rfl⟩, ⟨rfl, rfl⟩⟩

theorem markStale_evident {h : Hub} (he : h.Evident) : h.markStale.Evident :=
  he.same (by simp) (by simp) (by simp) (by simp)

theorem recheckAsked_evident {h : Hub} (he : h.Evident) : h.recheckAsked.Evident :=
  he.same (by simp) (by simp) (by simp) (by simp)

theorem docked_evident {h : Hub} (he : h.Evident) : h.docked.Evident := by
  have hd : Hub.Evident ({ h.setReturn .docked with dock.timer := none, dock.fallbacks := 0 }.emptyTrail) :=
    he.same (by simp) (by simp) (by simp) (by simp)
  have hp {g : Hub} (hg : g.Evident) : g.dockedCorrection.Evident := by
    unfold Hub.dockedCorrection
    exact .ite hg (poseUpdated_evident (recheckAsked_evident (markStale_evident (place_evident hg))))
  unfold Hub.docked
  exact .ite (hp hd) (.ite (hd.same (by simp) (by simp) (by simp) (by simp)) hd)

theorem applyTicks_evident {h : Hub} (he : h.Evident) {l r : Int} : (h.applyTicks l r).Evident := by
  unfold Hub.applyTicks
  dsimp only
  refine .ite (poseUpdated_evident ?_) (enterLost_evident ?_)
  · exact ⟨he.records, he.work, he.left, he.right⟩
  · exact ⟨he.records, he.work, he.left, he.right⟩

theorem ask_evident {h : Hub} (he : h.Evident) {a : AskFrame} : (h.ask a).Evident := by
  have hf : h.frameTaken.Evident := he.same (by simp) (by simp) (by simp) (by simp)
  have ht : (h.frameTaken.takeTicks a).Evident := by
    unfold Hub.takeTicks
    exact .ite hf (.ite (applyTicks_evident hf) (enterLost_evident hf))
  unfold Hub.ask
  dsimp only
  split
  · exact ht.same (by simp) (by simp) (by simp) (by simp)
  · exact ht.same (by simp) (by simp) (by simp) (by simp)

/-! ### The scanner and the lines -/

theorem blockItems_good (h : Hub) (k : EvidenceKind) : TilesGood (itemsOf k h.blockItems) := by
  have hc (c : Channel) (p : EvidenceKind × Item) (hp : h.channelItem c = some p) :
      p.2.tile.all Tile.onWorld = true := by
    have hg := worldTile_good (h.pose.point 0 (1000 * (h.scanner.block.offsets.get c).forward)
      (1000 * (h.scanner.block.offsets.get c).lateral))
    unfold Hub.channelItem at hp
    dsimp only [Pose.channelTile] at hp
    split at hp
    · cases hp
    · next t ht =>
      rw [ht] at hg
      split at hp
      · cases hp; exact hg
      · cases hp; exact hg
      · split at hp
        · cases hp
        · cases hp; exact hg
  intro i hi
  obtain ⟨p, hp, rfl⟩ := List.mem_map.mp hi
  have hm := (List.mem_filter.mp hp).1
  unfold Hub.blockItems at hm
  split at hm
  · obtain ⟨c, -, hcp⟩ := List.mem_filterMap.mp hm
    exact hc c p hcp
  · cases hm

theorem blockEnd_evident {h : Hub} (he : h.Evident) : h.blockEnd.Evident := by
  have hn {g : Hub} (hg : g.Evident) {l : List Item} : (g.noteClear l).Evident :=
    hg.same (by simp) (by simp) (by simp) (by simp)
  have hp : ((((h.post .noReturn .floorScanner (itemsOf .noReturn h.blockItems)).post .lowReflect .floorScanner
      (itemsOf .lowReflect h.blockItems)).noteClear (itemsOf .floorClear h.blockItems)).post .floorClear .floorScanner
      (itemsOf .floorClear h.blockItems)).Evident :=
    post_evident (hn (post_evident (post_evident he (blockItems_good h _)) (blockItems_good h _))) (blockItems_good h _)
  have hs {g : Hub} (hg : g.Evident) : g.reportSag.Evident := hg.same (by simp) (by simp) (by simp) (by simp)
  have ht {g : Hub} {c : StopCause} (hg : g.Evident) : (g.trigger c).Evident :=
    hg.same (by simp) (by simp) (by simp) (by simp)
  have hb {g : Hub} (hg : g.Evident) : g.boundary.Evident := hg.same (by simp) (by simp) (by simp) (by simp)
  unfold Hub.blockEnd
  refine hb (.ite (ht ?_) ?_) <;> exact .ite (hs hp) hp

theorem endBlockEarly_evident {h : Hub} (he : h.Evident) : h.endBlockEarly.Evident := by
  unfold Hub.endBlockEarly
  refine .ite ?_ (blockEnd_evident he)
  exact he.same (by simp) (by simp) (by simp) (by simp)

theorem scan_evident {h : Hub} (he : h.Evident) {r : ScanReading} : (h.scan r).Evident := by
  unfold Hub.scan
  refine .ite (.ite (blockEnd_evident ?_) ?_) he
  · exact ⟨he.records, he.work, he.left, he.right⟩
  · exact ⟨he.records, he.work, he.left, he.right⟩

theorem bumpAssert_evident {h : Hub} (he : h.Evident) {s : Side} : (h.bumpAssert s).Evident := by
  have hi : TilesGood ((if h.tracking then h.pose.bumperTile h.limits.radius s else none).elim []
      fun t => [.bump s t]) := by
    refine tilesGood_of_tile ?_ fun _ => rfl
    split
    · cases s <;> exact worldTile_good _
    · rfl
  have hp := post_evident he (k := .bump) (src := .lineMonitor) hi
  unfold Hub.bumpAssert
  refine .ite ?_ hp
  exact hp.same (by simp) (by simp) (by simp) (by simp)

theorem dropAssert_evident {h : Hub} (he : h.Evident) {s : Side} : (h.dropAssert s).Evident := by
  have hi : TilesGood ((if h.tracking then h.pose.contactTile h.sensors.wheelBase s else none).elim []
      fun t => [.wheelDrop s t]) := by
    refine tilesGood_of_tile ?_ fun _ => rfl
    split
    · exact contactTile_good _ _ _
    · rfl
  have ht {g : Hub} {c : StopCause} (hg : g.Evident) : (g.trigger c).Evident :=
    hg.same (by simp) (by simp) (by simp) (by simp)
  have ha {g : Hub} (hg : g.Evident) : g.timingAssert.Evident := hg.same (by simp) (by simp) (by simp) (by simp)
  unfold Hub.dropAssert
  exact ha (cancelPassOver_evident (ht (endBlockEarly_evident (post_evident he hi))))

theorem sampleLine_evident {h : Hub} (he : h.Evident) {v : PerLine Bool} {l : Line} : (h.sampleLine v l).Evident := by
  have hc {g : Hub} (hg : g.Evident) {b : Bool} : (g.lineChanged l b).Evident := by
    have hr : g.timingRelease.Evident := hg.same (by simp) (by simp) (by simp) (by simp)
    cases b with
    | false => cases l <;> first | exact hg | exact hr
    | true => cases l <;> first | exact bumpAssert_evident hg | exact dropAssert_evident hg
  unfold Hub.sampleLine
  refine .ite (hc ?_) ?_
  · exact ⟨he.records, he.work, he.left, he.right⟩
  · exact ⟨he.records, he.work, he.left, he.right⟩

theorem lineSample_evident {h : Hub} (he : h.Evident) {v : PerLine Bool} : (h.lineSample v).Evident := by
  unfold Hub.lineSample
  refine .ite ?_ he
  refine List.foldlRecOn (motive := Hub.Evident) _ _ ?_ fun g hg l _ => sampleLine_evident hg
  exact ⟨he.records, he.work, he.left, he.right⟩

/-! ### Lookups -/

theorem centreEnd_evident {h : Hub} (he : h.Evident) {d : Bool} {p : Option Pile} : (h.centreEnd d p).Evident := by
  have hx : (h.endLookup .centre).Evident := ⟨he.records, he.work, he.left, he.right⟩
  have hr (g : Hub) (b : Bool) (hg : g.Evident) : (g.reportRug b).Evident :=
    hg.same (by simp) (by simp) (by simp) (by simp)
  have hd : (if d then h.endLookup .centre
      else { h.endLookup .centre with odo.slip := p }.reportRug (decide (p = some Pile.high))).Evident := by
    refine .ite hx (hr _ _ ?_)
    exact ⟨he.records, he.work, he.left, he.right⟩
  unfold Hub.centreEnd
  refine .ite (startCentreLookup_evident ?_) hd
  exact ⟨hd.records, hd.work, hd.left, hd.right⟩

theorem lookupGranted_evident {h : Hub} {f : Hub → Hub} (hf : ∀ g : Hub, g.Evident → (f g).Evident) (he : h.Evident) :
    (Hub.lookupGranted f h).Evident := by
  have hg := hf _ (noteSecond_evident (c := .odometry) he)
  exact ⟨hg.records, hg.work, hg.left, hg.right⟩

theorem centreDone_evident {h : Hub} (he : h.Evident) : h.centreDone.Evident := by
  unfold Hub.centreDone
  split
  · exact he
  · split
    · exact centreEnd_evident he
    · split
      · exact lookupGranted_evident (fun g hg => ⟨hg.records, hg.work, hg.left, hg.right⟩) he
      · exact lookupGranted_evident (fun g hg => centreEnd_evident hg) he

theorem passOverEnd_evident {h : Hub} (he : h.Evident) {s : Side} {l : Lookup} : (h.passOverEnd s l).Evident := by
  unfold Hub.passOverEnd
  dsimp only
  split
  · next hc =>
    have ht : ((h.endLookup (.wheel s)).odo.wheel s).contact = some l.tile := by
      simp only [Bool.and_eq_true, decide_eq_true_eq] at hc
      exact hc.1.1.2
    cases s with
    | left =>
      have hl : h.odo.left.contact = some l.tile := ht
      exact ⟨he.records, he.work, ⟨he.left.1, hl ▸ he.left.1⟩, he.right⟩
    | right =>
      have hr : h.odo.right.contact = some l.tile := ht
      exact ⟨he.records, he.work, he.left, ⟨he.right.1, hr ▸ he.right.1⟩⟩
  · exact ⟨he.records, he.work, he.left, he.right⟩

theorem passOverDone_evident {h : Hub} (he : h.Evident) {s : Side} : (h.passOverDone s).Evident := by
  unfold Hub.passOverDone
  split
  · exact he
  · exact .ite (lookupGranted_evident (fun g hg => passOverEnd_evident hg) he) (passOverEnd_evident he)

/-! ### The Map Store and the requests -/

theorem endStore_evident {h : Hub} (he : h.Evident) {r : StoreResult} {b : Bool} : (h.endStore r b).Evident := by
  unfold Hub.endStore
  split
  · exact he
  · exact he.same (by simp) (by simp) (by simp) (by simp)
  · dsimp only
    split
    · refine kickUpdater_evident ?_
      exact he.same (by simp [Hub.endStartUp]) (by simp [Hub.endStartUp]) (by simp [Hub.endStartUp])
        (by simp [Hub.endStartUp])
    · refine kickUpdater_evident ?_
      exact he.same (by simp) (by simp) (by simp) (by simp)

theorem saveReady_evident {h : Hub} (he : h.Evident) {o : SaveOp} : (h.saveReady o).Evident := by
  unfold Hub.saveReady
  cases o.step with
  | markerSent => exact endStore_evident he
  | erased s =>
    refine .ite ?_ ?_ <;> exact he.same (by simp) (by simp) (by simp) (by simp)
  | opening | reading s | programmed s | headerSent => exact he.same (by simp) (by simp) (by simp) (by simp)

theorem flashStatus_evident {h : Hub} (he : h.Evident) {busy : Bool} : (h.flashStatus busy).Evident := by
  obtain hs | hs | ⟨op, -, ⟨n, hs⟩ | hs⟩ | ⟨op, -, -, ⟨n, hs⟩ | hs⟩ := h.flashStatus_cases busy <;> rw [hs]
  · exact he
  · refine endStore_evident ?_
    exact he.same (by simp) (by simp) (by simp) (by simp)
  · exact he.same (by simp) (by simp) (by simp) (by simp)
  · refine saveReady_evident ?_
    exact he.same (by simp) (by simp) (by simp) (by simp)
  · exact he.same (by simp) (by simp) (by simp) (by simp)
  · exact he.same (by simp) (by simp) (by simp) (by simp)

theorem setLoad_evident {h : Hub} (he : h.Evident) {o : LoadOp} : (h.setLoad o).Evident :=
  ⟨he.records, he.work, he.left, he.right⟩

theorem fetchEntry_evident {h : Hub} (he : h.Evident) {o : LoadOp} {i : Nat} : (h.fetchEntry o i).Evident := by
  have hw {d : DockRecord} : ((h.setLoad o).writeDock d).Evident := he.same (by simp) (by simp) (by simp) (by simp)
  have hd : (match o.header with
      | none => h.setLoad o
      | some k =>
        match floorOf k.dockFloor with
        | some f =>
          if masks o.floors f then (h.setLoad o).writeDock ⟨k.dockValid, k.dockX, k.dockY, k.dockHeading, f⟩
          else h.setLoad o
        | none => h.setLoad o).Evident := by
    split
    · exact setLoad_evident he
    · split
      · exact .ite hw (setLoad_evident he)
      · exact setLoad_evident he
  unfold Hub.fetchEntry
  refine .ite ?_ (endStore_evident hd)
  exact he.same (by simp) (by simp) (by simp) (by simp)

theorem removeNext_evident {h : Hub} (he : h.Evident) {o : LoadOp} {i : Nat} : (h.removeNext o i).Evident := by
  unfold Hub.removeNext
  split
  · exact setLoad_evident he
  · exact fetchEntry_evident he

theorem judgeEntry_evident {h : Hub} (he : h.Evident) {o : LoadOp} {i : Nat} : (h.judgeEntry o i).Evident := by
  unfold Hub.judgeEntry
  refine .ite ?_ (.ite (endStore_evident (setLoad_evident he)) (removeNext_evident he))
  exact he.same (by simp) (by simp) (by simp) (by simp)

theorem flashRead_evident {h : Hub} (he : h.Evident) {a : FlashAnswer} : (h.flashRead a).Evident := by
  unfold Hub.flashRead Hub.loadRead
  repeat' split
  all_goals
    first
    | exact he
    | exact setLoad_evident he
    | exact fetchEntry_evident he
    | exact judgeEntry_evident he
    | exact endStore_evident he

theorem removalGrant_evident {h : Hub} (he : h.Evident) : h.removalGrant.Evident := by
  have hr {k : Nat} : (h.removeSlot k).Evident := he.same (by simp) (by simp) (by simp) (by simp)
  unfold Hub.removalGrant
  split
  · split
    · exact .ite (setLoad_evident he) (removeNext_evident he)
    · exact .ite (removeNext_evident hr) (removeNext_evident he)
    · exact he
  · exact he

theorem insertGrant_evident {h : Hub} (he : h.Evident) : h.insertGrant.Evident := by
  have hc {k : Nat} {e : Entry} : (h.createIn k e).Evident := he.same (by simp) (by simp) (by simp) (by simp)
  unfold Hub.insertGrant
  split
  · split
    · refine .ite (fetchEntry_evident he) ?_
      split
      · exact fetchEntry_evident hc
      · exact fetchEntry_evident he
    · exact he
  · exact he

theorem moveToFloor_evident {h : Hub} (he : h.Evident) {f : Floor} : (h.moveToFloor f).Evident := by
  have hc : Hub.Evident { h.changeFloor f with scanner.block.posting := false }.restartTracking.markStale := by
    refine markStale_evident (restartTracking_evident ?_)
    have hf := changeFloor_evident he (f := f)
    exact ⟨hf.records, hf.work, hf.left, hf.right⟩
  unfold Hub.moveToFloor
  exact .ite he (.ite (trackWheels_evident (startCentreLookup_evident hc)) hc)

theorem done_evident {h : Hub} (he : h.Evident) {p : Port} {c : Byte} {l : List Byte} : (h.done p c l).Evident :=
  he.same (by simp) (by simp) (by simp) (by simp)

theorem deny_evident {h : Hub} (he : h.Evident) {p : Port} {c : Byte} {st : Status} : (h.deny p c st).Evident :=
  he.same (by simp) (by simp) (by simp) (by simp)

theorem setLimits_evident {h : Hub} (he : h.Evident) {b : List Byte} : (h.setLimits b).Evident := by
  unfold Hub.setLimits
  split
  · exact deny_evident he
  · refine done_evident (.ite ?_ ?_) <;> exact he.same (by simp) (by simp) (by simp) (by simp)

theorem warmRestart_evident {h : Hub} (he : h.Evident) : h.warmRestart.Evident := by
  have ht : Hub.Evident
      { ({ h with plan.slot := .empty }.restartTrigger).emptyQueue with route.waypoints := [] } :=
    ⟨nofun, nofun, by simpa [Hub.emptyQueue] using he.left, by simpa [Hub.emptyQueue] using he.right⟩
  have ha {g : Hub} (hg : g.Evident) : g.abortStore.Evident := by
    have hm : g.cutMarker.Evident := hg.same (by simp) (by simp) (by simp) (by simp)
    unfold Hub.abortStore
    split
    · exact endStore_evident hm
    · exact endStore_evident hm
    · exact hg
  have hc {g : Hub} (hg : g.Evident) : g.cutLookups.Evident := by
    have hn : Hub.Evident { g with odo.lookups := [], odo.centreAgain := false } :=
      ⟨hg.records, hg.work, hg.left, hg.right⟩
    unfold Hub.cutLookups
    exact .ite (startCentreLookup_evident hn) hn
  unfold Hub.warmRestart
  dsimp only
  refine done_evident ?_
  exact (hc (ha ht)).same (by simp) (by simp) (by simp) (by simp)

theorem climbed_evident {h : Hub} (he : h.Evident) : h.climbed.Evident := by
  have hi : TilesGood ((if h.tracking then h.pose.frontTile h.limits.radius else none).elim []
      fun t => [.climb t]) := by
    refine tilesGood_of_tile ?_ fun _ => rfl
    split
    · exact worldTile_good _
    · rfl
  unfold Hub.climbed
  exact post_evident he hi

theorem action_evident {i : Instr} {h : Hub} (he : h.Evident) : (action i h).Evident := by
  have hf : h.frameTaken.Evident := he.same (by simp) (by simp) (by simp) (by simp)
  cases i with
  | coldStart => exact .ite ⟨nofun, nofun, ⟨rfl, rfl⟩, ⟨rfl, rfl⟩⟩ he
  | coldStartResetEnd => exact .ite ⟨nofun, nofun, ⟨rfl, rfl⟩, ⟨rfl, rfl⟩⟩ he
  | scan => exact scan_evident he
  | lineSample => exact lineSample_evident he
  | liftTimerExpiry =>
    refine enterLifted_evident ?_
    exact ⟨he.records, he.work, he.left, he.right⟩
  | setDownTimerExpiry =>
    have hg : Hub.Evident { h with lines.setDown := none } := ⟨he.records, he.work, he.left, he.right⟩
    exact .ite (enterLost_evident hg) hg
  | ask => exact ask_evident he
  | brushLoad p => exact post_evident hf fun i hi => List.mem_singleton.mp hi ▸ rfl
  | climb => exact climbed_evident hf
  | applyItem => exact applyGrant_evident he
  | plannedRugRead => exact plannedGrant_evident he
  | evictionSearchRead => exact searchGrant_evident he
  | evict => exact evictGrant_evident he
  | centreTileLookupDone => exact centreDone_evident he
  | passOverLookupDone => exact passOverDone_evident he
  | setLimits => exact setLimits_evident he
  | setFloor =>
    dsimp only [action, Hub.setFloor]
    split
    · exact deny_evident he
    · exact deny_evident he
    · exact done_evident (moveToFloor_evident he)
  | setPose =>
    dsimp only [action, Hub.setPose]
    split
    · exact deny_evident he
    · exact deny_evident he
    · exact done_evident (poseUpdated_evident (markStale_evident (changeFloor_evident (place_evident he))))
  | warmRestart => exact warmRestart_evident he
  | docked => exact done_evident (docked_evident he)
  | flashStatusRead => exact flashStatus_evident he
  | flashReadDone => exact flashRead_evident he
  | loadRemovalClaim => exact removalGrant_evident he
  | loadInsertWrite => exact insertGrant_evident he
  | planOtherCommand => exact .ite he ⟨he.records, he.work, he.left, he.right⟩
  | counters =>
    refine done_evident (.ite ?_ he)
    exact ⟨he.records, he.work, he.left, he.right⟩
  | _ => exact he.same (by simp [action]) (by simp [action]) (by simp [action]) (by simp [action])

theorem unshaken_evident : Unshaken Hub.Evident where
  granted h c he := ⟨he.records, he.work, he.left, he.right⟩
  heard h rx he := ⟨he.records, he.work, he.left, he.right⟩
  framed h p he := he.same (by simp) (by simp) (by simp) (by simp)
  replied h p r he := he.same (by simp) (by simp) (by simp) (by simp)
  lost h he := he.same (by simp) (by simp) (by simp) (by simp)

/-! ## What the operations of the table do to the slots -/

section
variable (h : Hub)
@[simp] theorem Hub.advance_slots (n : Nat) : (h.advance n).table.slots = h.table.slots := by simp [Hub.advance]
@[simp] theorem Hub.createIn_slots (k : Nat) (e : Entry) :
    (h.createIn k e).table.slots = h.table.slots.put k e := by simp [Hub.createIn]
@[simp] theorem Hub.removeSlot_slots (k : Nat) : (h.removeSlot k).table.slots = h.table.slots.remove k := by
  simp [Hub.removeSlot]
@[simp] theorem Hub.changeSlot_slots (k : Nat) (o n : Entry) :
    (h.changeSlot k o n).table.slots = h.table.slots.put k n := by
  unfold Hub.changeSlot
  dsimp only
  split <;> simp
end

/-- The rug attributes the table of R1 allows a SENSED entry of a class. -/
def rugFits (cls : HazardClass) (rug : Option RugAttrs) : Prop :=
  (rug.isSome = true ↔ cls = .rug) ∧ ∀ r ∈ rug, (r.brushLift = true ↔ r.pile = .high)

theorem Entry.legal_sensed {e : Entry} (ho : e.origin = .sensed) :
    e.legal = true ↔
      (e.width = 1 ∧ e.height = 1 ∧ (Tile.mk e.x0 e.y0).onWorld = true) ∧ (1 ≤ e.confidence ∧ e.confidence ≤ 15)
      ∧ e.stamp ≤ 65535 ∧ rugFits e.cls e.rug ∧ e.zone = none ∧ e.cls ≠ .nogo ∧ e.cls ≠ .dockZone := by
  unfold Entry.legal rugFits Tile.onWorld
  rw [ho]
  cases hz : e.zone <;> cases hr : e.rug <;> simp <;> grind

/-- The effects that leave a SENSED entry as R1 has it. -/
def Effect.fits : Effect → Prop
  | .create cls conf => (1 ≤ conf ∧ conf ≤ 15) ∧ rugFits cls none ∧ cls ≠ .nogo ∧ cls ≠ .dockZone
  | .change cls conf rug => (1 ≤ conf ∧ conf ≤ 15) ∧ rugFits cls rug ∧ cls ≠ .nogo ∧ cls ≠ .dockZone
  | .unchanged | .remove | .conflict => True

theorem rugFits_none {cls : HazardClass} (hc : cls ≠ .rug) : rugFits cls none := ⟨by simpa using hc, nofun⟩

theorem rugFits_sensed (p : Pile) (d : Bool) : rugFits .rug (some (.sensed p d)) :=
  ⟨by simp, by simp [RugAttrs.sensed]⟩

theorem raised_fits {e : Entry} (hl : e.legal = true) (ho : e.origin = .sensed) {n : Nat} : (raised e n).fits := by
  obtain ⟨-, hc, -, hr, -, hn, hd⟩ := (Entry.legal_sensed ho).mp hl
  exact ⟨by omega, hr, hn, hd⟩

/-- What an item makes of a SENSED entry of R1, and what it creates, is one of R1 (R59 to R65). -/
theorem effect_fits {p : Pile} {i : Item} {o : Option Entry} (ho : ∀ e ∈ o, e.legal = true ∧ e.origin = .sensed) :
    (i.effect p o).fits := by
  cases o with
  | none => cases i <;> trivial
  | some e =>
    obtain ⟨hl, hs⟩ := ho e rfl
    have hraised {n : Nat} := raised_fits hl hs (n := n)
    obtain ⟨-, hc, -, hfit, -, hn, hd⟩ := (Entry.legal_sensed hs).mp hl
    have hdark {r : RugAttrs} (hr : e.rug = some r) :
        (Effect.change e.cls e.confidence (some { r with dark := true })).fits := by
      rw [hr] at hfit
      exact ⟨hc, ⟨by simpa using hfit.1, by simpa using hfit.2⟩, hn, hd⟩
    have hrug {q : Pile} {d : Bool} {n : Nat} (hn : 1 ≤ n ∧ n ≤ 15) :
        (Effect.change .rug n (some (.sensed q d))).fits :=
      ⟨hn, rugFits_sensed q d, nofun, nofun⟩
    have hdrop : (Effect.change .cliff (max e.confidence 6) none).fits :=
      ⟨by omega, rugFits_none nofun, nofun, nofun⟩
    have hlower : ¬ e.confidence ≤ 1 → (Effect.change e.cls (e.confidence - 1) e.rug).fits := fun h1 =>
      ⟨by omega, hfit, hn, hd⟩
    cases i with
    | lowReflect | bump | climb =>
      unfold Item.effect
      dsimp only
      repeat' split
      all_goals first | trivial | exact hraised | exact hdark ‹_›
    | noReturn =>
      unfold Item.effect
      dsimp only
      repeat' split
      all_goals first | trivial | exact hraised
    | floorClear =>
      unfold Item.effect
      dsimp only
      repeat' split
      all_goals first | trivial | exact hlower ‹_›
    | passOver =>
      unfold Item.effect
      dsimp only
      repeat' split
      all_goals first | trivial | exact hrug (by omega)
    | wheelDrop => trivial
    | brushLoad =>
      unfold Item.effect
      dsimp only
      split
      · exact hrug hc
      · trivial

/-- A change that fits leaves a SENSED entry of R1 one of R1, of the same tile. -/
theorem changed_legal {e : Entry} (hl : e.legal = true) (ho : e.origin = .sensed) {secs : Nat} (hs : secs ≤ 65535)
    {c : HazardClass} {n : Nat} {r : Option RugAttrs} (hf : (Effect.change c n r).fits) :
    (e.changed secs c n r).legal = true := by
  unfold Entry.changed
  dsimp only
  split
  · exact hl
  · obtain ⟨ht, -, -, -, hz, -⟩ := (Entry.legal_sensed ho).mp hl
    exact (Entry.legal_sensed (e := { e with cls := c, confidence := n, rug := r, stamp := secs }) ho).mpr
      ⟨ht, hf.1, hs, hf.2.1, hz, hf.2.2⟩

@[simp] theorem Entry.changed_place (e : Entry) (secs : Nat) (c : HazardClass) (n : Nat) (r : Option RugAttrs) :
    (e.changed secs c n r).origin = e.origin ∧ (e.changed secs c n r).floor = e.floor
    ∧ (e.changed secs c n r).x0 = e.x0 ∧ (e.changed secs c n r).y0 = e.y0 := by
  unfold Entry.changed
  dsimp only
  split <;> simp

theorem sensedEntry_legal {h : Hub} {t : Tile} (ht : t.onWorld = true) (hs : h.time.secs ≤ 65535) {f : Floor}
    {c : HazardClass} {n : Nat} (hf : (Effect.create c n).fits) : (h.sensedEntry f t c n).legal = true :=
  (Entry.legal_sensed rfl).mpr ⟨⟨rfl, rfl, ht⟩, hf.1, hs, hf.2.1, rfl, hf.2.2⟩

/-! ## The slots' law -/

/-- The slots as the law has them: in their one form, no two SENSED entries on one floor and tile, each entry one of
R1. -/
structure SlotMap.Lawful (m : SlotMap) : Prop where
  wf : m.wf
  unique : m.sensedUnique
  legal : ∀ p ∈ m, p.2.legal = true

theorem SlotMap.mem_of_entry {m : SlotMap} {k : Nat} {e : Entry} (he : m.entry k = some e) : (k, e) ∈ m := by
  obtain ⟨p, hp, rfl⟩ := Option.map_eq_some_iff.mp he
  have hk : p.1 = k := by simpa using List.find?_some hp
  exact hk ▸ List.mem_of_find?_eq_some hp

theorem SlotMap.entry_of_mem {m : SlotMap} (hm : m.Pairwise fun a b => a.1 < b.1) {p : Nat × Entry} (hp : p ∈ m) :
    m.entry p.1 = some p.2 := by
  induction m with
  | nil => cases hp
  | cons q rest ih =>
    rw [List.pairwise_cons] at hm
    rcases List.mem_cons.mp hp with rfl | hr
    · simp [SlotMap.entry]
    · have hlt : q.1 ≠ p.1 := (hm.1 p hr).ne
      simpa [SlotMap.entry, hlt] using ih hm.2 hr

theorem Entry.sensedOn_iff {e : Entry} {f : Floor} {t : Tile} :
    e.sensedOn f t = true ↔ e.origin = .sensed ∧ e.floor = f ∧ e.x0 = t.x ∧ e.y0 = t.y := by
  simp [Entry.sensedOn]

/-- With no slot in the sensed index no entry is the SENSED one of the floor and tile (R7). -/
theorem SlotMap.sensedAt_none {m : SlotMap} {f : Floor} {t : Tile} (hn : m.sensedAt f t = none) :
    ∀ p ∈ m, p.2.sensedOn f t = false := by
  intro p hp
  have := List.find?_eq_none.mp (Option.map_eq_none_iff.mp hn) p hp
  simpa using this

/-- The slot in the sensed index holds the SENSED entry of the floor and tile (R7). -/
theorem SlotMap.sensedAt_entry {m : SlotMap} (hm : m.Pairwise fun a b => a.1 < b.1) {f : Floor} {t : Tile} {k : Nat}
    {e : Entry} (hk : m.sensedAt f t = some k) (he : m.entry k = some e) : e.sensedOn f t = true := by
  obtain ⟨p, hp, rfl⟩ := Option.map_eq_some_iff.mp hk
  have hs := List.find?_some hp
  rw [SlotMap.entry_of_mem hm (List.mem_of_find?_eq_some hp)] at he
  cases he
  simpa using hs

/-- An entry of R1 put into a slot keeps the law, when it is not a SENSED one whose tile another slot has. -/
theorem SlotMap.Lawful.put {m : SlotMap} (hm : m.Lawful) {k : Nat} {e : Entry} (hk : k < 1024)
    (hl : e.legal = true)
    (hu : e.origin = .sensed → ∀ p ∈ m, p.1 ≠ k → p.2.sensedOn e.floor ⟨e.x0, e.y0⟩ = false) :
    (SlotMap.put k e m).Lawful := by
  have hrise := SlotMap.put_rising k e hm.wf.1
  have hcases (p : Nat × Entry) (hp : p ∈ SlotMap.put k e m) : p ∈ m ∧ p.1 ≠ k ∨ p = (k, e) := by
    by_cases hpk : p.1 = k
    · have h1 := SlotMap.entry_of_mem hrise hp
      rw [hpk, SlotMap.entry_put_same] at h1
      exact .inr (Prod.ext hpk (Option.some.inj h1).symm)
    · exact (SlotMap.put_mem hp).imp (⟨·, hpk⟩) id
  have hclash (q : Nat × Entry) (hq : q ∈ m ∧ q.1 ≠ k) (hs : e.origin = .sensed) (hqs : q.2.origin = .sensed)
      (hf : q.2.floor = e.floor) (hx : q.2.x0 = e.x0) (hy : q.2.y0 = e.y0) : False := by
    have hno := hu hs q hq.1 hq.2
    rw [Entry.sensedOn_iff.mpr ⟨hqs, hf, hx, hy⟩] at hno
    cases hno
  refine ⟨⟨hrise, fun p hp => ?_⟩, fun p hp q hq hps hqs hf hx hy => ?_, fun p hp => ?_⟩
  · obtain ⟨hpm, -⟩ | rfl := hcases p hp
    · exact hm.wf.2 p hpm
    · exact hk
  · obtain hpm | rfl := hcases p hp <;> obtain hqm | rfl := hcases q hq
    · exact hm.unique p hpm.1 q hqm.1 hps hqs hf hx hy
    · exact (hclash p hpm hqs hps hf hx hy).elim
    · exact (hclash q hqm hps hqs hf.symm hx.symm hy.symm).elim
    · rfl
  · obtain ⟨hpm, -⟩ | rfl := hcases p hp
    · exact hm.legal p hpm
    · exact hl

/-- A changed entry of the same origin and place keeps the law. -/
theorem SlotMap.Lawful.change {m : SlotMap} (hm : m.Lawful) {k : Nat} {e n : Entry} (he : m.entry k = some e)
    (hl : n.legal = true) (hp : n.origin = e.origin ∧ n.floor = e.floor ∧ n.x0 = e.x0 ∧ n.y0 = e.y0) :
    (SlotMap.put k n m).Lawful := by
  have hmem := SlotMap.mem_of_entry he
  obtain ⟨ho, hf, hx, hy⟩ := hp
  refine hm.put (hm.wf.2 _ hmem) hl fun hs p hp hpk => ?_
  by_contra hon
  rw [Bool.not_eq_false, Entry.sensedOn_iff] at hon
  obtain ⟨hps, hpf, hpx, hpy⟩ := hon
  exact hpk (hm.unique p hp (k, e) hmem hps (ho ▸ hs) (hpf.trans hf) (hpx.trans hx) (hpy.trans hy))

theorem SlotMap.Lawful.remove {m : SlotMap} (hm : m.Lawful) {k : Nat} : (SlotMap.remove k m).Lawful where
  wf := ⟨SlotMap.remove_rising k hm.wf.1, fun p hp => hm.wf.2 p (SlotMap.remove_mem hp).1⟩
  unique p hp q hq := hm.unique p (SlotMap.remove_mem hp).1 q (SlotMap.remove_mem hq).1
  legal p hp := hm.legal p (SlotMap.remove_mem hp).1

/-! ## The grants that write the table -/

theorem writeEffect_lawful {h : Hub} (hm : h.table.slots.Lawful) (hs : h.time.secs ≤ 65535) {k : Nat} {e : Entry}
    (he : h.table.slots.entry k = some e) (ho : e.origin = .sensed) {f : Effect} (hf : f.fits) :
    (h.writeEffect k e f).table.slots.Lawful := by
  unfold Hub.writeEffect
  cases f with
  | unchanged | create | conflict => exact hm
  | remove => simpa using hm.remove
  | change c n r =>
    have hl := hm.legal _ (SlotMap.mem_of_entry he)
    have hg := hm.change he (changed_legal hl ho hs hf) (by simp)
    dsimp only
    split <;> simpa using hg

theorem writeCreate_lawful {h : Hub} (hm : h.table.slots.Lawful) {k : Nat} (hk : h.table.slots.free = some k) {e : Entry}
    (hl : e.legal = true)
    (hu : e.origin = .sensed → ∀ p ∈ h.table.slots, p.2.sensedOn e.floor ⟨e.x0, e.y0⟩ = false) :
    (h.writeCreate k e).table.slots.Lawful := by
  have hg := hm.put (SlotMap.free_spec hm.wf.1 hk).1 hl fun ho p hp _ => hu ho p hp
  unfold Hub.writeCreate
  dsimp only
  split <;> simpa using hg

theorem beginSearch_slots (h : Hub) : h.beginSearch.table.slots = h.table.slots := by
  unfold Hub.beginSearch
  split <;> simp

theorem applyWrite_lawful {h : Hub} (hm : h.table.slots.Lawful) (hs : h.time.secs ≤ 65535) {i : Item} {f : Floor}
    {t : Tile} (ht : t.onWorld = true) : (h.applyWrite i f t).table.slots.Lawful := by
  unfold Hub.applyWrite
  split
  · next k hk =>
    split
    · next e he =>
      have hon := Entry.sensedOn_iff.mp (SlotMap.sensedAt_entry hm.wf.1 hk he)
      have hfit : (i.effect h.updater.pile (some e)).fits := effect_fits fun _ hx =>
        Option.mem_some.mp hx ▸ ⟨hm.legal _ (SlotMap.mem_of_entry he), hon.1⟩
      simpa using writeEffect_lawful hm hs he hon.1 hfit
    · simpa using hm
  · next hn =>
    have hfit : (i.effect h.updater.pile none).fits := effect_fits nofun
    split
    · next c n hc =>
      rw [hc] at hfit
      split
      · next k hk =>
        simpa using writeCreate_lawful hm hk (sensedEntry_legal (f := f) ht hs hfit) fun _ => SlotMap.sensedAt_none hn
      · rw [beginSearch_slots]; exact hm
    · simpa using hm

theorem brushWrite_lawful {h : Hub} (hm : h.table.slots.Lawful) (hs : h.time.secs ≤ 65535) {i : Item} {f : Floor}
    {k : Nat} {t : Tile} : (h.brushWrite i f k t).table.slots.Lawful := by
  unfold Hub.brushWrite
  split
  · next e he =>
    obtain ⟨he, hon⟩ := Option.filter_eq_some_iff.mp he
    have ho := (Entry.sensedOn_iff.mp hon).1
    have hfit : (i.effect h.updater.pile (some e)).fits := effect_fits fun _ hx =>
      Option.mem_some.mp hx ▸ ⟨hm.legal _ (SlotMap.mem_of_entry he), ho⟩
    simpa using writeEffect_lawful hm hs he ho hfit
  · simpa using hm

theorem applyGrant_lawful {h : Hub} (hm : h.table.slots.Lawful) (hs : h.time.secs ≤ 65535) (he : h.Evident) :
    h.applyGrant.table.slots.Lawful := by
  unfold Hub.applyGrant
  split
  · next item rest phase r _ hw _ =>
    have hi := he.work _ hw item (List.mem_cons_self ..)
    split
    · next t ht =>
      rw [ht] at hi
      exact applyWrite_lawful (h := h.noteSecond .updater) hm hs hi
    · exact brushWrite_lawful (h := h.noteSecond .updater) hm hs
    · exact hm
  · exact hm

theorem replaceVictim_slots (h : Hub) (k : Nat) (e : Entry) :
    (h.replaceVictim k e).table.slots = h.table.slots.put k e := by
  unfold Hub.replaceVictim
  dsimp only
  split <;> simp

theorem evictGrant_lawful {h : Hub} (hm : h.table.slots.Lawful) (hs : h.time.secs ≤ 65535) (he : h.Evident) :
    h.evictGrant.table.slots.Lawful := by
  unfold Hub.evictGrant
  split
  · next item rest victim r _ hw _ =>
    have hi := he.work _ hw item (List.mem_cons_self ..)
    dsimp only
    split
    · next t c n ht hc =>
      rw [ht] at hi
      have hfit : (item.effect h.updater.pile none).fits := effect_fits nofun
      have hc' : item.effect h.updater.pile none = .create c n := hc
      rw [hc'] at hfit
      split
      · exact applyWrite_lawful (h := h.noteSecond .updater) hm hs hi
      · next hnot =>
        split
        · next hv =>
          obtain ⟨old, hold⟩ : ∃ old, h.table.slots.entry victim = some old := by
            cases ho : h.table.slots.entry victim with
            | some old => exact ⟨old, rfl⟩
            | none =>
              have hv' : (h.table.slots.entry victim).elim false (·.evictable c) = true := hv
              rw [ho] at hv'
              cases hv'
          have hn : h.table.slots.sensedAt r.floor t = none := by
            have : ¬ ((h.table.sensedAt r.floor t).isSome || h.table.slots.free.isSome) = true := hnot
            simp only [Bool.or_eq_true, not_or, Option.not_isSome_iff_eq_none] at this
            exact this.1
          rw [show ∀ g : Hub, g.itemDone.table.slots = g.table.slots by simp, replaceVictim_slots]
          exact hm.put (hm.wf.2 _ (SlotMap.mem_of_entry hold)) (sensedEntry_legal (f := r.floor) hi hs hfit)
            fun _ p hp _ => SlotMap.sensedAt_none hn p hp
        · rw [beginSearch_slots]; exact hm
    · simpa using hm
  · exact hm

theorem service_entryGood {h : Hub} (hg : h.plan.slot.entryGood = true) {e : Entry}
    (hv : h.plan.slot.service = some (.put e)) : e.legal = true ∧ e.origin = .planned := by
  cases hs : h.plan.slot with
  | inService v =>
    rw [hs] at hv hg
    cases hv
    simpa [PlanSlot.entryGood] using hg
  | empty | ready => rw [hs] at hv; cases hv

theorem stamped_legal {e : Entry} (hl : e.legal = true) {secs : Nat} (hs : secs ≤ 65535) :
    Entry.legal { e with stamp := secs } = true := by
  unfold Entry.legal at hl ⊢
  simp only [Bool.and_eq_true, decide_eq_true_eq] at hl ⊢
  obtain ⟨⟨⟨⟨⟨⟨⟨h1, h2⟩, h3⟩, -⟩, h4⟩, h5⟩, h6⟩, h7⟩ := hl
  exact ⟨⟨⟨⟨⟨⟨⟨h1, h2⟩, h3⟩, hs⟩, h4⟩, h5⟩, h6⟩, h7⟩

theorem putGrant_lawful {h : Hub} (hm : h.table.slots.Lawful) (hs : h.time.secs ≤ 65535)
    (hg : h.plan.slot.entryGood = true) : h.putGrant.table.slots.Lawful := by
  unfold Hub.putGrant
  split
  · next e hv =>
    obtain ⟨hl, ho⟩ := service_entryGood hg hv
    split
    · simpa using hm
    · next k hk =>
      have hp := hm.put (SlotMap.free_spec hm.wf.1 hk).1 (stamped_legal hl hs) fun hx => by rw [ho] at hx; cases hx
      dsimp only
      split <;> simpa using hp
  · exact hm

theorem deleteGrant_lawful {h : Hub} (hm : h.table.slots.Lawful) : h.deleteGrant.table.slots.Lawful := by
  unfold Hub.deleteGrant
  split
  · split
    · simpa using hm
    · split
      · simpa using hm
      · simpa using hm.remove
  · exact hm

theorem pinned_legal {e : Entry} (hl : e.legal = true) (ho : e.origin = .sensed) {b : Bool} :
    Entry.legal { e with pinned := b } = true :=
  (Entry.legal_sensed (e := { e with pinned := b }) ho).mpr ((Entry.legal_sensed ho).mp hl)

theorem confirmGrant_lawful {h : Hub} (hm : h.table.slots.Lawful) : h.confirmGrant.table.slots.Lawful := by
  unfold Hub.confirmGrant
  split
  · next f t pin _ =>
    split
    · simpa using hm
    · next k e hf =>
      obtain ⟨k', hk, he⟩ := Option.bind_eq_some_iff.mp hf
      obtain ⟨e', he, heq⟩ := Option.map_eq_some_iff.mp he
      cases heq
      have ho := (Entry.sensedOn_iff.mp (SlotMap.sensedAt_entry hm.wf.1 hk he)).1
      have hl := pinned_legal (hm.legal _ (SlotMap.mem_of_entry he)) ho (b := pin)
      simpa using hm.change (n := { e with pinned := pin }) he hl ⟨rfl, rfl, rfl, rfl⟩
  · exact hm

theorem clearGrant_lawful {h : Hub} (hm : h.table.slots.Lawful) : h.clearGrant.table.slots.Lawful := by
  have hn {g : Hub} {f : Floor} {lo n : Nat} {l : Option Nat} : (g.clearNext f lo n l).table.slots = g.table.slots := by
    simp
  unfold Hub.clearGrant
  split
  · dsimp only
    split
    · exact hm
    · simpa [Hub.clearRemove, hn] using hm.remove
    · rw [hn]; exact hm
  · exact hm

theorem removalGrant_lawful {h : Hub} (hm : h.table.slots.Lawful) : h.removalGrant.table.slots.Lawful := by
  unfold Hub.removalGrant
  split
  · split
    · split
      · exact hm
      · simpa using hm
    · split
      · simpa using hm.remove
      · simpa using hm
    · exact hm
  · exact hm

theorem insertGrant_lawful {h : Hub} (hm : h.table.slots.Lawful) (hg : h.store.phase.entryGood = true) :
    h.insertGrant.table.slots.Lawful := by
  unfold Hub.insertGrant
  split
  · next op hp =>
    split
    · next i e hi =>
      have hl : e.legal = true := by
        rw [hp] at hg
        simpa [StorePhase.entryGood, hi] using hg
      split
      · simpa using hm
      · next hno =>
        split
        · next k hk =>
          have hput := hm.put (SlotMap.free_spec hm.wf.1 hk).1 hl fun ho p hpm _ => by
            refine SlotMap.sensedAt_none ?_ p hpm
            simpa [ho, Table.sensedAt] using hno
          simpa using hput
        · simpa using hm
    · exact hm
  · exact hm

theorem action_lawful {i : Instr} {h : Hub} (hm : h.table.slots.Lawful) (hs : h.time.secs ≤ 65535) (he : h.Evident)
    (hp : h.plan.slot.entryGood = true) (hl : h.store.phase.entryGood = true) :
    (action i h).table.slots.Lawful := by
  have hnew : SlotMap.Lawful [] := ⟨⟨.nil, by simp⟩, by simp [SlotMap.sensedUnique], by simp⟩
  by_cases hc : NotCold i
  · cases hw : tableWrites i with
    | false => rw [action_tableSlots h hc hw]; exact hm
    | true =>
      cases i with
      | applyItem => exact applyGrant_lawful hm hs he
      | evict => exact evictGrant_lawful hm hs he
      | mapPutWrite => exact putGrant_lawful hm hs hp
      | mapDeleteWrite => exact deleteGrant_lawful hm
      | mapConfirmWrite => exact confirmGrant_lawful hm
      | mapClearClaim => exact clearGrant_lawful hm
      | loadRemovalClaim => exact removalGrant_lawful hm
      | loadInsertWrite => exact insertGrant_lawful hm hl
      | _ => cases hw
  · obtain ⟨v, n, rfl | rfl⟩ := cold_of_not hc
    · dsimp only [action, Hub.coldStart]
      split
      · exact hnew
      · exact hm
    · dsimp only [action, Hub.resetEnd]
      split
      · exact hnew
      · exact hm

/-! ## The law, and every step -/

/-- The table's law, part by part. -/
structure Hub.Tabled (h : Hub) : Prop where
  slots : h.table.slots.Lawful
  put : h.plan.slot.entryGood = true
  load : h.store.phase.entryGood = true
  evident : h.Evident
  secs : h.time.secs ≤ 65535

theorem Hub.tableLaw_iff (h : Hub) : h.tableLaw ↔ h.Tabled := by
  constructor
  · rintro ⟨hw, hu, hl, hp, hi, he, hs⟩
    exact ⟨⟨hw, hu, hl⟩, hp, hi, h.evidenceTiles_iff.mp he, hs⟩
  · rintro ⟨⟨hw, hu, hl⟩, hp, hi, he, hs⟩
    exact ⟨hw, hu, hl, hp, hi, h.evidenceTiles_iff.mpr he, hs⟩

theorem unshaken_tabled : Unshaken Hub.Tabled where
  granted h c ht := ⟨ht.slots, ht.put, ht.load, unshaken_evident.granted h c ht.evident, ht.secs⟩
  heard h rx ht := ⟨ht.slots, ht.put, ht.load, unshaken_evident.heard h rx ht.evident, ht.secs⟩
  framed h p ht :=
    ⟨by simpa using ht.slots, by simpa using ht.put, by simpa using ht.load, unshaken_evident.framed h p ht.evident,
      by simpa using ht.secs⟩
  replied h p r ht :=
    ⟨by simpa using ht.slots, by simp [ht.put], by simpa using ht.load, unshaken_evident.replied h p r ht.evident,
      by simpa using ht.secs⟩
  lost h ht :=
    ⟨by simpa using ht.slots, by simpa using ht.put, by simpa using ht.load, unshaken_evident.lost h ht.evident,
      by simpa using ht.secs⟩

/-- Settles O57: each action keeps the slots' law with the help of the rest of the law, and each part of the rest. -/
theorem everyStepKeepsTheTableLaw : Obligations.EveryStepKeepsTheTableLaw := by
  intro s t hs ht
  rw [Hub.tableLaw_iff] at hs ⊢
  refine step_keeps (P := Hub.Tabled) (fun h hl => ?_) (fun i s t ht => exec_keeps unshaken_tabled ?_ ht) ht hs
  · unfold Hub.idle
    split
    · exact hl
    · exact ⟨hl.slots, hl.put, hl.load, ⟨hl.evident.records, hl.evident.work, hl.evident.left, hl.evident.right⟩,
        tick_secs hl.secs⟩
  · intro j h _ _ hl
    exact ⟨action_lawful hl.slots hl.secs hl.evident hl.put hl.load, action_entryGood hl.put, action_phaseGood hl.load,
      action_evident hl.evident, action_secs hl.secs⟩

end Sys2Proof.Machine
end

section
/-!
Every step keeps every capacity, the ranges of the Time Base and the flash's one form (O58).
-/

namespace Sys2Proof.Machine

/-! ## The law of capacities, part by part -/

/-- The Drive link's transmit side as R190 has it: at most four frames wait, and none without one being sent. -/
def DriveLink.fits (d : DriveLink) : Prop := d.waiting.length ≤ 4 ∧ (d.sending = none → d.waiting = [])

/-- The law of capacities. -/
structure Hub.Bounded (h : Hub) : Prop where
  queue : h.queue.count ≤ 40 ∧ h.queue.bytes ≤ 640
  route : h.route.waypoints.length ≤ 16
  trail : h.trail.crumbs.length ≤ 128
  link : h.drive.fits
  bad : h.drive.badRun ≤ 8
  fallbacks : h.dock.fallbacks ≤ 3
  eyes : h.beacon.left.inversions ≤ 7 ∧ h.beacon.right.inversions ≤ 7

theorem Hub.capacityLaw_iff (h : Hub) : h.capacityLaw ↔ h.Bounded := by
  constructor
  · rintro ⟨hc, hb, hw, ht, hl, hs, hr, hf, hil, hir⟩
    exact ⟨⟨hc, hb⟩, hw, ht, ⟨hl, hs⟩, hr, hf, ⟨hil, hir⟩⟩
  · rintro ⟨⟨hc, hb⟩, hw, ht, ⟨hl, hs⟩, hr, hf, ⟨hil, hir⟩⟩
    exact ⟨hc, hb, hw, ht, hl, hs, hr, hf, hil, hir⟩

/-- What the law of capacities counts, the transmit side apart. -/
def Hub.counted (h : Hub) : List Record × List Waypoint × List Crumb × Nat × Nat × Nat × Nat :=
  (h.queue.records, h.route.waypoints, h.trail.crumbs, h.drive.badRun, h.dock.fallbacks, h.beacon.left.inversions,
    h.beacon.right.inversions)

/-- A hub that counts the same, on a transmit side that fits, keeps the law. -/
theorem Hub.Bounded.relink {g h : Hub} (hb : h.Bounded) (hc : g.counted = h.counted) (hl : g.drive.fits) :
    g.Bounded := by
  simp only [Hub.counted, Prod.mk.injEq] at hc
  obtain ⟨hq, hw, ht, hr, hf, hil, hir⟩ := hc
  refine ⟨?_, hw ▸ hb.route, ht ▸ hb.trail, hl, hr ▸ hb.bad, hf ▸ hb.fallbacks, hil ▸ hb.eyes.1, hir ▸ hb.eyes.2⟩
  simpa only [EvidenceQueue.count, EvidenceQueue.bytes, hq] using hb.queue

/-- A hub that counts the same on the same link keeps the law. -/
theorem Hub.Bounded.same {g h : Hub} (hb : h.Bounded) (hc : g.counted = h.counted)
    (hd : g.drive.waiting = h.drive.waiting ∧ g.drive.sending = h.drive.sending) : g.Bounded :=
  hb.relink hc (by unfold DriveLink.fits; rw [hd.1, hd.2]; exact hb.link)

theorem Hub.Bounded.ite {c : Prop} [Decidable c] {g h : Hub} (hg : g.Bounded) (hh : h.Bounded) :
    (if c then g else h).Bounded := by
  split
  · exact hg
  · exact hh

/-! ## The link -/

/-- Room is made before a fifth frame waits (R190). -/
theorem enqueueFrame_length {l : List DriveFrame} (hl : l.length ≤ 4) (f : DriveFrame) :
    (enqueueFrame l f).length ≤ 4 := by
  have herase (p : DriveFrame → Bool) (hp : l.any p = true) : (l.eraseP p ++ [f]).length ≤ 4 := by
    obtain ⟨a, ha, hpa⟩ := List.any_eq_true.mp hp
    rw [List.length_append, List.length_eraseP_of_mem ha hpa, List.length_singleton]
    omega
  unfold enqueueFrame
  split
  · simpa
  · split
    · exact herase _ ‹_›
    · split
      · exact herase _ ‹_›
      · split
        · exact hl
        · simp
          omega

theorem send_fits {h : Hub} (hl : h.drive.fits) (f : DriveFrame) : (h.send f).drive.fits := by
  rw [Hub.send_drive]
  cases hs : h.drive.sending with
  | none => exact ⟨hl.1, nofun⟩
  | some g => exact ⟨enqueueFrame_length hl.1 f, fun h => by rw [hs] at h; cases h⟩

@[simp] theorem Hub.send_badRun (h : Hub) (f : DriveFrame) : (h.send f).drive.badRun = h.drive.badRun := by
  rw [Hub.send_drive]
  split <;> rfl

theorem send_bounded {h : Hub} (hb : h.Bounded) {f : DriveFrame} : (h.send f).Bounded :=
  hb.relink (by simp [Hub.counted]) (send_fits hb.link f)

theorem countRefusal_bounded {h : Hub} (hb : h.Bounded) {r : Reason} : (h.countRefusal r).Bounded :=
  hb.same (by simp [Hub.counted]) (by simp)

theorem refuse_bounded {h : Hub} (hb : h.Bounded) {q : Byte} {r : Reason} {b : Bool} : (h.refuse q r b).Bounded :=
  countRefusal_bounded (send_bounded hb)

/-! ## The Permit Controller -/

/-- The permit is not counted. -/
theorem Hub.Bounded.permit {h : Hub} (hb : h.Bounded) {p : PermitCtl} : Hub.Bounded { h with permit := p } :=
  ⟨hb.queue, hb.route, hb.trail, hb.link, hb.bad, hb.fallbacks, hb.eyes⟩

theorem abandonCheck_bounded {h : Hub} (hb : h.Bounded) {r : Reason} : (h.abandonCheck r).Bounded := by
  unfold Hub.abandonCheck
  split
  · exact hb
  · exact refuse_bounded hb.permit

theorem markStale_bounded {h : Hub} (hb : h.Bounded) : h.markStale.Bounded := by
  unfold Hub.markStale
  split
  · exact hb
  · exact .ite (abandonCheck_bounded hb) hb.permit

theorem sendStop_bounded {h : Hub} (hb : h.Bounded) {c : StopCause} : (h.sendStop c).Bounded := by
  unfold Hub.sendStop
  exact (send_bounded hb).permit

theorem setPlan_bounded {h : Hub} (hb : h.Bounded) {f : PlanFlag} : (h.setPlan f).Bounded :=
  hb.same (by simp [Hub.counted]) (by simp)

theorem setPower_bounded {h : Hub} (hb : h.Bounded) {f : PowerFlag} : (h.setPower f).Bounded :=
  hb.same (by simp [Hub.counted]) (by simp)

theorem inhibit_bounded {h : Hub} (hb : h.Bounded) : h.inhibit.Bounded := hb.permit

theorem endPermit_bounded {h : Hub} (hb : h.Bounded) : h.endPermit.Bounded := hb.permit

theorem stopSequence_bounded {h : Hub} (hb : h.Bounded) {c : StopCause} : (h.stopSequence c).Bounded :=
  (setPlan_bounded (sendStop_bounded (abandonCheck_bounded (endPermit_bounded hb)))).permit

theorem linkTrigger_bounded {h : Hub} (hb : h.Bounded) : h.linkTrigger.Bounded := by
  have hs : (((h.endPermit.abandonCheck .inhibited).sendStop .link)).Bounded :=
    sendStop_bounded (abandonCheck_bounded (endPermit_bounded hb))
  unfold Hub.linkTrigger
  split
  · exact hb
  · exact setPower_bounded (setPlan_bounded (inhibit_bounded (abandonCheck_bounded hb)))
  · exact setPower_bounded (setPlan_bounded (inhibit_bounded (setPlan_bounded hs.permit)))
  · exact setPower_bounded (setPlan_bounded (inhibit_bounded (setPlan_bounded hs.permit)))
  · exact setPower_bounded (setPlan_bounded (inhibit_bounded (setPlan_bounded hs.permit)))

theorem restartTrigger_bounded {h : Hub} (hb : h.Bounded) : h.restartTrigger.Bounded := by
  have ha {p : PermitCtl} : (({ h with permit := p }.endPermit).abandonCheck .held).Bounded :=
    abandonCheck_bounded (endPermit_bounded hb.permit)
  unfold Hub.restartTrigger
  dsimp only
  split
  · exact (inhibit_bounded (sendStop_bounded ha)).permit
  · exact (inhibit_bounded (sendStop_bounded ha)).permit
  · exact (inhibit_bounded (sendStop_bounded ha)).permit
  · exact ha
  · exact ha

theorem trigger_bounded {h : Hub} (hb : h.Bounded) {c : StopCause} : (h.trigger c).Bounded := by
  by_cases hl : c = .link
  · subst hl; exact linkTrigger_bounded hb
  by_cases hr : c = .restart
  · subst hr; exact restartTrigger_bounded hb
  cases hst : h.permit.state with
  | moving => rw [h.trigger_in_motion c (.inl hst) hl hr]; exact stopSequence_bounded hb
  | probing => rw [h.trigger_in_motion c (.inr hst) hl hr]; exact stopSequence_bounded hb
  | stopping => rw [h.trigger_at_rest c (.inl hst) hl hr]; exact hb
  | inhibited => rw [h.trigger_at_rest c (.inr hst) hl hr]; exact hb
  | still =>
    unfold Hub.trigger
    rw [hst]
    cases c with
    | hold | poseLost => exact abandonCheck_bounded hb
    | wheelDrop => exact markStale_bounded hb
    | link => exact absurd rfl hl
    | restart => exact absurd rfl hr
    | lapsed | cliffSeen | bump | recheck => exact hb

theorem placeHold_bounded {h : Hub} (hb : h.Bounded) {k : Hold} : (h.placeHold k).Bounded := by
  unfold Hub.placeHold
  exact .ite hb (trigger_bounded hb.permit)

theorem concludeCheck_bounded {h : Hub} (hb : h.Bounded) {c : Check} : (h.concludeCheck c).Bounded := by
  unfold Hub.concludeCheck
  dsimp only
  split
  · exact refuse_bounded hb.permit
  · exact (send_bounded hb.permit).permit

theorem settleCheck_bounded {h : Hub} (hb : h.Bounded) {c : Check} : (h.settleCheck c).Bounded := by
  unfold Hub.settleCheck
  exact .ite hb.permit (.ite (.ite hb.permit (concludeCheck_bounded hb)) (concludeCheck_bounded hb))

theorem settleRecheck_bounded {h : Hub} (hb : h.Bounded) {sw : Sweep} : (h.settleRecheck sw).Bounded := by
  unfold Hub.settleRecheck
  exact .ite hb.permit (.ite (trigger_bounded hb.permit) hb.permit)

theorem startRecheck_bounded {h : Hub} (hb : h.Bounded) : h.startRecheck.Bounded := by
  unfold Hub.startRecheck
  split
  · exact hb
  · exact settleRecheck_bounded hb.permit

theorem startPending_bounded {h : Hub} (hb : h.Bounded) : h.startPending.Bounded := by
  unfold Hub.startPending
  exact .ite (startRecheck_bounded hb.permit).permit hb

theorem recheckAsked_bounded {h : Hub} (hb : h.Bounded) : h.recheckAsked.Bounded := by
  unfold Hub.recheckAsked
  split
  · split
    · exact startRecheck_bounded hb
    · exact hb.permit
  · split
    · exact startRecheck_bounded hb
    · exact hb.permit
  · exact hb
  · exact hb
  · exact hb

theorem notify_bounded {h : Hub} (hb : h.Bounded) : h.notify.Bounded := recheckAsked_bounded (markStale_bounded hb)

theorem checkClaim_bounded {h : Hub} (hb : h.Bounded) : h.checkClaim.Bounded := by
  unfold Hub.checkClaim
  split
  · exact hb
  · exact settleCheck_bounded hb.permit

theorem recheckClaim_bounded {h : Hub} (hb : h.Bounded) : h.recheckClaim.Bounded := by
  unfold Hub.recheckClaim
  split
  · exact startPending_bounded (settleRecheck_bounded hb.permit)
  · exact hb

/-! ## The Evidence Queue and the Map Updater -/

/-- A queue that loses its head records keeps its bounds. -/
theorem Hub.Bounded.shrinks {g h : Hub} (hb : h.Bounded) (hq : g.queue.records <:+ h.queue.records)
    (hc : g.counted.2 = h.counted.2) (hd : g.drive.waiting = h.drive.waiting ∧ g.drive.sending = h.drive.sending) :
    g.Bounded := by
  simp only [Hub.counted, Prod.mk.injEq] at hc
  obtain ⟨hw, ht, hr, hf, hil, hir⟩ := hc
  refine ⟨?_, hw ▸ hb.route, ht ▸ hb.trail, ?_, hr ▸ hb.bad, hf ▸ hb.fallbacks, hil ▸ hb.eyes.1, hir ▸ hb.eyes.2⟩
  · obtain ⟨pre, hpre⟩ := hq
    have h1 := hb.queue
    simp only [EvidenceQueue.count, EvidenceQueue.bytes, ← hpre, List.length_append, List.map_append,
      List.sum_append] at h1 ⊢
    omega
  · unfold DriveLink.fits
    rw [hd.1, hd.2]
    exact hb.link

section
variable (h : Hub)

@[simp] theorem Hub.beginItems_records (f : Floor) (l : List Item) :
    (Hub.beginItems f l h).1.queue.records = h.queue.records := by
  induction l generalizing h with
  | nil => rfl
  | cons item rest ih =>
    unfold Hub.beginItems
    split
    · rfl
    · cases item with
      | lowReflect | noReturn => dsimp only; split <;> rfl
      | brushLoad p =>
        dsimp only
        split
        · rfl
        · exact ih _
      | floorClear | wheelDrop | bump | passOver | climb => rfl

theorem takeRecords_suffix (l : List Record) : (Hub.takeRecords l h).queue.records <:+ h.queue.records := by
  induction l generalizing h with
  | nil => exact List.suffix_refl _
  | cons r rest ih =>
    have hi := h.beginItems_records r.floor r.items
    unfold Hub.takeRecords
    dsimp only
    split
    · rw [hi]
    · refine (ih _).trans ?_
      rw [Hub.dropHead_records, hi]
      exact List.tail_suffix _

end

theorem takeRecords_bounded {h : Hub} (hb : h.Bounded) {l : List Record} : (Hub.takeRecords l h).Bounded :=
  hb.shrinks (takeRecords_suffix h l) (by simp [Hub.counted]) (by simp)

theorem kickUpdater_bounded {h : Hub} (hb : h.Bounded) : h.kickUpdater.Bounded := by
  unfold Hub.kickUpdater
  exact .ite hb (takeRecords_bounded hb)

theorem beginItems_bounded {h : Hub} (hb : h.Bounded) {f : Floor} {l : List Item} :
    (Hub.beginItems f l h).1.Bounded :=
  hb.same (by simp [Hub.counted]) (by simp)

theorem dropHead_bounded {h : Hub} (hb : h.Bounded) : h.dropHead.Bounded :=
  hb.shrinks (by rw [Hub.dropHead_records]; exact List.tail_suffix _) (by simp [Hub.counted]) (by simp)

theorem itemDone_bounded {h : Hub} (hb : h.Bounded) : h.itemDone.Bounded := by
  have hidle {g : Hub} (hg : g.Bounded) : Hub.Bounded { g with updater.work := none } :=
    hg.same rfl ⟨rfl, rfl⟩
  unfold Hub.itemDone
  split
  · have hd {w : Work} {r : Record} :
        Hub.Bounded ({ (Hub.beginItems r.floor w.items.tail h).1 with updater.work := none }.dropHead) :=
      dropHead_bounded (hidle (beginItems_bounded hb))
    exact .ite (beginItems_bounded hb) (.ite hd (takeRecords_bounded hd))
  · exact hidle hb

theorem offer_bounded {h : Hub} (hb : h.Bounded) {r : Record} : (h.offer r).Bounded := by
  unfold Hub.offer
  refine .ite hb ?_
  split
  · next hroom =>
    have ha : Hub.Bounded { h with queue.records := h.queue.records ++ [r] } := by
      refine ⟨?_, hb.route, hb.trail, hb.link, hb.bad, hb.fallbacks, hb.eyes⟩
      simpa [EvidenceQueue.count, EvidenceQueue.bytes] using hroom
    refine kickUpdater_bounded ?_
    exact ha.same (by simp [Hub.counted]) (by simp)
  · exact hb.same (by simp [Hub.counted]) (by simp)

theorem post_bounded {h : Hub} (hb : h.Bounded) {k : EvidenceKind} {src : Source} {l : List Item} :
    (h.post k src l).Bounded := by
  unfold Hub.post
  exact .ite hb (offer_bounded hb)

theorem writeEffect_bounded {h : Hub} (hb : h.Bounded) {k : Nat} {e : Entry} {f : Effect} :
    (h.writeEffect k e f).Bounded := by
  have hg {n : Entry} : (h.changeSlot k e n).Bounded := hb.same (by simp [Hub.counted]) (by simp)
  unfold Hub.writeEffect
  cases f with
  | unchanged | create => exact hb
  | change => exact .ite (notify_bounded hg) hg
  | remove => exact hb.same (by simp [Hub.counted]) (by simp)
  | conflict => exact hb.same rfl ⟨rfl, rfl⟩

theorem writeCreate_bounded {h : Hub} (hb : h.Bounded) {k : Nat} {e : Entry} : (h.writeCreate k e).Bounded := by
  have hg : (h.createIn k e).Bounded := hb.same (by simp [Hub.counted]) (by simp)
  unfold Hub.writeCreate
  exact .ite (notify_bounded hg) hg

theorem setPhase_bounded {h : Hub} (hb : h.Bounded) {p : ApplyPhase} : (h.setPhase p).Bounded :=
  hb.same rfl ⟨rfl, rfl⟩

theorem noteSecond_bounded {h : Hub} (hb : h.Bounded) {c : SecondPlace} : (h.noteSecond c).Bounded :=
  hb.same rfl ⟨rfl, rfl⟩

theorem beginSearch_bounded {h : Hub} (hb : h.Bounded) : h.beginSearch.Bounded := by
  unfold Hub.beginSearch
  split
  · exact setPhase_bounded hb
  · exact itemDone_bounded (setPlan_bounded hb)

theorem applyWrite_bounded {h : Hub} (hb : h.Bounded) {i : Item} {f : Floor} {t : Tile} :
    (h.applyWrite i f t).Bounded := by
  unfold Hub.applyWrite
  split
  · split
    · exact itemDone_bounded (writeEffect_bounded hb)
    · exact itemDone_bounded hb
  · split
    · split
      · exact itemDone_bounded (writeCreate_bounded hb)
      · exact beginSearch_bounded hb
    · exact itemDone_bounded hb

theorem brushWrite_bounded {h : Hub} (hb : h.Bounded) {i : Item} {f : Floor} {k : Nat} {t : Tile} :
    (h.brushWrite i f k t).Bounded := by
  unfold Hub.brushWrite
  split
  · exact itemDone_bounded (writeEffect_bounded hb)
  · exact itemDone_bounded hb

theorem applyGrant_bounded {h : Hub} (hb : h.Bounded) : h.applyGrant.Bounded := by
  unfold Hub.applyGrant
  split
  · split
    · exact applyWrite_bounded (noteSecond_bounded hb)
    · exact brushWrite_bounded (noteSecond_bounded hb)
    · exact hb
  · exact hb

theorem plannedGrant_bounded {h : Hub} (hb : h.Bounded) : h.plannedGrant.Bounded := by
  have hn := noteSecond_bounded (c := .updater) hb
  unfold Hub.plannedGrant
  split
  · dsimp only
    split
    · exact setPhase_bounded hn
    · exact .ite (itemDone_bounded hn) (setPhase_bounded hn)
  · exact hb

theorem searchGrant_bounded {h : Hub} (hb : h.Bounded) : h.searchGrant.Bounded := by
  have hn := noteSecond_bounded (c := .updater) hb
  unfold Hub.searchGrant
  split
  · dsimp only
    split
    · exact setPhase_bounded hn
    · exact setPhase_bounded hn
    · exact itemDone_bounded (setPlan_bounded hn)
  · exact hb

theorem replaceVictim_bounded {h : Hub} (hb : h.Bounded) {v : Nat} {e : Entry} : (h.replaceVictim v e).Bounded := by
  have ha {n : Nat} {t : Table} : (Hub.advance n { h with table := t }).Bounded :=
    hb.same (by simp [Hub.counted]) (by simp)
  unfold Hub.replaceVictim
  exact .ite (notify_bounded ha) ha

theorem evictGrant_bounded {h : Hub} (hb : h.Bounded) : h.evictGrant.Bounded := by
  have hn := noteSecond_bounded (c := .updater) hb
  unfold Hub.evictGrant
  split
  · dsimp only
    split
    · exact .ite (applyWrite_bounded hn)
        (.ite (itemDone_bounded (replaceVictim_bounded hn)) (beginSearch_bounded hn))
    · exact itemDone_bounded hn
  · exact hb

/-! ## The trail, the return and the route -/

/-- Thinning a full trail leaves room for the next crumb (R138). -/
theorem thinned_length {l : List Crumb} (hl : l.length = 128) : (thinned l).length < 128 := by
  have hf : (((l.take 64).zipIdx).filter fun p => p.2 % 2 = 0).length < ((l.take 64).zipIdx).length := by
    rw [List.length_filter_lt_length_iff_exists]
    have h1 : 1 < ((l.take 64).zipIdx).length := by simp [hl]
    exact ⟨((l.take 64).zipIdx)[1], List.getElem_mem h1, by simp⟩
  have hz : ((l.take 64).zipIdx).length = 64 := by simp [hl]
  unfold thinned
  rw [List.length_append, List.length_map, List.length_drop]
  omega

theorem pushCrumb_bounded {h : Hub} (hb : h.Bounded) : h.pushCrumb.Bounded := by
  refine ⟨hb.queue, hb.route, ?_, hb.link, hb.bad, hb.fallbacks, hb.eyes⟩
  have ht := hb.trail
  unfold Hub.pushCrumb
  dsimp only
  rw [List.length_append, List.length_singleton]
  split
  · have := thinned_length (l := h.trail.crumbs) (by omega)
    omega
  · omega

theorem pushTest_bounded {h : Hub} (hb : h.Bounded) : h.pushTest.Bounded := by
  unfold Hub.pushTest
  refine .ite ?_ hb
  split
  · exact pushCrumb_bounded hb
  · exact .ite (pushCrumb_bounded hb) hb

/-- A trail that becomes no longer keeps the law. -/
theorem Hub.Bounded.crumbs {h : Hub} (hb : h.Bounded) {l : List Crumb} (hl : l.length ≤ h.trail.crumbs.length) :
    Hub.Bounded { h with trail.crumbs := l } :=
  ⟨hb.queue, hb.route, hl.trans hb.trail, hb.link, hb.bad, hb.fallbacks, hb.eyes⟩

theorem emptyTrail_bounded {h : Hub} (hb : h.Bounded) : h.emptyTrail.Bounded := hb.crumbs (Nat.zero_le _)

theorem trailUpdate_bounded {h : Hub} (hb : h.Bounded) : h.trailUpdate.Bounded := by
  unfold Hub.trailUpdate
  refine .ite ?_ hb
  split
  · next l hl =>
    obtain ⟨i, -, rfl⟩ := Option.map_eq_some_iff.mp hl
    exact hb.crumbs (List.length_take_le' ..)
  · exact pushTest_bounded hb

theorem setReturn_bounded {h : Hub} (hb : h.Bounded) {st : ReturnState} : (h.setReturn st).Bounded :=
  hb.same (by simp [Hub.counted]) (by simp)

theorem approachTests_bounded {h : Hub} (hb : h.Bounded) : h.approachTests.Bounded :=
  hb.same (by simp [Hub.counted]) (by simp)

theorem trailDone_bounded {h : Hub} (hb : h.Bounded) : h.trailDone.Bounded := by
  unfold Hub.trailDone
  exact .ite (approachTests_bounded (setReturn_bounded hb)) (setReturn_bounded hb)

theorem dockUpdate_bounded {h : Hub} (hb : h.Bounded) : h.dockUpdate.Bounded := by
  have hk : Hub.Bounded { h with trail.crumbs := (h.trail.crumbs.reverse.dropWhile h.nearCrumb).reverse } := by
    refine hb.crumbs ?_
    rw [List.length_reverse, ← List.length_reverse (as := h.trail.crumbs)]
    exact (List.dropWhile_suffix _).length_le
  unfold Hub.dockUpdate
  split
  · exact .ite (trailDone_bounded hk) hk
  · exact approachTests_bounded hb
  all_goals exact hb

theorem dockFloorChange_bounded {h : Hub} (hb : h.Bounded) : h.dockFloorChange.Bounded := by
  unfold Hub.dockFloorChange
  split
  · exact trailDone_bounded hb
  · exact approachTests_bounded hb
  all_goals exact hb

/-- A route that becomes no longer keeps the law. -/
theorem Hub.Bounded.waypoints {h : Hub} (hb : h.Bounded) {l : List Waypoint} (hl : l.length ≤ 16) {n : Nat} :
    Hub.Bounded { h with route.waypoints := l, route.advances := n } :=
  ⟨hb.queue, hl, hb.trail, hb.link, hb.bad, hb.fallbacks, hb.eyes⟩

theorem flushRoute_bounded {h : Hub} (hb : h.Bounded) : h.flushRoute.Bounded :=
  setPlan_bounded (hb.waypoints (Nat.zero_le _))

theorem arrive_bounded {l : List Waypoint} {h : Hub} (hl : l.length ≤ 16) (hb : h.Bounded) :
    (Hub.arrive l h).Bounded := by
  have hn {g : Hub} (hg : g.Bounded) {r : List Waypoint} : (Hub.noteRouteEmpty r g).Bounded := by
    unfold Hub.noteRouteEmpty
    exact .ite (setPlan_bounded hg) hg
  induction l generalizing h with
  | nil => exact hb
  | cons w rest ih =>
    have hr : rest.length ≤ 16 := Nat.le_of_succ_le hl
    have ha : (h.advanceRoute rest).Bounded := setPlan_bounded (hb.waypoints hr)
    unfold Hub.arrive
    exact .ite (.ite (hn (placeHold_bounded ha)) (ih hr (hn ha))) hb

/-- The Odometry Unit is not counted. -/
theorem Hub.Bounded.odo {h : Hub} (hb : h.Bounded) {o : Odometry} : Hub.Bounded { h with odo := o } :=
  ⟨hb.queue, hb.route, hb.trail, hb.link, hb.bad, hb.fallbacks, hb.eyes⟩

theorem startCentreLookup_bounded {h : Hub} (hb : h.Bounded) : h.startCentreLookup.Bounded :=
  hb.same (by simp [Hub.counted]) (by simp)

theorem trackWheel_bounded {h : Hub} (hb : h.Bounded) {s : Side} : (h.trackWheel s).1.Bounded :=
  hb.same (by simp [Hub.counted]) (by simp)

theorem trackWheels_bounded {h : Hub} (hb : h.Bounded) : h.trackWheels.Bounded :=
  post_bounded (trackWheel_bounded (trackWheel_bounded hb))

theorem poseUpdated_bounded {h : Hub} (hb : h.Bounded) : h.poseUpdated.Bounded := by
  unfold Hub.poseUpdated
  exact trackWheels_bounded (startCentreLookup_bounded (dockUpdate_bounded (trailUpdate_bounded
    (arrive_bounded hb.route hb))))

theorem setCauses_bounded {h : Hub} (hb : h.Bounded) {l : LoadSup} : (h.setCauses l).Bounded :=
  hb.same (by simp [Hub.counted]) (by simp)

theorem poseEntry_bounded {h : Hub} (hb : h.Bounded) {st : PoseState} : (h.poseEntry st).Bounded := by
  have hs {o : Odometry} {s : Scanner} : Hub.Bounded { h with odo := o, scanner := s } :=
    ⟨hb.queue, hb.route, hb.trail, hb.link, hb.bad, hb.fallbacks, hb.eyes⟩
  unfold Hub.poseEntry
  exact setCauses_bounded (trigger_bounded hs)

theorem enterLost_bounded {h : Hub} (hb : h.Bounded) {c : LossCause} : (h.enterLost c).Bounded :=
  setPlan_bounded (poseEntry_bounded hb)

theorem enterLifted_bounded {h : Hub} (hb : h.Bounded) : h.enterLifted.Bounded :=
  setPower_bounded (setPlan_bounded (poseEntry_bounded hb))

theorem changeFloor_bounded {h : Hub} (hb : h.Bounded) {f : Floor} : (h.changeFloor f).Bounded := by
  unfold Hub.changeFloor
  exact .ite hb (dockFloorChange_bounded (flushRoute_bounded (pushTest_bounded (emptyTrail_bounded hb.odo))))

theorem place_bounded {h : Hub} (hb : h.Bounded) {p : Pose} : (h.place p).Bounded :=
  ⟨hb.queue, hb.route, hb.trail, hb.link, hb.bad, hb.fallbacks, hb.eyes⟩

theorem applyTicks_bounded {h : Hub} (hb : h.Bounded) {l r : Int} : (h.applyTicks l r).Bounded := by
  have hm {p : Pose} {q : PermitCtl} : Hub.Bounded { h.loadPose p with permit := q } := hb.odo.permit
  unfold Hub.applyTicks
  exact .ite (poseUpdated_bounded hm) (enterLost_bounded hm.odo)

theorem frameTaken_bounded {h : Hub} (hb : h.Bounded) : h.frameTaken.Bounded :=
  ⟨hb.queue, hb.route, hb.trail, hb.link, Nat.zero_le _, hb.fallbacks, hb.eyes⟩

theorem ask_bounded {h : Hub} (hb : h.Bounded) {a : AskFrame} : (h.ask a).Bounded := by
  have hf := frameTaken_bounded hb
  have ht : (h.frameTaken.takeTicks a).Bounded := by
    unfold Hub.takeTicks
    exact .ite hf (.ite (applyTicks_bounded hf) (enterLost_bounded hf))
  unfold Hub.ask
  dsimp only
  split
  · exact refuse_bounded (abandonCheck_bounded ht)
  · exact settleCheck_bounded (abandonCheck_bounded ht).permit

theorem returnStart_bounded {h : Hub} (hb : h.Bounded) : h.returnStart.Bounded := by
  have hf := flushRoute_bounded hb
  have hg : Hub.Bounded { h.flushRoute with dock.fallbacks := 0 } :=
    ⟨hf.queue, hf.route, hf.trail, hf.link, hf.bad, Nat.zero_le _, hf.eyes⟩
  unfold Hub.returnStart
  exact .ite (.ite (approachTests_bounded (setReturn_bounded hg)) (setReturn_bounded hg)) hb

theorem cancelReturn_bounded {h : Hub} (hb : h.Bounded) : h.cancelReturn.Bounded := by
  unfold Hub.cancelReturn
  exact .ite hb (pushTest_bounded (setReturn_bounded hb))

/-- The dock's record and timer are not counted. -/
theorem Hub.Bounded.dock {h : Hub} (hb : h.Bounded) {d : Dock} (hd : d.fallbacks ≤ 3) :
    Hub.Bounded { h with dock := d } :=
  ⟨hb.queue, hb.route, hb.trail, hb.link, hb.bad, hd, hb.eyes⟩

theorem writeDock_bounded {h : Hub} (hb : h.Bounded) {d : DockRecord} : (h.writeDock d).Bounded :=
  approachTests_bounded (hb.dock hb.fallbacks)

theorem docked_bounded {h : Hub} (hb : h.Bounded) : h.docked.Bounded := by
  have hd : Hub.Bounded ({ h.setReturn .docked with dock.timer := none, dock.fallbacks := 0 }.emptyTrail) :=
    emptyTrail_bounded ((setReturn_bounded hb).dock (Nat.zero_le _))
  have hc {g : Hub} (hg : g.Bounded) : g.dockedCorrection.Bounded := by
    unfold Hub.dockedCorrection
    exact .ite hg (poseUpdated_bounded (recheckAsked_bounded (markStale_bounded (place_bounded hg))))
  unfold Hub.docked
  exact .ite (hc hd) (.ite (writeDock_bounded hd) hd)

theorem undocked_bounded {h : Hub} (hb : h.Bounded) : h.undocked.Bounded :=
  pushTest_bounded (emptyTrail_bounded ((setReturn_bounded hb).dock (by simpa using hb.fallbacks)))

theorem dockingExpired_bounded {h : Hub} (hb : h.Bounded) : h.dockingExpired.Bounded := by
  have hn {t : Timer} : Hub.Bounded { h with dock := { h.dock with timer := t, fallbacks := min (h.dock.fallbacks + 1) 3 } } :=
    hb.dock (Nat.min_le_right _ _)
  unfold Hub.dockingExpired
  exact .ite (hb.dock hb.fallbacks) (.ite (setReturn_bounded hn) (.ite (approachTests_bounded (setReturn_bounded hn)) hn))

theorem leaseExpired_bounded {h : Hub} (hb : h.Bounded) : h.leaseExpired.Bounded := by
  have hg : Hub.Bounded (Hub.setPlan .leaseLapsed { h with route.lease := .lapsed, route.leaseTimer := none }) :=
    hb.same (by simp [Hub.counted]) (by simp)
  unfold Hub.leaseExpired
  refine .ite ?_ (placeHold_bounded hg)
  split
  · exact hg
  · exact hg
  · exact hg
  all_goals exact .ite (returnStart_bounded hg) (placeHold_bounded hg)

end Sys2Proof.Machine
end

section
/-!
Every action keeps every capacity, the ranges of the Time Base and the flash's one form (O58).
-/

namespace Sys2Proof.Machine

/-! ## Time and the Drive link -/

theorem stopExpired_bounded {h : Hub} (hb : h.Bounded) : h.stopExpired.Bounded := by
  unfold Hub.stopExpired
  exact .ite (setPower_bounded (setPlan_bounded (inhibit_bounded hb.permit).permit)) hb.permit

/-- The lines are not counted. -/
theorem Hub.Bounded.lines {h : Hub} (hb : h.Bounded) {l : Lines} : Hub.Bounded { h with lines := l } :=
  ⟨hb.queue, hb.route, hb.trail, hb.link, hb.bad, hb.fallbacks, hb.eyes⟩

theorem setDownExpired_bounded {h : Hub} (hb : h.Bounded) : h.setDownExpired.Bounded := by
  unfold Hub.setDownExpired
  exact .ite (enterLost_bounded hb.lines) hb.lines

/-- The oldest waiting frame is sent next (R190). -/
theorem frameSent_bounded {h : Hub} (hb : h.Bounded) : h.frameSent.Bounded := by
  unfold Hub.frameSent
  split
  · exact hb
  · refine ⟨hb.queue, hb.route, hb.trail, ⟨?_, ?_⟩, hb.bad, hb.fallbacks, hb.eyes⟩
    · have hw := hb.link.1
      rw [List.length_tail]
      omega
    · cases h.drive.waiting <;> simp

theorem stopDone_bounded {h : Hub} (hb : h.Bounded) : h.stopDone.Bounded := by
  unfold Hub.stopDone
  split <;> exact hb.permit

theorem countBad_bounded {h : Hub} (hb : h.Bounded) : h.countBad.Bounded :=
  ⟨hb.queue, hb.route, hb.trail, hb.link, Nat.min_le_right _ _, hb.fallbacks, hb.eyes⟩

theorem linkBreak_bounded {h : Hub} (hb : h.Bounded) : h.linkBreak.Bounded := by
  unfold Hub.linkBreak
  refine trigger_bounded ?_
  exact ⟨hb.queue, hb.route, hb.trail, hb.link, Nat.zero_le _, hb.fallbacks, hb.eyes⟩

theorem badFrame_bounded {h : Hub} (hb : h.Bounded) : h.badFrame.Bounded := by
  unfold Hub.badFrame
  exact .ite (linkBreak_bounded (countBad_bounded hb)) (countBad_bounded hb)

/-- The receiver is not counted. -/
theorem Hub.Bounded.hears {h : Hub} (hb : h.Bounded) {rx : DriveRx} : Hub.Bounded { h with drive.rx := rx } :=
  ⟨hb.queue, hb.route, hb.trail, hb.link, hb.bad, hb.fallbacks, hb.eyes⟩

theorem heldLow_bounded {h : Hub} (hb : h.Bounded) {chars : List LinkChar} : (h.heldLow chars).Bounded := by
  unfold Hub.heldLow
  refine .ite ?_ hb
  cases h.drive.rx.follow chars with
  | none => exact hb
  | some rx => exact linkBreak_bounded hb.hears

/-! ## Sensing -/

theorem boundary_bounded {h : Hub} (hb : h.Bounded) : h.boundary.Bounded :=
  hb.same (by simp [Hub.counted]) (by simp)

theorem noteClear_bounded {h : Hub} (hb : h.Bounded) {l : List Item} : (h.noteClear l).Bounded :=
  hb.same rfl ⟨rfl, rfl⟩

theorem blockEnd_bounded {h : Hub} (hb : h.Bounded) : h.blockEnd.Bounded := by
  have hp : (((h.post .noReturn .floorScanner (itemsOf .noReturn h.blockItems)).post .lowReflect .floorScanner
      (itemsOf .lowReflect h.blockItems)).noteClear (itemsOf .floorClear h.blockItems)).Bounded :=
    noteClear_bounded (post_bounded (post_bounded hb))
  have hc := post_bounded hp (k := .floorClear) (src := .floorScanner) (l := itemsOf .floorClear h.blockItems)
  unfold Hub.blockEnd
  refine boundary_bounded (.ite (trigger_bounded ?_) ?_) <;> exact .ite (setCauses_bounded hc) hc

theorem endBlockEarly_bounded {h : Hub} (hb : h.Bounded) : h.endBlockEarly.Bounded := by
  unfold Hub.endBlockEarly
  exact .ite (boundary_bounded hb) (blockEnd_bounded hb)

theorem scan_bounded {h : Hub} (hb : h.Bounded) {r : ScanReading} : (h.scan r).Bounded := by
  have hs {sc : Scanner} : Hub.Bounded { h with scanner := sc } := hb.same rfl ⟨rfl, rfl⟩
  unfold Hub.scan
  exact .ite (.ite (blockEnd_bounded hs) hs) hb

theorem bumpAssert_bounded {h : Hub} (hb : h.Bounded) {s : Side} : (h.bumpAssert s).Bounded := by
  unfold Hub.bumpAssert
  exact .ite (trigger_bounded (post_bounded hb)) (post_bounded hb)

theorem timingAssert_bounded {h : Hub} (hb : h.Bounded) : h.timingAssert.Bounded := by
  unfold Hub.timingAssert
  exact .ite hb.lines (.ite hb.lines hb)

theorem timingRelease_bounded {h : Hub} (hb : h.Bounded) : h.timingRelease.Bounded := by
  unfold Hub.timingRelease
  exact .ite (.ite hb hb.lines) hb.lines

theorem dropAssert_bounded {h : Hub} (hb : h.Bounded) {s : Side} : (h.dropAssert s).Bounded :=
  timingAssert_bounded (trigger_bounded (endBlockEarly_bounded (post_bounded hb))).odo

theorem sampleLine_bounded {h : Hub} (hb : h.Bounded) {v : PerLine Bool} {l : Line} : (h.sampleLine v l).Bounded := by
  have hc {g : Hub} (hg : g.Bounded) {b : Bool} : (g.lineChanged l b).Bounded := by
    cases b with
    | false => cases l <;> first | exact hg | exact timingRelease_bounded hg
    | true => cases l <;> first | exact bumpAssert_bounded hg | exact dropAssert_bounded hg
  unfold Hub.sampleLine
  exact .ite (hc hb.lines.lines) hb.lines

theorem lineSample_bounded {h : Hub} (hb : h.Bounded) {v : PerLine Bool} : (h.lineSample v).Bounded := by
  unfold Hub.lineSample
  refine .ite ?_ hb
  exact List.foldlRecOn (motive := Hub.Bounded) _ _ hb.lines fun g hg l _ => sampleLine_bounded hg

/-! ## Lookups -/

theorem centreEnd_bounded {h : Hub} (hb : h.Bounded) {d : Bool} {p : Option Pile} : (h.centreEnd d p).Bounded := by
  have hx : (h.endLookup .centre).Bounded := hb.odo
  have hd : (if d then h.endLookup .centre
      else { h.endLookup .centre with odo.slip := p }.reportRug (decide (p = some Pile.high))).Bounded :=
    .ite hx (setCauses_bounded hx.odo)
  unfold Hub.centreEnd
  exact .ite (startCentreLookup_bounded hd.odo) hd

theorem afterGrant_bounded {h : Hub} (hb : h.Bounded) {c : Claimant} : (h.afterGrant c).Bounded :=
  hb.same rfl ⟨rfl, rfl⟩

theorem lookupGranted_bounded {h : Hub} {f : Hub → Hub} (hf : ∀ g : Hub, g.Bounded → (f g).Bounded) (hb : h.Bounded) :
    (Hub.lookupGranted f h).Bounded := afterGrant_bounded (hf _ (noteSecond_bounded hb))

theorem centreDone_bounded {h : Hub} (hb : h.Bounded) : h.centreDone.Bounded := by
  unfold Hub.centreDone
  split
  · exact hb
  · split
    · exact centreEnd_bounded hb
    · split
      · exact lookupGranted_bounded (fun g hg => hg.odo) hb
      · exact lookupGranted_bounded (fun g hg => centreEnd_bounded hg) hb

theorem passOverEnd_bounded {h : Hub} (hb : h.Bounded) {s : Side} {l : Lookup} : (h.passOverEnd s l).Bounded := by
  unfold Hub.passOverEnd
  exact .ite hb.odo.odo hb.odo

theorem passOverDone_bounded {h : Hub} (hb : h.Bounded) {s : Side} : (h.passOverDone s).Bounded := by
  unfold Hub.passOverDone
  split
  · exact hb
  · exact .ite (lookupGranted_bounded (fun g hg => passOverEnd_bounded hg) hb) (passOverEnd_bounded hb)

/-! ## The eyes -/

/-- The eyes of a receiver count at most 7 inversions each. -/
def Beacon.fits (b : Beacon) : Prop := b.left.inversions ≤ 7 ∧ b.right.inversions ≤ 7

theorem Hub.Bounded.beacon {h : Hub} (hb : h.Bounded) {b : Beacon} (he : b.fits) : Hub.Bounded { h with beacon := b } :=
  ⟨hb.queue, hb.route, hb.trail, hb.link, hb.bad, hb.fallbacks, he⟩

theorem setEye_bounded {h : Hub} (hb : h.Bounded) {s : Side} {e : Eye} (he : e.inversions ≤ 7) :
    (h.setEye s e).Bounded := by
  cases s with
  | left => exact hb.beacon ⟨he, hb.eyes.2⟩
  | right => exact hb.beacon ⟨hb.eyes.1, he⟩

theorem eye_bounded {h : Hub} (hb : h.Bounded) (s : Side) : (h.beacon.eye s).inversions ≤ 7 := by
  cases s with
  | left => exact hb.eyes.1
  | right => exact hb.eyes.2

theorem sightingTaken_bounded {h : Hub} (hb : h.Bounded) : h.sightingTaken.Bounded := by
  unfold Hub.sightingTaken
  split
  · exact approachTests_bounded hb
  all_goals exact hb.dock hb.fallbacks

theorem freshnessExpired_bounded {h : Hub} (hb : h.Bounded) {s : Side} : (h.freshnessExpired s).Bounded := by
  have hs : (h.setEye s { h.beacon.eye s with fresh := none }).Bounded := setEye_bounded hb (eye_bounded hb s)
  unfold Hub.freshnessExpired Hub.freshnessEnded
  exact .ite (hs.dock hs.fallbacks) hs

theorem primaryFrame_bounded {h : Hub} (hb : h.Bounded) {s : Side} {p : BitVec 16} : (h.primaryFrame s p).Bounded := by
  have hu {f : FieldCode} : (h.uprightFrame s p f).Bounded := by
    unfold Hub.uprightFrame
    dsimp only
    split
    · exact sightingTaken_bounded (setPower_bounded (setEye_bounded hb (Nat.zero_le _)))
    · have hn : (h.setEye s { h.beacon.eye s with inversions := 0, uprightSince := true }).Bounded :=
        setEye_bounded hb (Nat.zero_le _)
      exact hn.beacon hn.eyes
  unfold Hub.primaryFrame
  split
  · exact hu
  · exact hb

theorem flipEye_bounded {h : Hub} (hb : h.Bounded) {s : Side} : (h.flipEye s).Bounded := by
  have hf : (h.setEye s { h.beacon.eye s with
      inverted := !(h.beacon.eye s).inverted, inversions := 0, primary := .hunting, shadow := .hunting }).Bounded :=
    setEye_bounded hb (Nat.zero_le _)
  unfold Hub.flipEye
  refine setPlan_bounded ?_
  exact hf.beacon hf.eyes

/-- The eighth inversion flips the eye (R158). -/
theorem shadowFrame_bounded {h : Hub} (hb : h.Bounded) {s : Side} {p : BitVec 16} {a : Bool} :
    (h.shadowFrame s p a).Bounded := by
  unfold Hub.shadowFrame
  refine .ite ?_ hb
  dsimp only
  split
  · exact flipEye_bounded hb
  · next hn => exact setEye_bounded hb (by dsimp only; omega)

theorem element_bounded {h : Hub} (hb : h.Bounded) {s : Side} {b : Bool} {n : Nat} : (h.element s b n).Bounded := by
  have hs {g : Hub} (hg : g.Bounded) {o : Option (BitVec 16)} {a : Bool} :
      (o.elim g fun p => g.shadowFrame s p a).Bounded := by
    cases o with
    | none => exact hg
    | some p => exact shadowFrame_bounded hg
  have hp {g : Hub} (hg : g.Bounded) {o : Option (BitVec 16)} : (o.elim g fun p => g.primaryFrame s p).Bounded := by
    cases o with
    | none => exact hg
    | some p => exact primaryFrame_bounded hg
  unfold Hub.element
  dsimp only
  refine hs (hp (setEye_bounded hb ?_))
  exact eye_bounded hb s

/-! ## The Map Store -/

theorem endStore_bounded {h : Hub} (hb : h.Bounded) {r : StoreResult} {b : Bool} : (h.endStore r b).Bounded := by
  have hs {st : Store} : (Hub.setPlan .storeDone { h with store := st }).Bounded :=
    hb.same (by simp [Hub.counted]) (by simp)
  unfold Hub.endStore
  split
  · exact hb
  · exact hs
  · exact kickUpdater_bounded (.ite (changeFloor_bounded hs).permit hs)

/-- The store and the flash are not counted. -/
theorem Hub.Bounded.stores {h : Hub} (hb : h.Bounded) {st : Store} {m : Memory} :
    Hub.Bounded { h with store := st, flash := m } :=
  ⟨hb.queue, hb.route, hb.trail, hb.link, hb.bad, hb.fallbacks, hb.eyes⟩

theorem setLoad_bounded {h : Hub} (hb : h.Bounded) {o : LoadOp} : (h.setLoad o).Bounded := hb.stores

theorem setSave_bounded {h : Hub} (hb : h.Bounded) {o : SaveOp} : (h.setSave o).Bounded := hb.stores

theorem flashSend_bounded {h : Hub} (hb : h.Bounded) {l : List FlashCommand} : (h.flashSend l).Bounded :=
  hb.same (by simp [Hub.counted]) (by simp)

theorem cutMarker_bounded {h : Hub} (hb : h.Bounded) : h.cutMarker.Bounded :=
  hb.same (by simp [Hub.counted]) (by simp)

theorem saveNext_bounded {h : Hub} (hb : h.Bounded) {o : SaveOp} : (h.saveNext o).Bounded := by
  unfold Hub.saveNext
  split
  · exact setSave_bounded hb
  · exact .ite (flashSend_bounded (setSave_bounded hb)) (flashSend_bounded (setSave_bounded hb))

theorem saveReady_bounded {h : Hub} (hb : h.Bounded) {o : SaveOp} : (h.saveReady o).Bounded := by
  have hsend {l : List FlashCommand} {p : SaveOp} : (Hub.flashSend l (h.setSave p)).Bounded :=
    flashSend_bounded (setSave_bounded hb)
  unfold Hub.saveReady
  cases o.step with
  | opening => exact hsend
  | erased s => exact .ite hsend (saveNext_bounded hb)
  | reading s => exact hb
  | programmed s =>
    cases s with
    | none => exact hsend
    | some k => exact saveNext_bounded hb
  | headerSent => exact hsend
  | markerSent => exact endStore_bounded hb

theorem saveGrant_bounded {h : Hub} (hb : h.Bounded) : h.saveGrant.Bounded := by
  unfold Hub.saveGrant
  split
  · split
    · exact .ite (flashSend_bounded (setSave_bounded hb)) (saveNext_bounded hb)
    · exact hb
  · exact hb

theorem flashStatus_bounded {h : Hub} (hb : h.Bounded) {busy : Bool} : (h.flashStatus busy).Bounded := by
  have hd : h.flashDone.Bounded := hb.stores
  obtain hs | hs | ⟨op, -, ⟨n, hs⟩ | hs⟩ | ⟨op, -, -, ⟨n, hs⟩ | hs⟩ := h.flashStatus_cases busy <;> rw [hs]
  · exact hb
  · exact endStore_bounded (cutMarker_bounded hb)
  · exact flashSend_bounded (setSave_bounded hb)
  · exact saveReady_bounded hd
  · exact flashSend_bounded (setLoad_bounded hb)
  · exact flashSend_bounded (setLoad_bounded hd)

theorem fetchEntry_bounded {h : Hub} (hb : h.Bounded) {o : LoadOp} {i : Nat} : (h.fetchEntry o i).Bounded := by
  have hl := setLoad_bounded hb (o := o)
  have hd : (match o.header with
      | none => h.setLoad o
      | some k =>
        match floorOf k.dockFloor with
        | some f =>
          if masks o.floors f then (h.setLoad o).writeDock ⟨k.dockValid, k.dockX, k.dockY, k.dockHeading, f⟩
          else h.setLoad o
        | none => h.setLoad o).Bounded := by
    split
    · exact hl
    · split
      · exact .ite (writeDock_bounded hl) hl
      · exact hl
  unfold Hub.fetchEntry
  exact .ite (flashSend_bounded (setLoad_bounded hb)) (endStore_bounded hd)

theorem removeNext_bounded {h : Hub} (hb : h.Bounded) {o : LoadOp} {i : Nat} : (h.removeNext o i).Bounded := by
  unfold Hub.removeNext
  split
  · exact setLoad_bounded hb
  · exact fetchEntry_bounded hb

theorem judgeEntry_bounded {h : Hub} (hb : h.Bounded) {o : LoadOp} {i : Nat} : (h.judgeEntry o i).Bounded := by
  unfold Hub.judgeEntry
  exact .ite (flashSend_bounded (setLoad_bounded hb))
    (.ite (endStore_bounded (setLoad_bounded hb)) (removeNext_bounded hb))

theorem flashRead_bounded {h : Hub} (hb : h.Bounded) {a : FlashAnswer} : (h.flashRead a).Bounded := by
  unfold Hub.flashRead Hub.loadRead
  repeat' split
  all_goals
    first
    | exact hb
    | exact setLoad_bounded hb
    | exact fetchEntry_bounded hb
    | exact judgeEntry_bounded hb
    | exact endStore_bounded hb

theorem removeSlot_bounded {h : Hub} (hb : h.Bounded) {k : Nat} : (h.removeSlot k).Bounded :=
  hb.same (by simp [Hub.counted]) (by simp)

theorem createIn_bounded {h : Hub} (hb : h.Bounded) {k : Nat} {e : Entry} : (h.createIn k e).Bounded :=
  hb.same (by simp [Hub.counted]) (by simp)

theorem changeSlot_bounded {h : Hub} (hb : h.Bounded) {k : Nat} {e n : Entry} : (h.changeSlot k e n).Bounded :=
  hb.same (by simp [Hub.counted]) (by simp)

theorem removalGrant_bounded {h : Hub} (hb : h.Bounded) : h.removalGrant.Bounded := by
  unfold Hub.removalGrant
  split
  · split
    · exact .ite (setLoad_bounded hb) (removeNext_bounded hb)
    · exact .ite (removeNext_bounded (removeSlot_bounded hb)) (removeNext_bounded hb)
    · exact hb
  · exact hb

theorem insertGrant_bounded {h : Hub} (hb : h.Bounded) : h.insertGrant.Bounded := by
  unfold Hub.insertGrant
  split
  · split
    · refine .ite (fetchEntry_bounded hb) ?_
      split
      · exact fetchEntry_bounded (createIn_bounded hb)
      · exact fetchEntry_bounded hb
    · exact hb
  · exact hb

/-! ## Requests -/

theorem reply_bounded {h : Hub} (hb : h.Bounded) {p : Port} {r : Reply} : (h.reply p r).Bounded := by
  cases p with
  | plan => exact setPlan_bounded (hb.same (g := { h with plan.slot := .ready r }) rfl ⟨rfl, rfl⟩)
  | power => exact setPower_bounded (hb.same (g := { h with power.slot := some r }) rfl ⟨rfl, rfl⟩)

theorem done_bounded {h : Hub} (hb : h.Bounded) {p : Port} {c : Byte} {l : List Byte} : (h.done p c l).Bounded :=
  reply_bounded hb

theorem deny_bounded {h : Hub} (hb : h.Bounded) {p : Port} {c : Byte} {st : Status} : (h.deny p c st).Bounded :=
  reply_bounded hb

theorem serve_bounded {h : Hub} (hb : h.Bounded) {v : Service} : (h.serve v).Bounded := hb.same rfl ⟨rfl, rfl⟩

theorem serveEdit_bounded {h : Hub} (hb : h.Bounded) {c : Byte} {v : Service} : (h.serveEdit c v).Bounded := by
  unfold Hub.serveEdit
  exact .ite (deny_bounded hb) (serve_bounded hb)

theorem putGrant_bounded {h : Hub} (hb : h.Bounded) : h.putGrant.Bounded := by
  have hc {k : Nat} {e : Entry} {b : List Byte} : ((h.createIn k e).done .plan 0x10#8 b).Bounded :=
    done_bounded (createIn_bounded hb)
  unfold Hub.putGrant
  split
  · split
    · exact deny_bounded hb
    · exact .ite (notify_bounded hc) hc
  · exact hb

theorem deleteGrant_bounded {h : Hub} (hb : h.Bounded) : h.deleteGrant.Bounded := by
  unfold Hub.deleteGrant
  split
  · refine .ite (reply_bounded hb) ?_
    split
    · exact deny_bounded hb
    · exact done_bounded (removeSlot_bounded hb)
  · exact hb

theorem confirmGrant_bounded {h : Hub} (hb : h.Bounded) : h.confirmGrant.Bounded := by
  unfold Hub.confirmGrant
  split
  · split
    · exact deny_bounded hb
    · exact done_bounded (changeSlot_bounded hb)
  · exact hb

theorem queryNext_bounded {h : Hub} (hb : h.Bounded) {f : Floor} {x y : Int} {w k lo : Nat} {l : List (Nat × Entry)} :
    (h.queryNext f x y w k lo l).Bounded := by
  unfold Hub.queryNext
  split
  · exact serve_bounded hb
  · exact done_bounded hb

theorem queryGrant_bounded {h : Hub} (hb : h.Bounded) : h.queryGrant.Bounded := by
  unfold Hub.queryGrant
  split
  · split
    · exact .ite (done_bounded hb) (queryNext_bounded hb)
    · exact queryNext_bounded hb
  · exact hb

theorem clearNext_bounded {h : Hub} (hb : h.Bounded) {f : Floor} {lo n : Nat} {l : Option Nat} :
    (h.clearNext f lo n l).Bounded := by
  unfold Hub.clearNext
  split
  · exact serve_bounded hb
  · exact done_bounded hb

theorem clearGrant_bounded {h : Hub} (hb : h.Bounded) : h.clearGrant.Bounded := by
  unfold Hub.clearGrant
  split
  · dsimp only
    split
    · exact serve_bounded hb
    · exact clearNext_bounded (removeSlot_bounded hb)
    · exact clearNext_bounded hb
  · exact hb

theorem testBacklog_bounded {h : Hub} (hb : h.Bounded) : h.testBacklog.Bounded :=
  hb.same (by simp [Hub.counted]) (by simp)

/-- The lease is not counted. -/
theorem Hub.Bounded.leased {h : Hub} (hb : h.Bounded) {l : LeaseState} {t : Timer} :
    Hub.Bounded { h with route.lease := l, route.leaseTimer := t } :=
  ⟨hb.queue, hb.route, hb.trail, hb.link, hb.bad, hb.fallbacks, hb.eyes⟩

theorem renewLease_bounded {h : Hub} (hb : h.Bounded) : h.renewLease.Bounded := by
  unfold Hub.renewLease
  exact .ite hb hb.leased

theorem setLimits_bounded {h : Hub} (hb : h.Bounded) {b : List Byte} : (h.setLimits b).Bounded := by
  have hr {l : Limits} {n : Nat} : (Hub.releaseLease n { h with limits := l }).Bounded := by
    have hl : Hub.Bounded { h with limits := l } := hb.same rfl ⟨rfl, rfl⟩
    unfold Hub.releaseLease
    exact .ite hl (.ite hl.leased hl.leased)
  unfold Hub.setLimits
  split
  · exact deny_bounded hb
  · exact done_bounded (.ite hr (testBacklog_bounded hr))

theorem moveToFloor_bounded {h : Hub} (hb : h.Bounded) {f : Floor} : (h.moveToFloor f).Bounded := by
  have hc : Hub.Bounded { h.changeFloor f with scanner.block.posting := false }.restartTracking.markStale := by
    have hf := changeFloor_bounded hb (f := f)
    exact markStale_bounded (hf.same (g := { h.changeFloor f with scanner.block.posting := false }) rfl ⟨rfl, rfl⟩).odo
  unfold Hub.moveToFloor
  exact .ite hb (.ite (trackWheels_bounded (startCentreLookup_bounded hc)) hc)

theorem setFloor_bounded {h : Hub} (hb : h.Bounded) {b : List Byte} : (h.setFloor b).Bounded := by
  unfold Hub.setFloor
  split
  · exact deny_bounded hb
  · exact deny_bounded hb
  · exact done_bounded (moveToFloor_bounded hb)

theorem setPose_bounded {h : Hub} (hb : h.Bounded) {b : List Byte} : (h.setPose b).Bounded := by
  unfold Hub.setPose
  dsimp only
  split
  · exact deny_bounded hb
  · exact deny_bounded hb
  · exact done_bounded (poseUpdated_bounded (markStale_bounded (changeFloor_bounded (place_bounded hb))))

theorem setDock_bounded {h : Hub} (hb : h.Bounded) {b : List Byte} : (h.setDock b).Bounded := by
  unfold Hub.setDock
  refine .ite ?_ (done_bounded (writeDock_bounded hb))
  split
  · exact done_bounded (writeDock_bounded hb)
  · exact deny_bounded hb

/-- A route of 16 takes no further waypoint (R124). -/
theorem routeAppend_bounded {h : Hub} (hb : h.Bounded) {b : List Byte} : (h.routeAppend b).Bounded := by
  unfold Hub.routeAppend
  split
  · exact deny_bounded hb
  · refine .ite (deny_bounded hb) (.ite (deny_bounded hb) ?_)
    split
    · exact deny_bounded hb
    · next hw =>
      have ha {w : Waypoint} : Hub.Bounded { h with route.waypoints := h.route.waypoints ++ [w] } :=
        hb.waypoints (by rw [List.length_append, List.length_singleton]; omega)
      exact done_bounded ha.permit

theorem trailClear_bounded {h : Hub} (hb : h.Bounded) : h.trailClear.Bounded := by
  unfold Hub.trailClear
  exact .ite (deny_bounded hb) (done_bounded (pushTest_bounded (emptyTrail_bounded hb)))

theorem requestReturn_bounded {h : Hub} (hb : h.Bounded) {p : Port} : (h.requestReturn p).Bounded := by
  unfold Hub.requestReturn
  exact .ite (done_bounded (returnStart_bounded hb)) (deny_bounded hb)

theorem mapLoad_bounded {h : Hub} (hb : h.Bounded) {b : List Byte} : (h.mapLoad b).Bounded := by
  unfold Hub.mapLoad
  exact .ite (deny_bounded hb) (.ite (deny_bounded hb) (.ite (deny_bounded hb)
    (reply_bounded (abandonCheck_bounded (flashSend_bounded (setLoad_bounded hb))))))

theorem mapSave_bounded {h : Hub} (hb : h.Bounded) {b : List Byte} : (h.mapSave b).Bounded := by
  unfold Hub.mapSave
  dsimp only
  split
  · exact deny_bounded hb
  · exact .ite (reply_bounded (flashSend_bounded (setSave_bounded hb))) (deny_bounded hb)

theorem warmRestart_bounded {h : Hub} (hb : h.Bounded) : h.warmRestart.Bounded := by
  have hr : ({ h with plan.slot := .empty }.restartTrigger).Bounded :=
    restartTrigger_bounded (hb.same (g := { h with plan.slot := .empty }) rfl ⟨rfl, rfl⟩)
  have he : Hub.Bounded { ({ h with plan.slot := .empty }.restartTrigger).emptyQueue with route.waypoints := [] } :=
    ⟨by simp [Hub.emptyQueue, EvidenceQueue.count, EvidenceQueue.bytes], Nat.zero_le _, hr.trail, hr.link, hr.bad,
      hr.fallbacks, hr.eyes⟩
  have ha {g : Hub} (hg : g.Bounded) : g.abortStore.Bounded := by
    unfold Hub.abortStore
    split
    · exact endStore_bounded (cutMarker_bounded hg)
    · exact endStore_bounded (cutMarker_bounded hg)
    · exact hg
  have hl {g : Hub} (hg : g.Bounded) : g.cutLookups.Bounded := by
    unfold Hub.cutLookups
    exact .ite (startCentreLookup_bounded hg.odo) hg.odo
  have hc {g : Hub} (hg : g.Bounded) : Hub.Bounded { g.cancelReturn with dock.fallbacks := 0 } :=
    (cancelReturn_bounded hg).dock (Nat.zero_le _)
  have hk {g : Hub} (hg : g.Bounded) : g.restartBlock.Bounded := hg.same rfl ⟨rfl, rfl⟩
  have hlease {g : Hub} (hg : g.Bounded) : g.restartLease.Bounded := by
    unfold Hub.restartLease
    exact .ite hg.leased (renewLease_bounded hg)
  unfold Hub.warmRestart
  dsimp only
  refine done_bounded ?_
  exact (hlease (hk (hc (hl (ha he))))).same rfl ⟨rfl, rfl⟩

/-! ## Every command -/

theorem action_bounded {i : Instr} {h : Hub} (hb : h.Bounded) : (action i h).Bounded := by
  have hcold {m : Memory} {n : Nat} : (Hub.cold m n).Bounded := by
    refine ⟨?_, Nat.zero_le _, Nat.zero_le _, ⟨Nat.zero_le _, fun _ => rfl⟩, Nat.zero_le _, Nat.zero_le _, ?_⟩ <;>
      exact ⟨Nat.zero_le _, Nat.zero_le _⟩
  have hf := frameTaken_bounded hb
  cases i with
  | coldStart =>
    refine .ite ?_ hb
    exact (hcold (m := h.fallenFlash) (n := h.freeDraws + h.store.underWay.isSome.toNat)).same rfl ⟨rfl, rfl⟩
  | coldStartResetEnd => exact .ite (hcold (m := h.flash) (n := h.freeDraws)).stores hb
  | scan => exact scan_bounded hb
  | lineSample => exact lineSample_bounded hb
  | liftTimerExpiry => exact enterLifted_bounded hb.lines
  | setDownTimerExpiry => exact setDownExpired_bounded hb
  | permitExpiry =>
    dsimp only [action]
    exact trigger_bounded hb.permit
  | stopTimerExpiry => exact stopExpired_bounded hb
  | leaseTimerExpiry => exact leaseExpired_bounded hb
  | dockingTimerExpiry => exact dockingExpired_bounded hb
  | sightingFreshnessExpiry => exact freshnessExpired_bounded hb
  | ask => exact ask_bounded hb
  | driveFrameSent => exact frameSent_bounded hb
  | stopDone => exact stopDone_bounded hf
  | brushLoad =>
    dsimp only [action, Hub.brushLoad]
    exact post_bounded hf
  | climb => exact post_bounded (h := h.frameTaken) hf
  | driveBadFrame => exact badFrame_bounded hb
  | dlRxHeldLow => exact heldLow_bounded hb
  | checkSweepClaim => exact checkClaim_bounded hb
  | recheckClaim => exact recheckClaim_bounded hb
  | applyItem => exact applyGrant_bounded hb
  | plannedRugRead => exact plannedGrant_bounded hb
  | evictionSearchRead => exact searchGrant_bounded hb
  | evict => exact evictGrant_bounded hb
  | centreTileLookupDone => exact centreDone_bounded hb
  | passOverLookupDone => exact passOverDone_bounded hb
  | beaconFrame e =>
    refine primaryFrame_bounded (setEye_bounded hb ?_)
    exact eye_bounded hb e
  | beaconShadowFrame e =>
    refine shadowFrame_bounded (setEye_bounded hb ?_)
    exact eye_bounded hb e
  | beaconElement => exact element_bounded hb
  | counters =>
    refine done_bounded (.ite ?_ hb)
    exact ⟨hb.queue, hb.route, hb.trail, hb.link, hb.bad, hb.fallbacks, hb.eyes⟩
  | setLimits => exact setLimits_bounded hb
  | mapPut b =>
    dsimp only [action, Hub.mapPut]
    split
    · exact deny_bounded hb
    · exact serveEdit_bounded hb
  | mapPutWrite => exact putGrant_bounded hb
  | mapDelete => exact .ite (serveEdit_bounded hb) (deny_bounded hb)
  | mapDeleteWrite => exact deleteGrant_bounded hb
  | mapConfirm b =>
    dsimp only [action, Hub.mapConfirm]
    split
    · exact serveEdit_bounded hb
    · exact deny_bounded hb
  | mapConfirmWrite => exact confirmGrant_bounded hb
  | mapQuery b =>
    dsimp only [action, Hub.mapQuery]
    split
    · exact queryNext_bounded hb
    · exact deny_bounded hb
  | mapQueryRead => exact queryGrant_bounded hb
  | mapClear b =>
    dsimp only [action, Hub.mapClear]
    split
    · exact deny_bounded hb
    · exact .ite (deny_bounded hb) (clearNext_bounded hb)
  | mapClearClaim => exact clearGrant_bounded hb
  | setFloor => exact setFloor_bounded hb
  | setPose => exact setPose_bounded hb
  | setDock => exact setDock_bounded hb
  | routeAppend => exact routeAppend_bounded hb
  | routeFlush => exact done_bounded (flushRoute_bounded hb)
  | hold => exact done_bounded (placeHold_bounded hb)
  | trailClear => exact trailClear_bounded hb
  | returnStart => exact requestReturn_bounded hb
  | returnCancel => exact done_bounded (cancelReturn_bounded hb)
  | mapSave => exact mapSave_bounded hb
  | mapLoad => exact mapLoad_bounded hb
  | warmRestart => exact warmRestart_bounded hb
  | docked => exact done_bounded (docked_bounded hb)
  | undocked =>
    dsimp only [action, Hub.doneReturn]
    exact done_bounded (undocked_bounded hb)
  | planOtherCommand =>
    refine .ite hb ?_
    exact hb.same rfl ⟨rfl, rfl⟩
  | flashStatusRead => exact flashStatus_bounded hb
  | saveSlotRead => exact saveGrant_bounded hb
  | flashReadDone => exact flashRead_bounded hb
  | loadRemovalClaim => exact removalGrant_bounded hb
  | loadInsertWrite => exact insertGrant_bounded hb
  | beaconSlot b =>
    have hs {k : Nat} {m : MatchSlot} : (h.beacon.setSlot k m).fits := by
      unfold Beacon.setSlot
      split <;> exact hb.eyes
    exact .ite (done_bounded (hb.beacon hs)) (deny_bounded hb)
  | _ => exact hb.same (by simp [action, Hub.counted]) (by simp [action])

theorem unshaken_bounded : Unshaken Hub.Bounded where
  granted h c hb := afterGrant_bounded hb
  heard h rx hb := hb.hears
  framed h p hb := by
    cases p with
    | plan => exact (renewLease_bounded hb).same (by simp [Hub.counted, Hub.framed]) (by simp [Hub.framed])
    | power => exact hb
  replied h p r hb := reply_bounded hb
  lost h hb := setPlan_bounded (renewLease_bounded hb)

end Sys2Proof.Machine
end

section
/-!
Every step keeps every capacity, the ranges of the Time Base and the flash's one form: the statement (O58).
-/

namespace Sys2Proof.Machine

/-! ## The ranges of the Time Base -/

theorem cold_time_law : (Hub.cold [] 0).time.law := by decide

theorem millisecondPeriods_pos (p : Nat) : 0 < millisecondPeriods p := by
  unfold millisecondPeriods
  split <;> omega

theorem endMillisecond_law {t : TimeBase} (ht : t.law) : t.endMillisecond.law :=
  ⟨Nat.mod_lt _ (by omega), millisecondPeriods_pos _, Nat.mod_lt _ (by omega), endMillisecond_secs ht.2.2.2⟩

theorem tick_law {t : TimeBase} (ht : t.law) : t.tick.law := by
  unfold TimeBase.tick
  split
  · exact endMillisecond_law ht
  · next hn => exact ⟨ht.1, Nat.not_le.mp hn, ht.2.2⟩

theorem action_time_law {i : Instr} {h : Hub} (ht : h.time.law) : (action i h).time.law := by
  by_cases hc : NotCold i
  · cases hw : timeWorks i with
    | false => rw [action_time h hc hw]; exact ht
    | true => rw [eq_of_timeWorks hw]; exact endMillisecond_law ht
  · obtain ⟨v, n, rfl | rfl⟩ := cold_of_not hc
    · dsimp only [action, Hub.coldStart]
      split
      · exact cold_time_law
      · exact ht
    · dsimp only [action, Hub.resetEnd]
      split
      · exact cold_time_law
      · exact ht

theorem unshaken_time_law : Unshaken fun h => h.time.law where
  granted h c ht := ht
  heard h rx ht := ht
  framed h p ht := by simpa using ht
  replied h p r ht := by simpa using ht
  lost h ht := by simpa using ht

/-! ## The flash's one form -/

theorem endStore_wf {h : Hub} {r : StoreResult} {b : Bool} (hm : h.flash.wf = true) :
    (h.endStore r b).flash.wf = true := by simpa using hm

theorem saveReady_wf {h : Hub} (hm : h.flash.wf = true) (o : SaveOp) : (h.saveReady o).flash.wf = true := by
  have hsend {l : List FlashCommand} {p : SaveOp} : (Hub.flashSend l (h.setSave p)).flash.wf = true :=
    Hub.flashSend_wf l hm
  have hnext {p : SaveOp} : (h.saveNext p).flash.wf = true := by
    unfold Hub.saveNext
    split
    · exact hm
    · split
      · exact hsend
      · exact hsend
  unfold Hub.saveReady
  cases o.step with
  | opening | headerSent => exact hsend
  | erased s =>
    dsimp only
    split
    · exact hsend
    · exact hnext
  | reading s => exact hm
  | programmed s =>
    cases s with
    | none => exact hsend
    | some k => exact hnext
  | markerSent => exact endStore_wf hm

theorem flashStatus_wf {h : Hub} (hm : h.flash.wf = true) (busy : Bool) : (h.flashStatus busy).flash.wf = true := by
  have hd : h.flashDone.flash.wf = true := Hub.flashDone_wf hm
  obtain hs | hs | ⟨op, -, ⟨n, hs⟩ | hs⟩ | ⟨op, -, -, ⟨n, hs⟩ | hs⟩ := h.flashStatus_cases busy <;> rw [hs]
  · exact hm
  · exact endStore_wf (Hub.cutMarker_wf hm)
  · exact Hub.flashSend_wf _ hm
  · exact saveReady_wf hd _
  · exact Hub.flashSend_wf _ hm
  · exact Hub.flashSend_wf _ hd

theorem abortStore_wf {h : Hub} (hm : h.flash.wf = true) : h.abortStore.flash.wf = true := by
  unfold Hub.abortStore
  split
  · exact endStore_wf (Hub.cutMarker_wf hm)
  · exact endStore_wf (Hub.cutMarker_wf hm)
  · exact hm

theorem warmRestart_wf {h : Hub} (hm : h.flash.wf = true) : h.warmRestart.flash.wf = true := by
  have ha : Memory.wf (Hub.abortStore
      { ({ h with plan.slot := .empty }.restartTrigger).emptyQueue with route.waypoints := [] }).flash = true :=
    abortStore_wf (by simpa [Hub.emptyQueue] using hm)
  simpa [Hub.warmRestart, Hub.restartBlock, Hub.resetAttention] using ha

theorem action_wf {i : Instr} {h : Hub} (hm : h.flash.wf = true) : (action i h).flash.wf = true := by
  by_cases hc : NotCold i
  · cases hw : flashWorks i with
    | false => rw [action_flash h hc hw]; exact hm
    | true =>
      obtain ⟨w, b, rfl | rfl⟩ := exists_of_flashWorks hw
      · exact flashStatus_wf hm _
      · exact warmRestart_wf hm
  · obtain ⟨v, n, rfl | rfl⟩ := cold_of_not hc
    · dsimp only [action, Hub.coldStart]
      split
      · exact Hub.fallenFlash_wf hm
      · exact hm
    · dsimp only [action, Hub.resetEnd]
      split
      · exact hm
      · exact hm

theorem unshaken_wf : Unshaken fun h => h.flash.wf = true where
  granted h c hm := hm
  heard h rx hm := hm
  framed h p hm := by simpa using hm
  replied h p r hm := by simpa using hm
  lost h hm := by simpa using hm

/-! ## Every step -/

theorem idle_bounded {h : Hub} (hb : h.Bounded) : h.idle.Bounded := by
  unfold Hub.idle
  exact .ite hb ⟨hb.queue, hb.route, hb.trail, hb.link, hb.bad, hb.fallbacks, hb.eyes⟩

theorem idle_time_law {h : Hub} (ht : h.time.law) : h.idle.time.law := by
  unfold Hub.idle
  split
  · exact ht
  · exact tick_law ht

theorem idle_flash (h : Hub) : h.idle.flash = h.flash := by
  unfold Hub.idle
  split <;> rfl

/-- Settles O58: each part of the law of capacities, of time and of the flash's form is kept by every action and by what
surrounds it. -/
theorem everyStepKeepsTheCapacities : Obligations.EveryStepKeepsTheCapacities := by
  refine ⟨fun s t hc ht hst => ⟨?_, ?_⟩, fun s t hm hst => ?_⟩
  · rw [Hub.capacityLaw_iff] at hc ⊢
    exact step_keeps (fun h hb => idle_bounded hb)
      (fun i s t he => exec_keeps unshaken_bounded (fun j g _ _ hb => action_bounded hb) he) hst hc
  · exact step_keeps (P := fun h => h.time.law) (fun h ht => idle_time_law ht)
      (fun i s t he => exec_keeps unshaken_time_law (fun j g _ _ ht => action_time_law ht) he) hst ht
  · exact step_keeps (P := fun h => h.flash.wf = true) (fun h hm => by rw [idle_flash]; exact hm)
      (fun i s t he => exec_keeps unshaken_wf (fun j g _ _ hm => action_wf hm) he) hst hm

end Sys2Proof.Machine
end

section
/-!
A protected CLIFF entry stays where it is, but for the four ways the statement names (O59).
-/

namespace Sys2Proof.Machine

/-! ## What keeps a protected entry in its slot -/

/-- A slot still holds a protected entry at the place of `e`. -/
def SlotMap.guards (m : SlotMap) (slot : Nat) (e : Entry) : Prop :=
  ∃ e', m.entry slot = some e' ∧ e'.isProtected = true ∧ e'.floor = e.floor ∧ e'.x0 = e.x0 ∧ e'.y0 = e.y0

theorem SlotMap.guards_self {m : SlotMap} {slot : Nat} {e : Entry} (he : m.entry slot = some e)
    (hp : e.isProtected = true) : m.guards slot e := ⟨e, he, hp, rfl, rfl, rfl⟩

/-- A write of another slot, or of a protected entry at the place of the one held, keeps the entry. -/
theorem SlotMap.guards_put {m : SlotMap} {slot k : Nat} {e n : Entry} (he : m.entry slot = some e)
    (hp : e.isProtected = true)
    (hn : k = slot → n.isProtected = true ∧ n.floor = e.floor ∧ n.x0 = e.x0 ∧ n.y0 = e.y0) :
    (SlotMap.put k n m).guards slot e := by
  by_cases hk : k = slot
  · subst hk
    exact ⟨n, SlotMap.entry_put_same m k n, hn rfl⟩
  · exact SlotMap.guards_self ((SlotMap.entry_put_other m n (Ne.symm hk)).trans he) hp

theorem SlotMap.guards_remove {m : SlotMap} {slot k : Nat} {e : Entry} (he : m.entry slot = some e)
    (hp : e.isProtected = true) (hk : slot ≠ k) : (SlotMap.remove k m).guards slot e :=
  SlotMap.guards_self ((SlotMap.entry_remove_other m hk).trans he) hp

/-- A new entry goes to a free slot. -/
theorem SlotMap.guards_create {m : SlotMap} (hm : m.wf) {slot k : Nat} {e n : Entry} (he : m.entry slot = some e)
    (hp : e.isProtected = true) (hk : m.free = some k) : (SlotMap.put k n m).guards slot e := by
  refine SlotMap.guards_put he hp fun hks => ?_
  exact absurd hks.symm ((SlotMap.free_spec hm.1 hk).2 _ (SlotMap.mem_of_entry he))

/-! ## Evidence on a protected entry -/

/-- The effect leaves a protected entry protected. -/
def Effect.spares : Effect → Prop
  | .change cls confidence _ => cls = .cliff ∧ 8 ≤ confidence
  | .remove => False
  | .unchanged | .create _ _ | .conflict => True

theorem Entry.isProtected_iff {e : Entry} : e.isProtected = true ↔ e.cls = .cliff ∧ 8 ≤ e.confidence := by
  simp [Entry.isProtected]

theorem raised_spares {e : Entry} (hp : e.isProtected = true) (n : Nat) : (raised e n).spares := by
  obtain ⟨hc, hn⟩ := Entry.isProtected_iff.mp hp
  exact ⟨hc, by omega⟩

/-- No item takes a protected entry's protection (R59 to R65). -/
theorem effect_spares {e : Entry} (hp : e.isProtected = true) (p : Pile) (i : Item) : (i.effect p (some e)).spares := by
  have hc := (Entry.isProtected_iff.mp hp).1
  cases i with
  | lowReflect => simpa [Item.effect, hc] using raised_spares hp 1
  | noReturn => simpa [Item.effect, hc] using raised_spares hp 3
  | floorClear => simp [Item.effect, hp, Effect.spares]
  | wheelDrop => exact ⟨rfl, by decide⟩
  | passOver => simp [Item.effect, hc, hp, Effect.spares]
  | bump | climb | brushLoad => simp [Item.effect, hc, Effect.spares]

theorem changed_isProtected {e : Entry} {secs : Nat} {c : HazardClass} {n : Nat} {r : Option RugAttrs} (hc : c = .cliff)
    (hn : 8 ≤ n) : (e.changed secs c n r).isProtected = true := by
  unfold Entry.changed
  dsimp only
  split
  · next hs => rw [← hs]; exact Entry.isProtected_iff.mpr ⟨hc, hn⟩
  · exact Entry.isProtected_iff.mpr ⟨hc, hn⟩

/-! ## The grants that write the table -/

section
variable {h : Hub} {slot : Nat} {e : Entry} (hm : h.table.slots.wf) (he : h.table.slots.entry slot = some e)
  (hp : e.isProtected = true)
include he hp

theorem writeEffect_guards {k : Nat} {o : Entry} (ho : h.table.slots.entry k = some o) {f : Effect}
    (hf : o.isProtected = true → f.spares) : (h.writeEffect k o f).table.slots.guards slot e := by
  have hself := SlotMap.guards_self he hp
  have hsame (hk : k = slot) : o = e := Option.some.inj (ho.symm.trans (hk ▸ he))
  unfold Hub.writeEffect
  cases f with
  | unchanged | create | conflict => exact hself
  | remove =>
    rw [Hub.removeSlot_slots]
    refine SlotMap.guards_remove he hp fun hk => ?_
    exact hf (hsame hk.symm ▸ hp)
  | change c n r =>
    have hg : (SlotMap.put k (o.changed h.time.secs c n r) h.table.slots).guards slot e := by
      refine SlotMap.guards_put he hp fun hk => ?_
      obtain rfl := hsame hk
      obtain ⟨hc, hn⟩ := hf hp
      exact ⟨changed_isProtected hc hn, by simp⟩
    dsimp only
    split <;> simpa using hg

theorem brushWrite_guards {i : Item} {f : Floor} {k : Nat} {t : Tile} :
    (h.brushWrite i f k t).table.slots.guards slot e := by
  unfold Hub.brushWrite
  split
  · next o ho =>
    have ho' := (Option.filter_eq_some_iff.mp ho).1
    simpa using writeEffect_guards he hp ho' fun hpo => effect_spares hpo _ i
  · simpa using SlotMap.guards_self he hp

include hm

theorem writeCreate_guards {k : Nat} (hk : h.table.slots.free = some k) {n : Entry} :
    (h.writeCreate k n).table.slots.guards slot e := by
  have hg := SlotMap.guards_create hm he hp hk (n := n)
  unfold Hub.writeCreate
  dsimp only
  split <;> simpa using hg

theorem applyWrite_guards {i : Item} {f : Floor} {t : Tile} : (h.applyWrite i f t).table.slots.guards slot e := by
  have hself := SlotMap.guards_self he hp
  unfold Hub.applyWrite
  split
  · split
    · next o ho => simpa using writeEffect_guards he hp ho fun hpo => effect_spares hpo _ i
    · simpa using hself
  · split
    · split
      · next k hk => simpa using writeCreate_guards hm he hp hk
      · rw [beginSearch_slots]; exact hself
    · simpa using hself

theorem applyGrant_guards : h.applyGrant.table.slots.guards slot e := by
  have hself := SlotMap.guards_self he hp
  unfold Hub.applyGrant
  split
  · split
    · exact applyWrite_guards (h := h.noteSecond .updater) hm he hp
    · exact brushWrite_guards (h := h.noteSecond .updater) he hp
    · exact hself
  · exact hself

/-- A protected entry is no victim (R11). -/
theorem evictGrant_guards : h.evictGrant.table.slots.guards slot e := by
  have hself := SlotMap.guards_self he hp
  unfold Hub.evictGrant
  split
  · next item rest victim r _ hw _ =>
    dsimp only
    split
    · next t c n ht hc =>
      split
      · exact applyWrite_guards (h := h.noteSecond .updater) hm he hp
      · split
        · next hv =>
          rw [show ∀ g : Hub, g.itemDone.table.slots = g.table.slots by simp, replaceVictim_slots]
          refine SlotMap.guards_put he hp fun hk => ?_
          have hv' : (h.table.slots.entry victim).elim false (·.evictable c) = true := hv
          rw [hk, he] at hv'
          simp [Entry.evictable, hp] at hv'
        · rw [beginSearch_slots]; exact hself
    · simpa using hself
  · exact hself

theorem putGrant_guards : h.putGrant.table.slots.guards slot e := by
  have hself := SlotMap.guards_self he hp
  unfold Hub.putGrant
  split
  · next n hn =>
    split
    · simpa using hself
    · next k hk =>
      have hg := SlotMap.guards_create hm he hp hk (n := { n with stamp := h.time.secs })
      dsimp only
      split <;> simpa using hg
  · exact hself

theorem insertGrant_guards : h.insertGrant.table.slots.guards slot e := by
  have hself := SlotMap.guards_self he hp
  unfold Hub.insertGrant
  split
  · split
    · split
      · simpa using hself
      · split
        · next k hk => simpa using SlotMap.guards_create hm he hp hk
        · simpa using hself
    · exact hself
  · exact hself

omit hm

theorem confirmGrant_guards : h.confirmGrant.table.slots.guards slot e := by
  have hself := SlotMap.guards_self he hp
  unfold Hub.confirmGrant
  split
  · next f t pin _ =>
    split
    · simpa using hself
    · next k o hk =>
      obtain ⟨k', -, hk'⟩ := Option.bind_eq_some_iff.mp hk
      obtain ⟨o', ho, heq⟩ := Option.map_eq_some_iff.mp hk'
      cases heq
      have hg : (SlotMap.put k { o with pinned := pin } h.table.slots).guards slot e := by
        refine SlotMap.guards_put he hp fun hks => ?_
        obtain rfl : o = e := Option.some.inj (ho.symm.trans (hks ▸ he))
        exact ⟨hp, rfl, rfl, rfl⟩
      simpa using hg
  · exact hself

theorem deleteGrant_guards :
    h.deleteGrant.table.slots.guards slot e ∨ ∃ g, h.plan.slot.service = some (.delete slot g) := by
  have hself := SlotMap.guards_self he hp
  unfold Hub.deleteGrant
  split
  · next k g hg =>
    split
    · exact .inl (by simpa using hself)
    · split
      · exact .inl (by simpa using hself)
      · by_cases hk : slot = k
        · exact .inr ⟨g, hk ▸ hg⟩
        · exact .inl (by simpa using SlotMap.guards_remove he hp hk)
  · exact .inl hself

theorem clearGrant_guards : h.clearGrant.table.slots.guards slot e
    ∨ ∃ b n g, h.plan.slot.service = some (.clear e.floor slot b n g) := by
  have hself := SlotMap.guards_self he hp
  have hnext {g : Hub} {f : Floor} {lo n : Nat} {l : Option Nat} :
      (g.clearNext f lo n l).table.slots = g.table.slots := by simp
  unfold Hub.clearGrant
  split
  · next f k b n g hg =>
    dsimp only
    split
    · exact .inl hself
    · next hb =>
      by_cases hk : slot = k
      · subst hk
        have hf : e.floor = f := by simpa [he] using hb
        exact .inr ⟨_, n, g, hf ▸ hg⟩
      · refine .inl ?_
        rw [Hub.clearRemove, hnext, Hub.removeSlot_slots]
        exact SlotMap.guards_remove he hp hk
    · exact .inl (by rw [hnext]; exact hself)
  · exact .inl hself

theorem removalGrant_guards : h.removalGrant.table.slots.guards slot e
    ∨ ∃ op, h.store.phase = .load op ∧ masks op.floors e.floor = true := by
  have hself := SlotMap.guards_self he hp
  unfold Hub.removalGrant
  split
  · next op hop =>
    split
    · split
      · exact .inl hself
      · exact .inl (by simpa using hself)
    · next k _ =>
      split
      · next hb =>
        by_cases hk : slot = k
        · subst hk
          exact .inr ⟨op, hop, by simpa [he] using hb⟩
        · exact .inl (by simpa using SlotMap.guards_remove he hp hk)
      · exact .inl (by simpa using hself)
    · exact .inl hself
  · exact .inl hself

end

/-! ## Every step -/

/-- What a command that writes the table can leave in the slots: what they were, or what its grant makes of them. -/
theorem exec_writes {i : Instr} (hw : tableWrites i = true) {s t : State} (ht : exec i s = .next t) :
    t.hub.table.slots = s.hub.table.slots ∨ t.hub.table.slots = (action i s.hub).table.slots := by
  have hgranted {c : Claimant} {waits : Hub → Bool} (he : exec i s = s.run (Hub.granted c waits (action i))) :
      t.hub.table.slots = s.hub.table.slots ∨ t.hub.table.slots = (action i s.hub).table.slots := by
    obtain ⟨-, hh | hh⟩ := State.run_next (he ▸ ht)
    · exact .inl (by rw [hh])
    · rw [hh, Hub.granted]
      split
      · exact .inr rfl
      · exact .inl rfl
  cases i <;> first | exact hgranted rfl | cases hw

theorem slot_of_service {p : PlanSlot} {v : Service} (hv : p.service = some v) : p = .inService v := by
  cases p with
  | inService w => cases hv; rfl
  | empty | ready => cases hv

/-- Settles O59: each grant that writes the table writes a free slot, spares a protected entry, or is one of the
removals named. -/
theorem protectedEntriesStay : Obligations.ProtectedEntriesStay := by
  intro s t c rest slot e hm hpend hstep he hp
  have ht : exec c { s with pending := rest } = .next t := by
    unfold step at hstep
    rwa [hpend] at hstep
  have hself := SlotMap.guards_self he hp
  by_cases hc : NotCold c
  case neg =>
    obtain ⟨v, n, hv⟩ := cold_of_not hc
    exact .inr (.inr (.inr (.inr ⟨v, n, hv⟩)))
  cases hw : tableWrites c with
  | false =>
    have hs : t.hub.table.slots = s.hub.table.slots := by
      by_contra hn
      have := exec_changes steady_tableSlots (by rintro _ _ ⟨⟩ <;> rfl) (fun _ h => action_tableSlots h) hc ht hn
      exact Bool.noConfusion (hw.symm.trans this)
    exact .inl (hs ▸ hself)
  | true =>
    obtain hs | hs := exec_writes hw ht
    · exact .inl (hs ▸ hself)
    · have hkeep (hg : (action c s.hub).table.slots.guards slot e) : t.hub.table.slots.guards slot e := by
        rw [hs]; exact hg
      cases c with
      | applyItem => exact .inl (hkeep (applyGrant_guards hm he hp))
      | evict => exact .inl (hkeep (evictGrant_guards hm he hp))
      | mapPutWrite => exact .inl (hkeep (putGrant_guards hm he hp))
      | mapConfirmWrite => exact .inl (hkeep (confirmGrant_guards he hp))
      | loadInsertWrite => exact .inl (hkeep (insertGrant_guards hm he hp))
      | mapDeleteWrite =>
        obtain hg | ⟨g, hg⟩ := deleteGrant_guards he hp
        · exact .inl (hkeep hg)
        · exact .inr (.inl ⟨rfl, g, slot_of_service hg⟩)
      | mapClearClaim =>
        obtain hg | ⟨b, n, g, hg⟩ := clearGrant_guards he hp
        · exact .inl (hkeep hg)
        · exact .inr (.inr (.inl ⟨rfl, b, n, g, slot_of_service hg⟩))
      | loadRemovalClaim =>
        obtain hg | hg := removalGrant_guards he hp
        · exact .inl (hkeep hg)
        · exact .inr (.inr (.inr (.inl ⟨rfl, hg⟩)))
      | _ => cases hw

end Sys2Proof.Machine
end

section
/-!
The step, the reference periods and the timers' expiries (O1, O2, O4, O5, O7, O8, O9).
-/

namespace Sys2Proof.Machine

/-! ## The step and time (R26, R27) -/

/-- Settles O1: the step takes the front command out and executes it. -/
theorem stepRunsFrontCommand : Obligations.StepRunsFrontCommand := fun _ _ => rfl

theorem TimeBase.tick_within {t : TimeBase} (ht : t.refs + 1 < millisecondPeriods t.dither) :
    t.tick = { t with refs := t.refs + 1 } := if_neg (Nat.not_le.mpr ht)

theorem TimeBase.tick_last {t : TimeBase} (ht : millisecondPeriods t.dither ≤ t.refs + 1) : t.tick = t.endMillisecond :=
  if_pos ht

/-- Fewer periods than the millisecond lasts are counted (R26). -/
theorem TimeBase.ticks_within {t : TimeBase} (h0 : t.refs = 0) {k : Nat} (hk : k < millisecondPeriods t.dither) :
    TimeBase.tick^[k] t = { t with refs := k } := by
  induction k with
  | zero =>
    obtain ⟨m, d, r, n⟩ := t
    cases h0
    rfl
  | succ k ih =>
    rw [Function.iterate_succ_apply', ih (Nat.lt_of_succ_lt hk)]
    exact TimeBase.tick_within (t := { t with refs := k }) hk

/-- From its start a millisecond's periods end it (R26). -/
theorem TimeBase.ticks_millisecond {t : TimeBase} (h0 : t.refs = 0) :
    TimeBase.tick^[millisecondPeriods t.dither] t = t.endMillisecond := by
  obtain ⟨k, hk⟩ : ∃ k, millisecondPeriods t.dither = k + 1 :=
    Nat.exists_eq_succ_of_ne_zero (millisecondPeriods_pos _).ne'
  rw [hk, Function.iterate_succ_apply', TimeBase.ticks_within h0 (by omega)]
  exact TimeBase.tick_last (t := { t with refs := k }) hk.le

/-- The count and the dither position after some milliseconds. -/
theorem TimeBase.milliseconds {t : TimeBase} (hd : t.dither < 125) (h0 : t.refs = 0) (hm : t.ms < 4294967296) (n : Nat) :
    (TimeBase.endMillisecond^[n] t).ms = (t.ms + n) % 4294967296
    ∧ (TimeBase.endMillisecond^[n] t).dither = (t.dither + n) % 125 ∧ (TimeBase.endMillisecond^[n] t).refs = 0 := by
  induction n with
  | zero => exact ⟨(Nat.mod_eq_of_lt hm).symm, (Nat.mod_eq_of_lt hd).symm, h0⟩
  | succ n ih =>
    obtain ⟨hms, hdi, -⟩ := ih
    rw [Function.iterate_succ_apply']
    refine ⟨?_, ?_, rfl⟩
    · rw [TimeBase.endMillisecond, hms, Nat.mod_add_mod, Nat.add_assoc]
    · rw [TimeBase.endMillisecond, hdi, Nat.mod_add_mod, Nat.add_assoc]

/-- The reference periods of the first `n` milliseconds of a division cycle. -/
def cyclePeriods (n : Nat) : Nat := ((List.range n).map millisecondPeriods).sum

theorem cyclePeriods_succ (n : Nat) : cyclePeriods (n + 1) = millisecondPeriods n + cyclePeriods n := by
  simp [cyclePeriods, List.range_succ, Nat.add_comm]

/-- The periods of a division cycle's first milliseconds end them. -/
theorem TimeBase.ticks_cycle {t : TimeBase} (hd : t.dither = 0) (h0 : t.refs = 0) (hm : t.ms < 4294967296) {n : Nat}
    (hn : n ≤ 125) : TimeBase.tick^[cyclePeriods n] t = TimeBase.endMillisecond^[n] t := by
  induction n with
  | zero => rfl
  | succ n ih =>
    obtain ⟨-, hdi, hr⟩ := TimeBase.milliseconds (by omega) h0 hm n (t := t)
    have hdn : (TimeBase.endMillisecond^[n] t).dither = n := by
      rw [hdi, hd, Nat.zero_add, Nat.mod_eq_of_lt hn]
    rw [cyclePeriods_succ, Function.iterate_add_apply, ih (Nat.le_of_succ_le hn), Function.iterate_succ_apply']
    have hlast := TimeBase.ticks_millisecond hr
    rwa [hdn] at hlast

/-- Settles O2: a millisecond's periods end it, and those of the 125 positions are 4096. -/
theorem referencePeriodsMakeMilliseconds : Obligations.ReferencePeriodsMakeMilliseconds := by
  have hidle {s : State} (hs : s.pending = []) : step s = .next { s with hub := s.hub.idle } := by
    unfold step
    rw [hs]
  refine ⟨fun s hs => ⟨fun hr => ?_, fun hr ht => ?_, fun hr ht => ?_⟩, fun t hd h0 hm => ?_, fun s hr => ?_⟩
  · rw [hidle hs, Hub.idle, if_pos hr]
  · rw [hidle hs, Hub.idle, if_neg (by simp [hr]), TimeBase.tick_within ht]
  · rw [hidle hs, Hub.idle, if_neg (by simp [hr]), TimeBase.tick_last ht]
  · have h4096 : cyclePeriods 125 = 4096 := by decide +kernel
    have hu := TimeBase.ticks_cycle hd h0 hm (le_refl 125)
    rw [h4096] at hu
    obtain ⟨hms, hdi, hrefs⟩ := TimeBase.milliseconds (by omega) h0 hm 125 (t := t)
    dsimp only
    rw [hu]
    exact ⟨hms, by rw [hdi, hd], hrefs⟩
  · exact runs_of_run (f := fun h => { h with time := h.time.endMillisecond }) rfl hr

/-! ## How a command comes to its action -/

/-- A command whose timer is due acts. -/
theorem runs_expiry {i : Instr} {s : State} {t : Timer} (hi : expiring s.hub i = some t) (hr : s.hub.inReset = false)
    (hd : t.due s.hub.time.ms = true) : Runs i s (action i s.hub) := by
  have hexp {u : Hub → Timer} (he : exec i s = s.run fun h => h.expiry (u h) (action i)) (hu : u s.hub = t) :
      Runs i s (action i s.hub) := runs_of_expiry he hr (by rw [hu]; exact hd)
  cases i with
  | liftTimerExpiry => exact hexp (u := (·.lines.lift)) rfl (Option.some.inj hi)
  | setDownTimerExpiry => exact hexp (u := (·.lines.setDown)) rfl (Option.some.inj hi)
  | permitExpiry => exact hexp (u := (·.permit.expiry)) rfl (Option.some.inj hi)
  | stopTimerExpiry => exact hexp (u := (·.permit.stopTimer)) rfl (Option.some.inj hi)
  | leaseTimerExpiry => exact hexp (u := (·.route.leaseTimer)) rfl (Option.some.inj hi)
  | sagClearExpiry => exact hexp (u := (·.load.sagTimer)) rfl (Option.some.inj hi)
  | dockingTimerExpiry => exact hexp (u := (·.dock.timer)) rfl (Option.some.inj hi)
  | sightingFreshnessExpiry eye => exact hexp (u := fun h => (h.beacon.eye eye).fresh) rfl (Option.some.inj hi)
  | _ => cases hi

/-- A request of the right length on an open port acts on the framed hub. -/
theorem runs_requested {i : Instr} {s : State} {p : Port} {code : Byte} {len : Nat} {body : List Byte}
    (hf : requestFrame i = some (p, code, len, body)) (hr : s.hub.inReset = false) (ho : s.hub.portOpen p)
    (hl : body.length = len) : Runs i s (action i (s.hub.framed p)) :=
  runs_of_request (exec_of_requestFrame hf) hr ho hl

/-! ## The pose lost (R41, R42, R77) -/

/-- What every entry into LOST or LIFTED makes of the hub, beside the pose state (R76, R77, R84). -/
structure Hub.Unplaced (g h : Hub) : Prop where
  slip : h.odo.slip = none
  rug : h.load.rug = false
  left : h.odo.left = ⟨none, none⟩
  right : h.odo.right = ⟨none, none⟩
  lookups : ∀ l ∈ h.odo.lookups, l.discard = true
  centreAgain : h.odo.centreAgain = false
  posting : h.scanner.block.posting = false
  stopped : g.permit.state = .moving ∨ g.permit.state = .probing →
    h.permit.state = .stopping ∧ h.permit.active = none ∧ h.permit.check = none ∧ h.permit.lastStop = some .poseLost
  x : h.odo.x = g.odo.x
  y : h.odo.y = g.odo.y
  heading : h.odo.heading = g.odo.heading
  floor : h.odo.floor = g.odo.floor
  table : h.table = g.table
  queue : h.queue = g.queue
  route : h.route = g.route
  trail : h.trail = g.trail
  dock : h.dock = g.dock

theorem poseEntry_unplaced (g : Hub) (st : PoseState) : g.Unplaced (g.poseEntry st) := by
  have ho := g.poseEntry_odo st
  refine ⟨?_, ?_, ?_, ?_, ?_, ?_, ?_, fun hs => ?_, ?_, ?_, ?_, ?_, ?_, ?_, ?_, ?_, ?_⟩
  case refine_5 => rw [ho]; exact discarding_both _
  case refine_7 => simp [Hub.poseEntry]
  case refine_8 =>
    dsimp only [Hub.poseEntry]
    rw [Hub.trigger_in_motion _ _ (by simpa using hs) (by decide) (by decide)]
    simp
  all_goals first | simp [ho] | simp [Hub.poseEntry]

/-- Settles O4: both expiries enter the pose state by `poseEntry`. -/
theorem liftAndSetDownExpiriesMoveThePoseState : Obligations.LiftAndSetDownExpiriesMoveThePoseState := by
  rintro s i hr (⟨rfl, hd⟩ | ⟨rfl, hd, hp⟩)
  · have hrun : Runs .liftTimerExpiry s { s.hub with lines.lift := none }.enterLifted := runs_expiry rfl hr hd
    have hu := poseEntry_unplaced { s.hub with lines.lift := none } .lifted
    refine ⟨_, hrun, fun _ => ⟨?_, by simp, ?_, by simp [Hub.enterLifted]⟩, nofun, ?_⟩
    · simp [Hub.enterLifted, Hub.poseEntry_odo]
    · simp [Hub.enterLifted, Hub.planHas_setPower]
    · simp only [Hub.enterLifted, Hub.setPower_frame, Hub.setPlan_frame]
      exact ⟨hu.slip, hu.rug, hu.left, hu.right, hu.lookups, hu.centreAgain, hu.posting, hu.stopped, hu.x, hu.y,
        hu.heading, hu.floor, hu.table, hu.queue, hu.route, hu.trail, hu.dock⟩
  · have hrun : Runs .setDownTimerExpiry s s.hub.setDownExpired := runs_expiry rfl hr hd
    have he : s.hub.setDownExpired = { s.hub with lines.setDown := none }.enterLost .lift := if_pos hp
    rw [he] at hrun
    have hu := poseEntry_unplaced { s.hub with lines.setDown := none } (.lost .lift)
    refine ⟨_, hrun, nofun, fun _ => ⟨?_, by simp, by simp [Hub.enterLost]⟩, ?_⟩
    · simp [Hub.enterLost, Hub.poseEntry_odo]
    · simp only [Hub.enterLost, Hub.setPlan_frame]
      exact ⟨hu.slip, hu.rug, hu.left, hu.right, hu.lookups, hu.centreAgain, hu.posting, hu.stopped, hu.x, hu.y,
        hu.heading, hu.floor, hu.table, hu.queue, hu.route, hu.trail, hu.dock⟩

/-! ## A flag that is set stays set -/

theorem planHas_setPlan_of {h : Hub} {f : PlanFlag} (hf : h.planHas f = true) (g : PlanFlag) :
    (h.setPlan g).planHas f = true := by rw [Hub.planHas_setPlan, hf, Bool.or_true]

theorem powerHas_setPower_of {h : Hub} {f : PowerFlag} (hf : h.powerHas f = true) (g : PowerFlag) :
    (h.setPower g).powerHas f = true := by rw [Hub.powerHas_setPower, hf, Bool.or_true]

/-- The Plan flags are what tells which are set. -/
theorem planHas_congr {g h : Hub} (ha : g.att.planFlags = h.att.planFlags) (f : PlanFlag) :
    g.planHas f = h.planHas f := by rw [Hub.planHas, Hub.planHas, ha]

theorem powerHas_congr {g h : Hub} (ha : g.att.powerFlags = h.att.powerFlags) (f : PowerFlag) :
    g.powerHas f = h.powerHas f := by rw [Hub.powerHas, Hub.powerHas, ha]

@[simp] theorem Hub.abandonCheck_planFlags (h : Hub) (r : Reason) :
    (h.abandonCheck r).att.planFlags = h.att.planFlags := by
  unfold Hub.abandonCheck
  split <;> simp

@[simp] theorem Hub.markStale_planFlags (h : Hub) : h.markStale.att.planFlags = h.att.planFlags := by
  unfold Hub.markStale
  split
  · rfl
  · split <;> simp

@[simp] theorem Hub.stopSequence_planFlags (h : Hub) (c : StopCause) :
    (h.stopSequence c).att.planFlags = h.att.planFlags ||| PlanFlag.stopIssued.bit := by
  simp [Hub.stopSequence, Hub.setPlan, Hub.sendStop, Hub.endPermit]

/-- Every trigger but LINK and RESTART sets no Plan flag but STOP_ISSUED, and clears none. -/
theorem planHas_trigger {h : Hub} {f : PlanFlag} (hf : h.planHas f = true) {c : StopCause} (hl : c ≠ .link)
    (hr : c ≠ .restart) : (h.trigger c).planHas f = true := by
  cases hs : h.permit.state with
  | stopping => rwa [Hub.trigger_at_rest h c (.inl hs) hl hr]
  | inhibited => rwa [Hub.trigger_at_rest h c (.inr hs) hl hr]
  | moving | probing =>
    rw [Hub.trigger_in_motion h c (by simp [hs]) hl hr,
      planHas_congr (h := h.setPlan .stopIssued) (by rw [Hub.stopSequence_planFlags]; rfl)]
    exact planHas_setPlan_of hf _
  | still =>
    rw [planHas_congr (h := h) ?_]
    · exact hf
    · unfold Hub.trigger
      rw [hs]
      cases c <;> first | exact absurd rfl hl | exact absurd rfl hr | simp

theorem planHas_placeHold {h : Hub} {f : PlanFlag} (hf : h.planHas f = true) (k : Hold) :
    (h.placeHold k).planHas f = true := by
  unfold Hub.placeHold
  split
  · exact hf
  · exact planHas_trigger (h := { h with permit.holds := h.permit.holds.set k true }) (c := .hold) hf nofun nofun

/-! ## The permit's expiry (R103) -/

theorem Hub.send_congr {g h : Hub} (hd : g.drive = h.drive) (f : DriveFrame) : (g.send f).drive = (h.send f).drive := by
  rw [Hub.send_drive, Hub.send_drive, hd]

section
variable (h : Hub) (c : StopCause)

theorem Hub.stopSequence_drive :
    (h.stopSequence c).drive = ((h.endPermit.abandonCheck c.reason).send (.stop c)).drive := by
  simp [Hub.stopSequence, Hub.sendStop]

theorem Hub.stopSequence_refusals :
    (h.stopSequence c).att.refusals = (h.endPermit.abandonCheck c.reason).att.refusals := by
  simp [Hub.stopSequence, Hub.sendStop]

/-- Without a check in flight the stop sequence forms its STOP alone (R104). -/
theorem Hub.stopSequence_unchecked (hc : h.permit.check = none) :
    (h.stopSequence c).drive = (h.send (.stop c)).drive ∧ (h.stopSequence c).att.refusals = h.att.refusals := by
  rw [h.stopSequence_drive, h.stopSequence_refusals, Hub.abandonCheck_none h.endPermit c.reason hc]
  exact ⟨Hub.send_congr (g := h.endPermit) (h := h) rfl _, rfl⟩

/-- The check in flight is answered before the STOP frame (R101, R104). -/
theorem Hub.stopSequence_checked {k : Check} (hk : h.permit.check = some k) :
    (h.stopSequence c).drive = ((h.refuse k.ask.seq c.reason false).send (.stop c)).drive
    ∧ (h.stopSequence c).att.refusals = h.att.refusals.modify c.reason.ctorIdx sat8 := by
  rw [h.stopSequence_drive, h.stopSequence_refusals, Hub.abandonCheck_some h.endPermit c.reason k hk]
  refine ⟨Hub.send_congr ?_ _, by simp [Hub.endPermit]⟩
  exact Hub.refuse_drive _ _ _ _ _ rfl rfl rfl rfl rfl rfl rfl

end

/-- Settles O5: the expiry of an active permit runs the stop sequence. -/
theorem permitExpiryStartsTheStopSequence : Obligations.PermitExpiryStartsTheStopSequence := by
  intro s hr hd hs
  generalize hg : ({ s.hub with permit.expiry := none } : Hub) = g
  have hrun : Runs .permitExpiry s (g.trigger .lapsed) := hg ▸ runs_expiry rfl hr hd
  rw [Hub.trigger_in_motion g .lapsed (by rw [← hg]; exact hs) (by decide) (by decide)] at hrun
  have hdrive : g.drive = s.hub.drive := by rw [← hg]
  refine ⟨_, hrun, by rw [Hub.stopSequence_permit, ← hg], ?_, fun hc => ?_, fun c hc => ?_, ?_⟩
  · rw [planHas_congr (h := g.setPlan .stopIssued) (by simp [Hub.stopSequence, Hub.setPlan, Hub.sendStop])]
    exact Hub.planHas_setPlan_self ..
  · obtain ⟨h1, h2⟩ := g.stopSequence_unchecked .lapsed (by rw [← hg]; exact hc)
    exact ⟨h1.trans (Hub.send_congr hdrive _), h2.trans (by rw [← hg])⟩
  · obtain ⟨h1, h2⟩ := g.stopSequence_checked .lapsed (k := c) (by rw [← hg]; exact hc)
    refine ⟨h1.trans (Hub.send_congr ?_ _), h2.trans (by rw [← hg]; rfl)⟩
    rw [← hg]
    exact Hub.refuse_drive _ _ _ _ _ rfl rfl rfl rfl rfl rfl rfl
  · simp [← hg]

/-! ## The lease (R132) -/

/-- The hub with the lease lapsed. -/
def Hub.lapsed (h : Hub) : Hub := { h with route.lease := .lapsed, route.leaseTimer := none }.setPlan .leaseLapsed

theorem setReturn_planHas {h : Hub} {f : PlanFlag} (hf : h.planHas f = true) (st : ReturnState) :
    (h.setReturn st).planHas f = true := by
  have hg : (Hub.setPlan .returnChanged { h with dock.state := st, dock.timer := none }).planHas f = true :=
    planHas_setPlan_of (h := { h with dock.state := st, dock.timer := none }) hf _
  unfold Hub.setReturn
  split
  · exact hf
  · dsimp only
    split <;> exact hg

theorem approachTests_planHas {h : Hub} {f : PlanFlag} (hf : h.planHas f = true) : h.approachTests.planHas f = true := by
  unfold Hub.approachTests
  split
  · exact setReturn_planHas hf _
  · exact hf

/-- A return start that is accepted (R144). -/
theorem returnStart_accepted {h : Hub} (hd : h.returnStatus = .done) (hs : h.dock.state = .idle ∨ h.dock.state = .failed) :
    h.returnStart.route.waypoints = [] ∧ h.returnStart.planHas .routeEmpty = true ∧ h.returnStart.dock.fallbacks = 0
    ∧ (h.returnStart.dock.state = .trail ∨ h.returnStart.dock.state = .approach ∨ h.returnStart.dock.state = .docking)
    ∧ h.returnStart.planHas .returnChanged = true ∧ h.returnStart.powerHas .returnChanged = true
    ∧ h.returnStart.route.lease = h.route.lease ∧ h.returnStart.route.leaseTimer = h.route.leaseTimer
    ∧ ∀ f, h.planHas f = true → h.returnStart.planHas f = true := by
  have hg : ({ h.flushRoute with dock.fallbacks := 0 } : Hub).planHas .routeEmpty = true := by
    exact Hub.planHas_setPlan_self { h with route.waypoints := [] } .routeEmpty
  have hkeep (f : PlanFlag) (hf : h.planHas f = true) : ({ h.flushRoute with dock.fallbacks := 0 } : Hub).planHas f = true := by
    exact planHas_setPlan_of (h := { h with route.waypoints := [] }) hf .routeEmpty
  have hstart : h.returnStart =
      if h.trail.crumbs.isEmpty then ({ h.flushRoute with dock.fallbacks := 0 }.setReturn .approach).approachTests
      else { h.flushRoute with dock.fallbacks := 0 }.setReturn .trail := if_pos ⟨hd, hs⟩
  have hne (st : ReturnState) (h1 : st ≠ .idle) (h2 : st ≠ .failed) :
      st ≠ ({ h.flushRoute with dock.fallbacks := 0 } : Hub).dock.state := by
    rintro rfl
    rcases hs with hs | hs
    · exact h1 hs
    · exact h2 hs
  rw [hstart]
  split
  · have hf := Hub.setReturn_flags _ _ (hne .approach (by decide) (by decide))
    have hf' := Hub.approachTests_flags _ hf.1 hf.2
    refine ⟨by simp [Hub.flushRoute], approachTests_planHas (setReturn_planHas hg _), by simp, ?_, hf'.1, hf'.2,
      by simp [Hub.flushRoute], by simp [Hub.flushRoute], fun f hf => approachTests_planHas (setReturn_planHas (hkeep f hf) _)⟩
    obtain ht | ⟨-, ht⟩ := Hub.approachTests_state ({ h.flushRoute with dock.fallbacks := 0 }.setReturn .approach)
    · rw [ht]; simp
    · rw [ht]; simp
  · have hf := Hub.setReturn_flags _ _ (hne .trail (by decide) (by decide))
    exact ⟨by simp [Hub.flushRoute], setReturn_planHas hg _, by simp, by simp, hf.1, hf.2, by simp [Hub.flushRoute],
      by simp [Hub.flushRoute], fun f hf => setReturn_planHas (hkeep f hf) _⟩

/-- Settles O7: the lapsed hub stays, offers the return, or has the LEASE hold placed. -/
theorem leaseExpiryHoldsOrSendsHome : Obligations.LeaseExpiryHoldsOrSendsHome := by
  intro s hr hd
  have hrun : Runs .leaseTimerExpiry s s.hub.leaseExpired := runs_expiry rfl hr hd
  generalize hg : s.hub.lapsed = g
  have hflag : g.planHas .leaseLapsed = true := hg ▸ Hub.planHas_setPlan_self ..
  have hlease : g.route.lease = .lapsed ∧ g.route.leaseTimer = none := hg ▸ ⟨rfl, rfl⟩
  have hpermit : g.permit = s.hub.permit := hg ▸ rfl
  have hdock : g.dock = s.hub.dock := hg ▸ rfl
  have hroute : g.route.waypoints = s.hub.route.waypoints := hg ▸ rfl
  have hstatus : g.returnStatus = s.hub.returnStatus := hg ▸ rfl
  have hrest : g.table = s.hub.table ∧ g.odo = s.hub.odo ∧ g.trail = s.hub.trail ∧ g.queue = s.hub.queue :=
    hg ▸ ⟨rfl, rfl, rfl, rfl⟩
  have hhold : (g.placeHold .lease).permit.holds = { s.hub.permit.holds with lease := true } := by
    rw [Hub.placeHold_holds, hpermit]
    rfl
  cases hl : s.hub.limits.returnOnLapse with
  | false =>
    have he : s.hub.leaseExpired = g.placeHold .lease := by rw [Hub.leaseExpired, ← hg]; exact if_neg (by simp [hl])
    rw [he] at hrun
    refine ⟨_, hrun, by simp [hlease], by simp [hlease], planHas_placeHold hflag _, fun _ => ⟨hhold, by simp [hdock],
      by simp [hroute]⟩, nofun, nofun, by simpa using hrest⟩
  | true =>
    have he : s.hub.leaseExpired = match s.hub.dock.state with
        | .trail | .approach | .docking => g
        | .idle | .docked | .failed => if g.returnStatus = .done then g.returnStart else g.placeHold .lease := by
      rw [Hub.leaseExpired, ← hg]
      exact if_pos hl
    rw [he] at hrun
    cases hs : s.hub.dock.state with
    | trail | approach | docking =>
      rw [hs] at hrun
      exact ⟨g, hrun, hlease.1, hlease.2, hflag, nofun, fun _ _ => ⟨hpermit, hdock, hroute⟩, fun _ => by simp,
        hrest⟩
    | idle | docked | failed =>
      rw [hs] at hrun
      by_cases hst : g.returnStatus = .done
      · dsimp only at hrun
        rw [if_pos hst] at hrun
        have hstates : g.dock.state = .idle ∨ g.dock.state = .failed := by
          rw [hdock, hs]
          first
          | exact .inl rfl
          | exact .inr rfl
          | simp [Hub.returnStatus, hdock, hs] at hst
        obtain ⟨hw, hre, hf, hd, hp, hq, hle, hlt, hk⟩ := returnStart_accepted hst hstates
        exact ⟨_, hrun, hle.trans hlease.1, hlt.trans hlease.2, hk _ hflag, nofun, fun _ => by simp,
          fun _ _ => ⟨fun _ => ⟨by simp [hpermit], hw, hre, hf, hd, hp, hq⟩, fun hn => absurd (hstatus ▸ hst) hn⟩,
          by simpa using hrest⟩
      · dsimp only at hrun
        rw [if_neg hst] at hrun
        exact ⟨_, hrun, by simp [hlease], by simp [hlease], planHas_placeHold hflag _, nofun, fun _ => by simp,
          fun _ _ => ⟨fun hd => absurd (hstatus ▸ hd) hst, fun _ => ⟨hhold, by simp [hdock], by simp [hroute]⟩⟩,
          by simpa using hrest⟩

/-! ## The load (R164) -/

/-- Settles O8: the cause set without SAG, and what its becoming empty hands on. -/
theorem sagClearExpiryRemovesSag : Obligations.SagClearExpiryRemovesSag := by
  intro s hr hd
  have hrun : Runs .sagClearExpiry s (s.hub.setCauses { s.hub.load with sag := false, sagTimer := none }) :=
    runs_expiry rfl hr hd
  refine ⟨_, hrun, by simp, fun hstay => ?_, fun hp hg hs => ?_⟩
  · have hh : LoadSup.heavy { s.hub.load with sag := false, sagTimer := none } = s.hub.load.heavy := by
      rcases hstay with hp | hg | hs <;> simp [LoadSup.heavy, *]
    simp [Hub.setCauses, hh]
  · simp [Hub.setCauses, LoadSup.heavy, hp, hg, hs]

/-! ## The docking timer and a sighting's freshness (R148, R157) -/

/-- The hub with one more fallback counted and the docking timer stopped. -/
def Hub.fallenBack (h : Hub) : Hub := { h with dock.timer := none, dock.fallbacks := h.dock.fallbacks + 1 }

/-- What an expiry in DOCKING comes to, by the fallbacks counted and the dock's use (R148). -/
theorem dockingExpired_docking {h : Hub} (hs : h.dock.state = .docking) (hn : h.dock.fallbacks < 3) :
    h.dockingExpired =
      if h.dock.fallbacks + 1 = 3 then h.fallenBack.setReturn .failed
      else if h.dockUsable then (h.fallenBack.setReturn .approach).approachTests
      else { h.fallenBack with dock.timer := h.timer 10000 } := by
  have hm : min (h.dock.fallbacks + 1) 3 = h.dock.fallbacks + 1 := Nat.min_eq_left hn
  have hu : h.fallenBack.dockUsable = h.dockUsable := rfl
  rw [← hu]
  simp [Hub.dockingExpired, Hub.fallenBack, hs, hm, Hub.timer]

/-- A return sent back to APPROACH judges its entry at once (R146, R148). -/
theorem approach_again {h : Hub} (hs : h.dock.state ≠ .approach) (hu : h.dockUsable = true) :
    (h.setReturn .approach).approachTests.planHas .returnChanged = true
    ∧ (h.setReturn .approach).approachTests.powerHas .returnChanged = true
    ∧ (((h.tracking = true ∧ h.within h.dock.record.approach 150 = true) ∨ h.freshOf .centre = true) →
        (h.setReturn .approach).approachTests.dock.state = .docking)
    ∧ (¬ ((h.tracking = true ∧ h.within h.dock.record.approach 150 = true) ∨ h.freshOf .centre = true) →
        (h.setReturn .approach).approachTests.dock.state = .approach
        ∧ (h.setReturn .approach).approachTests.dock.timer = none) := by
  have hf := Hub.setReturn_flags h .approach hs.symm
  have hf' := Hub.approachTests_flags _ hf.1 hf.2
  have hd := Hub.setReturn_dock h .approach hs.symm
  have hends : (h.setReturn .approach).approachEnds
      ↔ (h.tracking = true ∧ h.within h.dock.record.approach 150 = true) ∨ h.freshOf .centre = true := by
    have ho : (h.setReturn .approach).odo = h.odo := by simp
    have hb : (h.setReturn .approach).beacon = h.beacon := by simp
    have hr : (h.setReturn .approach).dock.record = h.dock.record := by simp
    simp only [Hub.dockUsable, Hub.floor] at hu
    simp only [Hub.approachEnds, Hub.dockUsable, Hub.floor, Hub.tracking, Hub.within, Hub.pose, Hub.freshOf, ho, hb, hr, hu,
      Bool.true_eq_false, false_or]
    exact Iff.rfl
  refine ⟨hf'.1, hf'.2, fun he => ?_, fun he => ?_⟩
  · rw [Hub.approachTests_ends _ (by simp) (hends.mpr he)]
    simp
  · rw [Hub.approachTests_stays _ (.inr fun h => he (hends.mp h)), hd]
    exact ⟨rfl, rfl⟩

/-- Settles O9: the branches of the docking timer's expiry, and the two of a freshness that ends. -/
theorem dockingAndFreshnessExpiries : Obligations.DockingAndFreshnessExpiries := by
  refine ⟨fun s hr hd hs hn => ?_, fun s eye hr hd => ?_⟩
  · have hrun : Runs .dockingTimerExpiry s s.hub.dockingExpired := runs_expiry rfl hr hd
    have he := dockingExpired_docking hs hn
    have hkept : s.hub.dockingExpired.dock.fallbacks = s.hub.dock.fallbacks + 1
        ∧ s.hub.dockingExpired.dock.record = s.hub.dock.record := by
      rw [he]
      split
      · simp [Hub.fallenBack]
      · split <;> simp [Hub.fallenBack]
    refine ⟨_, hrun, hkept.1, hkept.2, fun h3 => ?_, fun h3 hu => ?_, fun h3 hu => ?_, by simp⟩
    · rw [he, if_pos h3]
      have hne : ReturnState.failed ≠ s.hub.fallenBack.dock.state := by
        rw [show s.hub.fallenBack.dock.state = .docking from hs]
        decide
      exact ⟨by simp, by rw [Hub.setReturn_dock _ _ hne]; simp, Hub.setReturn_flags _ _ hne⟩
    · rw [he, if_neg h3.ne, if_pos hu]
      exact approach_again (h := s.hub.fallenBack) (by rw [show s.hub.fallenBack.dock.state = .docking from hs]; decide) hu
    · rw [he, if_neg h3.ne, if_neg (by simp [hu])]
      exact ⟨hs, rfl, rfl⟩
  · have hrun : Runs (.sightingFreshnessExpiry eye) s (s.hub.freshnessExpired eye) := runs_expiry rfl hr hd
    have hb : (s.hub.freshnessExpired eye).beacon = s.hub.beacon.setEye eye { s.hub.beacon.eye eye with fresh := none } := by
      simp [Hub.freshnessExpired]
    generalize hg : ({ s.hub with beacon := s.hub.beacon.setEye eye { s.hub.beacon.eye eye with fresh := none } } : Hub) = g
    have he : s.hub.freshnessExpired eye = g.freshnessEnded := by rw [← hg]; rfl
    have hf : (s.hub.freshnessExpired eye).freshSighting = g.freshSighting := by
      rw [Hub.freshSighting, hb, ← hg]; rfl
    have hdock : g.dock = s.hub.dock := hg ▸ rfl
    refine ⟨_, hrun, hb, fun hs hn => ?_, fun hs => ?_, by simp⟩
    · rw [hf] at hn
      rw [he, Hub.freshnessEnded, if_pos ⟨hdock ▸ hs, hn⟩, Hub.dockingTimer, hn, ← hg]
      rfl
    · rw [he, Hub.freshnessEnded, if_neg, hdock]
      rintro ⟨h1, h2⟩
      rcases hs with hs | hs
      · exact hs (hdock ▸ h1)
      · rw [hf, h2] at hs
        cases hs

end Sys2Proof.Machine
end

section
/-!
The Drive link: the tests of an ASK, STOP_DONE, the events that post evidence, bad frames and breaks (O10, O12, O13,
O14).
-/

namespace Sys2Proof.Machine

/-! ## The tests of an ASK (R88) -/

/-- The hub an ASK is tested on: its ticks taken and the check it supersedes abandoned. -/
def Hub.asked (a : AskFrame) (h : Hub) : Hub := (h.frameTaken.takeTicks a).abandonCheck .superseded

theorem runs_ask {s : State} (a : AskFrame) (hr : s.hub.inReset = false) (hx : s.hub.drive.rx.readyFor .ask = true) :
    Runs (.ask a) s (s.hub.ask a) := runs_of_run (exec_ask a hx) hr

theorem Hub.ask_refused {h : Hub} {a : AskFrame} {r : Reason} (hr : (h.asked a).askRefusal a = some r) :
    h.ask a = (h.asked a).refuse a.seq r false := by
  unfold Hub.asked at hr ⊢
  simp only [Hub.ask, hr]

theorem Hub.ask_passed {h : Hub} {a : AskFrame} (hr : (h.asked a).askRefusal a = none) :
    h.ask a = (h.asked a).startCheck a := by
  unfold Hub.asked at hr ⊢
  simp only [Hub.ask, hr]

/-- Past the fields, STOPPING and INHIBITED the refusal is by LOAD, pose and holds (R88). -/
theorem Hub.askRefusal_asking {h : Hub} {a : AskFrame} (hf : (askTicksLegal a && askLegal a) = true)
    (hs : h.permit.state ≠ .stopping) (hi : h.permit.state ≠ .inhibited) :
    h.askRefusal a =
      if h.loading then some .loading
      else if !h.tracking then some .noPose
      else if !h.permit.holds.empty then some .held
      else none := by
  unfold Hub.askRefusal
  rw [if_neg (by simp [hf])]
  cases hst : h.permit.state with
  | stopping => exact absurd hst hs
  | inhibited => exact absurd hst hi
  | still | moving | probing => rfl

theorem limited_within (c : Nat) (speed turn : Int) : (limited c speed turn).1.natAbs ≤ c := by
  unfold limited
  split
  · dsimp only [scaled]
    split <;> omega
  · omega

theorem limited_kept {c : Nat} {speed : Int} (turn : Int) (hc : speed.natAbs ≤ c) :
    limited c speed turn = (speed, turn) := if_neg (by omega)

/-- A check that starts is in flight while its sweep has a claim to make, and else concludes (R91, R99). -/
theorem startCheck_cases (h : Hub) (a : AskFrame) :
    ((h.newCheck a false).sweep.claim.isSome = true →
      h.startCheck a = { h with permit.check := some (h.newCheck a false), permit.recheckTurn := .recheck })
    ∧ ((h.newCheck a false).sweep.claim = none →
      h.startCheck a = Hub.concludeCheck (h.newCheck a false) { h with permit.recheckTurn := .recheck }) := by
  refine ⟨fun hc => ?_, fun hc => ?_⟩
  · rw [Hub.startCheck, Hub.settleCheck, if_pos hc]
  · rw [Hub.startCheck, Hub.settleCheck, if_neg (by simp [hc])]
    exact if_neg (by simp [Hub.newCheck])

/-- Settles O10: each test that applies first fixes the refusal, and without one the check starts. -/
theorem askMeetsItsTestsInOrder : Obligations.AskMeetsItsTestsInOrder := by
  refine ⟨fun s a hr hx => ?_, fun s a hr hx ht hl => ?_⟩
  · have hrun := runs_ask a hr hx
    have hrefuse {r : Reason} (hq : (s.hub.asked a).askRefusal a = some r) :
        Runs (.ask a) s ((s.hub.asked a).refuse a.seq r false) := Hub.ask_refused hq ▸ hrun
    refine ⟨fun hf => hrefuse ?_, fun hf hs => hrefuse ?_, fun hf hs => hrefuse ?_, fun hf hs hi =>
      ⟨fun hload => hrefuse ?_, fun hload hp => hrefuse ?_, fun hload hp hh => hrefuse ?_⟩⟩
    · rw [Hub.askRefusal, if_pos (by simp [hf])]
    · rw [Hub.askRefusal, if_neg (by simp [hf]), show (s.hub.asked a).permit.state = .stopping from hs]
    · rw [Hub.askRefusal, if_neg (by simp [hf]), show (s.hub.asked a).permit.state = .inhibited from hs]
    · rw [Hub.askRefusal_asking (h := s.hub.asked a) hf hs hi]
      exact if_pos hload
    · have hp' : (s.hub.asked a).tracking = false := decide_eq_false hp
      rw [Hub.askRefusal_asking (h := s.hub.asked a) hf hs hi, if_neg (by rw [show (s.hub.asked a).loading = false from hload]; decide),
        if_pos (by rw [hp']; rfl)]
    · have hp' : (s.hub.asked a).tracking = true := decide_eq_true hp
      rw [Hub.askRefusal_asking (h := s.hub.asked a) hf hs hi, if_neg (by rw [show (s.hub.asked a).loading = false from hload]; decide),
        if_neg (by rw [hp']; decide), if_pos (by rw [show (s.hub.asked a).permit.holds.empty = false from hh]; rfl)]
  · intro h hs hi hm c
    obtain ⟨hp, hh, hload⟩ := hm
    have hnone : h.askRefusal a = none := by
      rw [Hub.askRefusal_asking (by simp [ht, hl]) hs hi, if_neg (by simp [hload]), if_neg (by simp [hp]),
        if_neg (by simp [hh])]
    have hrun : Runs (.ask a) s (h.startCheck a) := Hub.ask_passed (h := s.hub) hnone ▸ runs_ask a hr hx
    refine ⟨_, hrun, rfl, rfl, rfl, limited_within _ _ _, fun hc => ?_, (startCheck_cases h a).1,
      (startCheck_cases h a).2⟩
    have hk := limited_kept a.turnDeg hc
    exact ⟨congrArg (·.1) hk, congrArg (·.2) hk⟩

/-! ## STOP_DONE (R107) -/

/-- Settles O12: the receiver hears the frame whole, and the permit state says what STOP_DONE does. -/
theorem stopDoneActsByPermitState : Obligations.StopDoneActsByPermitState := by
  intro s hr hx
  have hrun : Runs .stopDone s s.hub.frameTaken.stopDone := runs_of_run (exec_stopDone hx) hr
  have hs : s.hub.frameTaken.permit = s.hub.permit := by simp
  cases hst : s.hub.permit.state with
  | stopping | inhibited | still | moving | probing =>
    unfold Hub.stopDone at hrun
    rw [hs, hst] at hrun
    exact hrun

/-! ## Evidence of the drive controller (R48) -/

theorem Hub.testBacklog_queue (h : Hub) :
    h.testBacklog.queue =
      { h.queue with
        backlog := backlogAfter h.queue.backlog h.queue.count h.queue.bytes h.limits.countT h.limits.byteT } := by
  unfold Hub.testBacklog
  dsimp only
  split
  · next hb => rw [hb]
  · simp

theorem kickUpdater_waits {h : Hub} (hw : h.updater.work.isSome = true ∨ h.loading = true) : h.kickUpdater = h :=
  if_pos (by simpa using hw)

theorem kickUpdater_idle {h : Hub} (hw : h.updater.work = none) (hl : h.loading = false) :
    h.kickUpdater = h.takeRecords h.queue.records := if_neg (by simp [hw, hl])

/-- A record's place at the tail when it fits (R49, R51, R55). -/
theorem offer_fits {h : Hub} {r : Record} (hl : r.source = .driveLink) (hc : h.queue.count + 1 ≤ 40)
    (hb : h.queue.bytes + r.size ≤ 640) :
    h.offer r = ({ h with queue.records := h.queue.records ++ [r] }.testBacklog).kickUpdater := by
  unfold Hub.offer
  rw [if_neg (fun hn => hn.2 hl), if_pos ⟨hc, hb⟩]

theorem offer_lost {h : Hub} {r : Record} (hl : r.source = .driveLink)
    (hf : 40 < h.queue.count + 1 ∨ 640 < h.queue.bytes + r.size) :
    h.offer r = { h with queue.lost := sat16 h.queue.lost }.setPlan .evidenceLost := by
  unfold Hub.offer
  rw [if_neg (fun hn => hn.2 hl), if_neg (by omega)]

/-- While the Map Updater applies or the Map Store is in LOAD, a record waits at the tail when it fits, and is lost
else (R49, R50, R58). -/
theorem offer_waiting {h : Hub} (hw : h.updater.work.isSome = true ∨ h.loading = true) {r : Record}
    (hl : r.source = .driveLink) :
    (h.queue.count + 1 ≤ 40 → h.queue.bytes + r.size ≤ 640 →
      (h.offer r).queue.records = h.queue.records ++ [r] ∧ (h.offer r).queue.lost = h.queue.lost)
    ∧ (40 < h.queue.count + 1 ∨ 640 < h.queue.bytes + r.size →
      (h.offer r).queue = { h.queue with lost := min (h.queue.lost + 1) 65535 }
      ∧ (h.offer r).planHas .evidenceLost = true)
    ∧ (h.offer r).updater = h.updater := by
  have hkick : ({ h with queue.records := h.queue.records ++ [r] }.testBacklog).kickUpdater
      = { h with queue.records := h.queue.records ++ [r] }.testBacklog :=
    kickUpdater_waits (by simpa [Hub.loading] using hw)
  refine ⟨fun hc hb => ?_, fun hf => ?_, ?_⟩
  · rw [offer_fits hl hc hb, hkick, Hub.testBacklog_queue]
    exact ⟨rfl, rfl⟩
  · rw [offer_lost hl hf]
    exact ⟨rfl, Hub.planHas_setPlan_self ..⟩
  · by_cases hf : h.queue.count + 1 ≤ 40 ∧ h.queue.bytes + r.size ≤ 640
    · rw [offer_fits hl hf.1 hf.2, hkick]
      simp
    · rw [offer_lost hl (by omega)]
      rfl

/-- An idle Map Updater takes a record that arrives at an empty queue (R55). -/
theorem offer_idle {h : Hub} {r : Record} (hl : r.source = .driveLink) (hb : r.size ≤ 640) (hw : h.updater.work = none)
    (hload : h.loading = false) (hq : h.queue.records = []) :
    h.offer r = ({ h with queue.records := [r] }.testBacklog).takeRecords [r] := by
  rw [offer_fits hl (by simp [EvidenceQueue.count, hq]) (by simpa [EvidenceQueue.bytes, hq] using hb), hq,
    List.nil_append, kickUpdater_idle (by simpa using hw) (by simpa [Hub.loading] using hload)]
  simp

theorem beginItems_climb (h : Hub) (t : Tile) :
    Hub.beginItems h.floor [.climb t] h = ({ h with updater.work := some ⟨[.climb t], .write⟩ }, true) := by
  simp [Hub.beginItems]

/-- The slot a BRUSH_LOAD item writes to, with the centre tile it is the SENSED entry of (R64). -/
def Hub.brushTarget (h : Hub) : Option (Nat × Tile) :=
  (if h.tracking then h.pose.centreTile else none).bind fun t => (h.table.sensedAt h.floor t).map fun slot => (slot, t)

theorem beginItems_brushLoad {h : Hub} (p : Pile) {t : Tile} {slot : Nat} (ht : h.brushTarget = some (slot, t)) :
    Hub.beginItems h.floor [.brushLoad p] h =
      ({ h with updater.pile := p, updater.work := some ⟨[.brushLoad p], .brushWrite slot t⟩ }, true) := by
  unfold Hub.beginItems
  rw [if_neg (fun hn => hn rfl)]
  have ht' : Hub.brushTarget { h with updater.pile := p } = some (slot, t) := ht
  unfold Hub.brushTarget at ht'
  dsimp only
  rw [ht']

theorem beginItems_brushLoad_none {h : Hub} (p : Pile) (hn : h.brushTarget = none) :
    Hub.beginItems h.floor [.brushLoad p] h = ({ h with updater.pile := p }, false) := by
  unfold Hub.beginItems
  rw [if_neg (fun hn => hn rfl)]
  have hn' : Hub.brushTarget { h with updater.pile := p } = none := hn
  unfold Hub.brushTarget at hn'
  dsimp only
  rw [hn']
  rfl

/-- The hub with one record in its queue, at which an idle Map Updater begins. -/
def Hub.holding (r : Record) (h : Hub) : Hub := { h.frameTaken with queue.records := [r] }.testBacklog

theorem holding_records (r : Record) (h : Hub) : (h.holding r).queue.records = [r] := by
  rw [Hub.holding, Hub.testBacklog_queue]

theorem holding_brushTarget (r : Record) (h : Hub) : (h.holding r).brushTarget = h.brushTarget := by
  simp [Hub.holding, Hub.brushTarget, Hub.tracking, Hub.pose, Hub.floor]

theorem takeRecords_waiting {g h : Hub} {r : Record} {rest : List Record}
    (hb : Hub.beginItems r.floor r.items h = (g, true)) : Hub.takeRecords (r :: rest) h = g := by
  simp [Hub.takeRecords, hb]

theorem takeRecords_done {g h : Hub} {r : Record} {rest : List Record}
    (hb : Hub.beginItems r.floor r.items h = (g, false)) :
    Hub.takeRecords (r :: rest) h = Hub.takeRecords rest g.dropHead := by
  simp [Hub.takeRecords, hb]

/-- An idle Map Updater takes the record of the Drive link that comes to an empty queue (R55). -/
theorem driveEvent_idle {h : Hub} {r : Record} (hl : r.source = .driveLink) (hz : r.size = 14)
    (hw : h.updater.work = none) (hload : h.loading = false) (hq : h.queue.records = []) :
    h.frameTaken.offer r = (h.holding r).takeRecords [r] :=
  offer_idle (h := h.frameTaken) hl (by rw [hz]; decide) hw hload hq

theorem holding_floor (r : Record) (h : Hub) : (h.holding r).floor = h.floor := by simp [Hub.holding, Hub.floor]

/-- What a record of the Drive link comes to while the Map Updater applies or the Map Store is in LOAD. -/
theorem driveEvent_waiting {h : Hub} (hw : h.updater.work.isSome = true ∨ h.loading = true) {r : Record}
    (hl : r.source = .driveLink) (hz : r.size = 14) :
    (h.queue.count + 1 ≤ 40 → h.queue.bytes + 14 ≤ 640 →
      (h.frameTaken.offer r).queue.records = h.queue.records ++ [r]
      ∧ (h.frameTaken.offer r).queue.lost = h.queue.lost)
    ∧ (40 < h.queue.count + 1 ∨ 640 < h.queue.bytes + 14 →
      (h.frameTaken.offer r).queue = { h.queue with lost := min (h.queue.lost + 1) 65535 }
      ∧ (h.frameTaken.offer r).planHas .evidenceLost = true)
    ∧ (h.frameTaken.offer r).drive = { h.drive with up := true, badRun := 0, rx := .hunting false }
    ∧ { h.frameTaken.offer r with queue := h.queue, drive := h.drive, att := h.att } = h := by
  obtain ⟨hfits, hlost, hupd⟩ := offer_waiting (h := h.frameTaken) hw hl
  rw [hz] at hfits hlost
  exact ⟨hfits, hlost, by simp [Hub.frameTaken], by simp [hupd]⟩

/-- Settles O13: the records of the Drive link, offered to a Map Updater that waits or takes them at once. -/
theorem driveEventsPostEvidence : Obligations.DriveEventsPostEvidence := by
  have hclimb {s : State} {t : Tile} (hr : s.hub.inReset = false) (hx : s.hub.drive.rx.readyFor .event = true)
      (ht : s.hub.tracking = true) (hf : s.hub.pose.frontTile s.hub.limits.radius = some t) :
      Runs .climb s (s.hub.frameTaken.offer ⟨.climb, s.hub.floor, s.hub.time.ms, .driveLink, [.climb t]⟩) := by
    have hrun : Runs .climb s s.hub.frameTaken.climbed := runs_of_run (exec_climb hx) hr
    have he : s.hub.frameTaken.climbed
        = s.hub.frameTaken.offer ⟨.climb, s.hub.floor, s.hub.time.ms, .driveLink, [.climb t]⟩ := by
      have ht' : s.hub.frameTaken.tracking = true := ht
      have hf' : s.hub.frameTaken.pose.frontTile s.hub.frameTaken.limits.radius = some t := hf
      rw [Hub.climbed, if_pos ht', hf']
      rfl
    exact he ▸ hrun
  have hbrush {s : State} (p : Pile) (hr : s.hub.inReset = false) (hx : s.hub.drive.rx.readyFor .event = true) :
      Runs (.brushLoad p) s
        (s.hub.frameTaken.offer ⟨.brushLoad, s.hub.floor, s.hub.time.ms, .driveLink, [.brushLoad p]⟩) :=
    runs_of_run (exec_brushLoad p hx) hr
  refine ⟨?_, fun s hr hx hw hload hq => ⟨fun t ht hf => ?_, fun p t slot ht hc hs => ?_, fun p hn => ?_⟩⟩
  · rintro s i r hr hx hw (⟨p, rfl, rfl⟩ | ⟨t, rfl, ht, hf, rfl⟩)
    · exact ⟨_, hbrush p hr hx, driveEvent_waiting hw rfl rfl⟩
    · exact ⟨_, hclimb hr hx ht hf, driveEvent_waiting hw rfl rfl⟩
  · have hrun := hclimb hr hx ht hf
    rw [driveEvent_idle rfl rfl hw hload hq] at hrun
    generalize hg : s.hub.holding ⟨.climb, s.hub.floor, s.hub.time.ms, .driveLink, [.climb t]⟩ = g at hrun
    have hb := beginItems_climb g t
    rw [show g.floor = s.hub.floor by rw [← hg]; exact holding_floor _ _] at hb
    rw [takeRecords_waiting hb] at hrun
    exact ⟨_, hrun, by rw [← hg]; exact holding_records _ _, by simp [← hg, Hub.holding], by simp [← hg, Hub.holding]⟩
  · have hrun := hbrush p hr hx
    rw [driveEvent_idle rfl rfl hw hload hq] at hrun
    generalize hg : s.hub.holding ⟨.brushLoad, s.hub.floor, s.hub.time.ms, .driveLink, [.brushLoad p]⟩ = g at hrun
    have ht' : g.brushTarget = some (slot, t) := by
      rw [← hg, holding_brushTarget, Hub.brushTarget, if_pos ht, hc, Option.bind_some, hs, Option.map_some]
    have hb := beginItems_brushLoad p ht'
    rw [show g.floor = s.hub.floor by rw [← hg]; exact holding_floor _ _] at hb
    rw [takeRecords_waiting hb] at hrun
    exact ⟨_, hrun, by rw [← hg]; exact holding_records _ _, by simp [← hg, Hub.holding], by simp [← hg, Hub.holding]⟩
  · have hrun := hbrush p hr hx
    rw [driveEvent_idle rfl rfl hw hload hq] at hrun
    generalize hg : s.hub.holding ⟨.brushLoad, s.hub.floor, s.hub.time.ms, .driveLink, [.brushLoad p]⟩ = g at hrun
    have hn' : g.brushTarget = none := by
      rw [← hg, holding_brushTarget, Hub.brushTarget]
      obtain ht | hn := hn
      · rw [if_neg (by simp [ht])]
        rfl
      · split
        · cases hc : s.hub.pose.centreTile with
          | none => rfl
          | some t => rw [Option.bind_some, hn t hc]; rfl
        · rfl
    have hb := beginItems_brushLoad_none p hn'
    rw [show g.floor = s.hub.floor by rw [← hg]; exact holding_floor _ _] at hb
    rw [takeRecords_done hb] at hrun
    have hrec : g.queue.records = [_] := hg ▸ holding_records _ _
    refine ⟨_, hrun, ?_, ?_, by simp [← hg, Hub.holding, Hub.takeRecords]⟩
    · simp [Hub.takeRecords, hrec]
    · simp [Hub.takeRecords, ← hg, Hub.holding, hw]

end Sys2Proof.Machine
end

section
/-!
Bad frames and breaks of the Drive link (O14).
-/

namespace Sys2Proof.Machine

/-! ## What the trigger LINK leaves of the link (R110, R189) -/

section
variable (h : Hub)

/-- A frame that is formed changes the link alone. -/
theorem Hub.send_eq (f : DriveFrame) : h.send f = { h with drive := (h.send f).drive } := by
  unfold Hub.send
  split <;> rfl

@[simp] theorem Hub.send_link (f : DriveFrame) :
    (h.send f).drive.up = h.drive.up ∧ (h.send f).drive.rx = h.drive.rx ∧ (h.send f).drive.errors = h.drive.errors := by
  rw [Hub.send_drive]
  cases h.drive.sending <;> exact ⟨rfl, rfl, rfl⟩

@[simp] theorem Hub.refuse_link (q : Byte) (r : Reason) (b : Bool) :
    (h.refuse q r b).drive.up = h.drive.up ∧ (h.refuse q r b).drive.rx = h.drive.rx
    ∧ (h.refuse q r b).drive.errors = h.drive.errors ∧ (h.refuse q r b).drive.badRun = h.drive.badRun := by
  simp [Hub.refuse]

@[simp] theorem Hub.abandonCheck_link (r : Reason) :
    (h.abandonCheck r).drive.up = h.drive.up ∧ (h.abandonCheck r).drive.rx = h.drive.rx
    ∧ (h.abandonCheck r).drive.errors = h.drive.errors ∧ (h.abandonCheck r).drive.badRun = h.drive.badRun := by
  unfold Hub.abandonCheck
  split <;> simp

@[simp] theorem Hub.linkTrigger_link :
    h.linkTrigger.drive.up = h.drive.up ∧ h.linkTrigger.drive.rx = h.drive.rx
    ∧ h.linkTrigger.drive.errors = h.drive.errors ∧ h.linkTrigger.drive.badRun = h.drive.badRun := by
  unfold Hub.linkTrigger
  cases h.permit.state <;> simp [Hub.inhibit, Hub.sendStop, Hub.endPermit]

/-- Whatever the state it finds, the trigger LINK leaves INHIBITED (R110). -/
theorem Hub.linkTrigger_inhibits :
    h.linkTrigger.permit.state = .inhibited ∧ (h.permit.state ≠ .inhibited → h.linkTrigger.permit.check = none)
    ∧ h.linkTrigger.permit.holds = h.permit.holds ∧ h.linkTrigger.permit.stopTimeouts = h.permit.stopTimeouts := by
  rw [Hub.linkTrigger_permit]
  cases hs : h.permit.state <;> simp [hs]

end

/-- A break as the statement of O14 has it, from the hub `g` to the hub `h`. -/
structure Hub.Broken (g h : Hub) : Prop where
  up : h.drive.up = false
  badRun : h.drive.badRun = 0
  state : h.permit.state = .inhibited
  check : g.permit.state ≠ .inhibited → h.permit.check = none
  holds : h.permit.holds = g.permit.holds
  stopTimeouts : h.permit.stopTimeouts = g.permit.stopTimeouts
  rest : h.table = g.table ∧ h.queue = g.queue ∧ h.odo = g.odo ∧ h.route = g.route ∧ h.trail = g.trail ∧ h.dock = g.dock

theorem linkBreak_broken (g : Hub) : g.Broken g.linkBreak := by
  obtain ⟨hs, hc, hh, ht⟩ := Hub.linkTrigger_inhibits
    { g with
      drive.up := false, drive.badRun := 0
      drive.errors := if g.drive.rx.inProgress then sat8 g.drive.errors else g.drive.errors
      drive.rx := g.drive.rx.hunt }
  exact ⟨by simp [Hub.linkBreak, Hub.trigger], by simp [Hub.linkBreak, Hub.trigger], hs, hc, hh, ht, by simp⟩

theorem linkBreak_link (g : Hub) :
    g.linkBreak.drive.rx = g.drive.rx.hunt
    ∧ g.linkBreak.drive.errors = if g.drive.rx.inProgress then sat8 g.drive.errors else g.drive.errors := by
  simp [Hub.linkBreak, Hub.trigger]

/-! ## The commands -/

theorem runs_driveBadFrame {s : State} (hr : s.hub.inReset = false) {chars : List LinkChar} {rx : DriveRx}
    (hx : s.hub.drive.rx.hear chars = some (rx, .bad)) :
    Runs (.driveBadFrame chars) s (Hub.badFrame { s.hub with drive.rx := rx }) := by
  have hrun : Runs (.driveBadFrame chars) s (s.hub.heard chars fun
      | .bad => some Hub.badFrame
      | _ => none) := runs_of_run (f := fun h => h.heard chars _) rfl hr
  unfold Hub.heard at hrun
  rw [hx] at hrun
  exact hrun

theorem runs_heldLow {s : State} (hr : s.hub.inReset = false) (chars : List LinkChar) :
    Runs (.dlRxHeldLow chars) s (s.hub.heldLow chars) := runs_of_run rfl hr

/-! ## The receiver's rules (R187, R188) -/

theorem LinkFrame.ofType_type (f : LinkFrame) : LinkFrame.ofType f.type = some f := by cases f <;> decide

theorem LinkFrame.ofType_other {b : Byte} (ha : b ≠ 0xA1#8) (he : b ≠ 0xA2#8) : LinkFrame.ofType b = none := by
  simp [LinkFrame.ofType, LinkFrame.type, ha, he]

theorem judgeFrame_bad {f : LinkFrame} {rest : List Byte} (hn : rest ≠ [])
    (hc : rest.getLast? ≠ some (crc8 (f.type :: rest.dropLast))) : judgeFrame f (f.type :: rest) = .bad := by
  unfold judgeFrame
  rw [if_neg]
  rwa [List.getLast?_cons_of_ne_nil hn, List.dropLast_cons_of_ne_nil hn]

theorem eventOf_bad {code argument : Byte}
    (hc : (code.toNat = 0 ∨ 3 < code.toNat) ∨ (code.toNat = 2 ∧ 2 < argument.toNat)) :
    eventOf (eventBytes code argument) = .bad := by
  have h1 : u8 (eventBytes code argument) 1 = code.toNat := rfl
  have h2 : u8 (eventBytes code argument) 2 = argument.toNat := rfl
  unfold eventOf
  rw [h1, h2]
  rcases hc with (hc | hc) | ⟨hc, ha⟩
  · simp [hc]
  · split <;> first | omega | rfl
  · rw [hc]
    have hp : Pile.ofCode argument.toNat = none := by
      unfold Pile.ofCode
      split <;> first | omega | rfl
    simp [hp]

/-! ## The trigger LINK by permit state (R110) -/

theorem linkTrigger_still {h : Hub} (hs : h.permit.state = .still) (hc : h.permit.check = none) :
    h.trigger .link
      = Hub.setPower .inhibited
        (Hub.setPlan .inhibited { h with permit.state := .inhibited, permit.driveStopped := false }) := by
  simp [Hub.trigger, Hub.linkTrigger, hs, Hub.abandonCheck_none h _ hc, Hub.inhibit]

theorem linkTrigger_moved {h : Hub}
    (hs : h.permit.state = .moving ∨ h.permit.state = .probing ∨ h.permit.state = .stopping)
    (hc : h.permit.check = none) :
    h.trigger .link
      = Hub.setPower .inhibited (Hub.setPlan .inhibited (Hub.setPlan .stopIssued
        { h.send (.stop .link) with
          permit :=
            { h.permit with
              state := .inhibited, driveStopped := false, active := none, expiry := none, recheck := none
              recheckPending := false, stopTimer := none, lastStop := some .link } })) := by
  have ha : h.endPermit.abandonCheck .inhibited = h.endPermit := Hub.abandonCheck_none _ _ hc
  have hsend : h.endPermit.send (.stop .link) = { h.endPermit with drive := (h.send (.stop .link)).drive } := by
    rw [Hub.send_eq, Hub.send_congr (g := h.endPermit) (h := h) rfl]
  rw [h.send_eq]
  rcases hs with hs | hs | hs
  all_goals
    simp only [Hub.trigger, Hub.linkTrigger, hs, ha, Hub.sendStop, hsend]
    rfl

/-- Settles O14: the commands come to a counted bad frame or a break; the receiver's rules and the trigger LINK are the
branches of their definitions. -/
theorem badFramesAreCountedAndBreakTheLink : Obligations.BadFramesAreCountedAndBreakTheLink := by
  refine ⟨fun s hr => ?_, ⟨fun f g got c => ⟨fun hs => ?_, fun hs hm hd => ?_, fun hs hm ha he => ?_⟩,
    fun run c => ⟨fun hm => ?_, fun hm hd => ?_⟩, fun run f rest hl hc => ?_, fun run code argument hc => ?_⟩,
    fun h => ⟨fun hs => ?_, linkTrigger_still, linkTrigger_moved⟩⟩
  · intro stopped more
    have hstop {g : Hub} (hb : s.hub.Broken g) : stopped g :=
      ⟨hb.up, hb.badRun, hb.state, Hub.driveInhibit_inhibited hb.state, hb.check, hb.holds, hb.stopTimeouts, hb.rest⟩
    refine ⟨fun chars rx hx hu => ?_, fun chars rx hx hu hb => ?_, fun chars rx hx hu => ?_, fun chars hu => ?_⟩
    · have hrun := runs_driveBadFrame hr hx
      rw [Hub.badFrame_counts { s.hub with drive.rx := rx } hu] at hrun
      exact hrun
    · have hrun := runs_driveBadFrame hr hx
      rw [Hub.badFrame_breaks { s.hub with drive.rx := rx } hu hb] at hrun
      obtain ⟨hrx, herr⟩ := linkBreak_link (Hub.countBad { s.hub with drive.rx := rx })
      have hbr := linkBreak_broken (Hub.countBad { s.hub with drive.rx := rx })
      refine ⟨_, hrun, hstop ⟨hbr.up, hbr.badRun, hbr.state, hbr.check, hbr.holds, hbr.stopTimeouts, hbr.rest⟩, hrx, herr⟩
    · have hrun := runs_heldLow hr chars
      unfold Hub.heldLow at hrun
      rw [if_pos hu, hx] at hrun
      obtain ⟨hrx, herr⟩ := linkBreak_link { s.hub with drive.rx := rx }
      have hbr := linkBreak_broken { s.hub with drive.rx := rx }
      exact ⟨_, hrun, hstop ⟨hbr.up, hbr.badRun, hbr.state, hbr.check, hbr.holds, hbr.stopTimeouts, hbr.rest⟩, hrx, herr⟩
    · have hrun := runs_heldLow hr chars
      rwa [Hub.heldLow, if_neg (by simp [hu])] at hrun
  · simp [DriveRx.take, frameChar, hs]
  · simp [DriveRx.take, frameChar, hs, hm, hd, LinkFrame.ofType_type]
  · simp [DriveRx.take, frameChar, hs, hm, LinkFrame.ofType_other ha he]
  · simp [DriveRx.take, huntChar, hm]
  · rcases hd with hs | ⟨ha, he⟩
    · simp [DriveRx.take, huntChar, hm, hs]
    · simp [DriveRx.take, huntChar, hm, LinkFrame.ofType_other ha he]
  · have hn : rest ≠ [] := by
      rintro rfl
      cases f <;> cases hl
    have hh := hear_frame (rx := .hunting run) (f := f) rfl hn hl
    rwa [judgeFrame_bad hn hc] at hh
  · obtain ⟨crc, hb⟩ := event_bytes code argument
    have hh := hear_frame (rx := .hunting run) (f := .event) (rest := [code, argument, crc]) rfl (by simp) rfl
    have hj := judge_event code argument
    rw [eventOf_bad hc, hb] at hj
    rw [hb]
    exact hj ▸ hh
  · simp [Hub.trigger, Hub.linkTrigger, hs]

end Sys2Proof.Machine
end

section
/-!
The Hazard Table's arbiter and the claims of a sweep (O15, O16).
-/

namespace Sys2Proof.Machine

/-! ## The arbiter's order (R15, R16) -/

/-- Whether a claimant waits while one unit, or none, has not yet made its next claim. -/
def Hub.waitsBeside (h : Hub) (rest : Option Claimant) (c : Claimant) : Bool :=
  h.hasClaim c && decide (rest ≠ some c.unit)

theorem Hub.grants_beside {h : Hub} {rest : Option Claimant} (hrest : rest = none ∨ rest = h.table.resting) {c : Claimant}
    (hc : h.choice (h.waitsBeside rest) = some c) : h.grants c = true := by
  rcases hrest with rfl | rfl
  · have hall : h.waitsBeside none = h.hasClaim := by
      funext d
      simp [Hub.waitsBeside]
    exact h.grants_of_choice (hall ▸ hc)
  · exact h.grants_in_gap hc

/-- The place of a claimant in the arbiter's order (R15). -/
def Claimant.place : Claimant → Nat
  | .check => 1
  | .recheck => 1
  | .updater => 2
  | .odometry => 2
  | .plan => 3
  | .store => 4

/-- The arbiter chooses none that comes after another that waits (R15). -/
theorem Hub.choice_place {h : Hub} {waits : Claimant → Bool} {c d : Claimant} (hc : h.choice waits = some c)
    (hd : waits d = true) : c.place ≤ d.place := by
  have hfirst (hw : waits .check = true ∨ waits .recheck = true) : c.place ≤ 1 := by
    rcases h.choice_first hc hw with rfl | rfl <;> exact le_refl 1
  have hsecond (hw : waits .updater = true ∨ waits .odometry = true) : c.place ≤ 2 := by
    obtain ⟨hp, hs⟩ := h.choice_firstTwo hc hw
    cases c <;> first | decide | contradiction
  cases d with
  | check => exact hfirst (.inl hd)
  | recheck => exact hfirst (.inr hd)
  | updater => exact hsecond (.inl hd)
  | odometry => exact hsecond (.inr hd)
  | plan =>
    have hs : c ≠ .store := fun e => h.choice_notStore hd (e ▸ hc)
    cases c <;> first | decide | contradiction
  | store => cases c <;> decide

/-- Settles O15: the choice, place by place, with every claim waiting or with the unit granted last at rest. -/
theorem arbiterGrantsInItsOrder : Obligations.ArbiterGrantsInItsOrder := by
  refine ⟨fun h rest hrest => ?_, fun h c hg => ⟨h.hasClaim_of_grants hg, fun d hd hp => ?_, fun d hd hr => ?_⟩,
    fun h c => ?_⟩
  · have hg {c : Claimant} (hc : h.choice (h.waitsBeside rest) = some c) : h.grants c = true := Hub.grants_beside hrest hc
    exact ⟨fun hc hr => hg (h.choice_check hc hr), fun hc hr => hg (h.choice_recheck hc hr),
      fun hc hr => hg (h.choice_both hc hr), fun hc hr =>
        ⟨fun hu ho => hg (h.choice_updater hc hr hu ho), fun hu ho => hg (h.choice_odometry hc hr hu ho),
          fun hu ho => hg (h.choice_second hc hr hu ho), fun hu ho =>
            ⟨fun hp => hg (h.choice_plan hc hr hu ho hp), fun hp hs => hg (h.choice_store hc hr hu ho hp hs)⟩⟩⟩
  · have hplace : ¬ c.place ≤ d.place := by
      have : d.place < c.place := by cases c <;> cases d <;> exact hp
      exact Nat.not_le.mpr this
    simp only [Hub.grants, Bool.or_eq_true, decide_eq_true_eq] at hg
    rcases hg with hg | hg
    · exact absurd (Hub.choice_place hg hd) hplace
    · by_contra hn
      exact hplace (Hub.choice_place hg (by simp [Hub.waitsInGap, hd, hn]))
  · have hgap : h.waitsInGap = h.hasClaim := by
      funext e
      simp [Hub.waitsInGap, hr]
    simp only [Hub.grants, hgap, Bool.or_self, decide_eq_true_eq] at hg hd
    exact Option.some.inj (hd.symm.trans hg)
  · cases c <;> rfl

/-! ## The claims of a sweep (R100) -/

section
variable {h : Hub} {stop : Sweep → FootTile → Bool} {blocks : Seen → Bool} {sw : Sweep}

/-- A sweep with nothing blocking waits at the first tile that has a SENSED entry. -/
theorem Hub.examine_waits (hstop : ∀ f, stop sw f = false) {f : FootTile} (hw : f.offWorld = false) {next : Nat}
    (hs : h.table.sensedAt h.floor f.tile = some next) (rest : List FootTile) :
    h.examine stop blocks (f :: rest) sw = { sw with toExamine := f :: rest, claim := some (.sensed next) } := by
  rw [Hub.examine]
  simp only [hstop, Bool.false_eq_true, if_false, hw, hs]

theorem Hub.sweepClaim_planned_more {slot next : Nat} {e : Entry} (hc : sw.claim = some (.planned slot))
    (he : h.table.slots.entry slot = some e) (ho : e.origin = .planned) (hf : e.floor = h.floor)
    (hn : h.table.nextPlanned h.floor (slot + 1) = some next) :
    h.sweepClaim stop blocks sw = { sw with planned := sw.planned ++ [e], claim := some (.planned next) } := by
  simp [Hub.sweepClaim, hc, he, ho, hf, hn, Option.filter_some]

theorem Hub.sweepClaim_planned_last {slot : Nat} {e : Entry} (hc : sw.claim = some (.planned slot))
    (he : h.table.slots.entry slot = some e) (ho : e.origin = .planned) (hf : e.floor = h.floor)
    (hn : h.table.nextPlanned h.floor (slot + 1) = none) :
    h.sweepClaim stop blocks sw = h.examine stop blocks sw.toExamine { sw with planned := sw.planned ++ [e] } := by
  simp [Hub.sweepClaim, hc, he, ho, hf, hn, Option.filter_some]

theorem Hub.sweepClaim_sensed {slot : Nat} {e : Entry} {f : FootTile} {rest : List FootTile}
    (hc : sw.claim = some (.sensed slot)) (he : h.table.slots.entry slot = some e)
    (hs : e.sensedOn h.floor f.tile = true) (ht : sw.toExamine = f :: rest) :
    h.sweepClaim stop blocks sw = h.examine stop blocks rest (sw.see blocks ⟨f, e :: sw.plannedView f⟩) := by
  simp [Hub.sweepClaim, hc, he, hs, ht, Option.filter_some]

/-- A tile that does not block is examined and nothing more. -/
theorem Sweep.see_clear {t : Seen} (ht : blocks t = false) : sw.see blocks t = { sw with seen := sw.seen ++ [t] } := by
  simp [Sweep.see, ht]

end

/-- A check reads on while no tile blocks. -/
theorem Check.stops_clear (c : Check) (running : Bool) {sw : Sweep} (hb : sw.firstBlocking = none) (f : FootTile) :
    c.stops running sw f = false := by
  simp [Check.stops, hb]

/-- A recheck reads on while no tile triggers. -/
theorem recheckStops_clear {sw : Sweep} (hb : sw.firstBlocking = none) (f : FootTile) : recheckStops sw f = false := by
  simp [recheckStops, hb]

/-- A check whose sweep has a further claim waits with it. -/
theorem runs_checkSweepClaim_more {s : State} {c : Check} {next : Sweep} (hr : s.hub.inReset = false)
    (hc : s.hub.permit.check = some c) (hg : s.hub.grants .check = true)
    (hn : s.hub.sweepClaim (c.stops s.hub.probing) (fun t => (c.blocked t).isSome) c.sweep = next)
    (hm : next.claim.isSome = true) :
    Runs .checkSweepClaim s
      { s.hub with
        permit.check := some { c with sweep := next }
        permit.recheckTurn := .recheck, table.resting := some .check } := by
  have hrun : Runs .checkSweepClaim s (s.hub.checkClaim.afterGrant .check) := runs_of_grant rfl hr hg rfl
  have hclaim : s.hub.checkClaim =
      { s.hub with permit.check := some { c with sweep := next }, permit.recheckTurn := .recheck } := by
    simp only [Hub.checkClaim, hc, hn, Hub.settleCheck, hm, if_true]
  rw [hclaim, Hub.afterGrant_more _ (by simp [Hub.unitHasClaim, Hub.hasClaim, hm])] at hrun
  exact hrun

/-- A recheck whose sweep has a further claim waits with it. -/
theorem runs_recheckClaim_more {s : State} {p : PermitRecord} {sw next : Sweep} (hr : s.hub.inReset = false)
    (hp : s.hub.permit.active = some p) (hc : s.hub.permit.recheck = some sw) (hg : s.hub.grants .recheck = true)
    (hn : s.hub.sweepClaim recheckStops p.triggers sw = next) (hm : next.claim.isSome = true) :
    Runs .recheckClaim s
      { s.hub with
        permit.recheck := some next
        permit.recheckTurn := if s.hub.permit.check.isSome then .check else s.hub.permit.recheckTurn
        table.resting := some .check } := by
  have hrun : Runs .recheckClaim s (s.hub.recheckClaim.afterGrant .recheck) := runs_of_grant rfl hr hg rfl
  have hclaim : s.hub.recheckClaim =
      { s.hub with
        permit.recheck := some next
        permit.recheckTurn := if s.hub.permit.check.isSome then .check else s.hub.permit.recheckTurn } := by
    simp [Hub.recheckClaim, hp, hc, hn, Hub.settleRecheck, hm, Hub.startPending]
  rw [hclaim, Hub.afterGrant_more _ (by simp [Hub.unitHasClaim, Hub.hasClaim, hm])] at hrun
  exact hrun

/-- Settles O16: what `sweepClaim` makes of the sweep, for a check and for a recheck. -/
theorem plannedReadsComeInSlotOrder : Obligations.PlannedReadsComeInSlotOrder := by
  intro s sw hr
  dsimp only
  refine ⟨fun slot e hc he ho hf => ⟨fun next hn => ⟨?_, ?_⟩, fun f rest next hn hb ht hw hs => ⟨?_, ?_⟩⟩,
    fun slot e f g rest next hc he hon hb ht hw hs => ⟨?_, ?_⟩⟩
  · rintro c hchk hg rfl -
    exact runs_checkSweepClaim_more hr hchk hg (Hub.sweepClaim_planned_more hc he ho hf hn) rfl
  · intro p hp hre hg _
    exact runs_recheckClaim_more hr hp hre hg (Hub.sweepClaim_planned_more hc he ho hf hn) rfl
  · rintro c hchk hg rfl -
    refine runs_checkSweepClaim_more hr hchk hg ?_ rfl
    rw [Hub.sweepClaim_planned_last hc he ho hf hn, ht]
    exact Hub.examine_waits (c.stops_clear _ (by exact hb)) hw hs rest
  · intro p hp hre hg _
    refine runs_recheckClaim_more hr hp hre hg ?_ rfl
    rw [Hub.sweepClaim_planned_last hc he ho hf hn, ht]
    exact Hub.examine_waits (recheckStops_clear (by exact hb)) hw hs rest
  · rintro c hchk hg rfl hpass
    refine runs_checkSweepClaim_more hr hchk hg ?_ rfl
    refine (Hub.sweepClaim_sensed hc he hon ht).trans ?_
    rw [Sweep.see_clear (by exact hpass)]
    exact Hub.examine_waits (c.stops_clear _ (by exact hb)) hw hs rest
  · intro p hp hre hg hpass
    refine runs_recheckClaim_more hr hp hre hg ?_ rfl
    refine (Hub.sweepClaim_sensed hc he hon ht).trans ?_
    rw [Sweep.see_clear (by exact hpass)]
    exact Hub.examine_waits (recheckStops_clear (by exact hb)) hw hs rest

end Sys2Proof.Machine
end

section
/-!
Where a check and a recheck end (O17, O18).
-/

namespace Sys2Proof.Machine

/-! ## A check that concludes (R97, R99, R102) -/

/-- A check latched now. -/
theorem Hub.newCheck_fields (h : Hub) (a : AskFrame) (restarted : Bool) :
    (h.newCheck a restarted).ask = a ∧ (h.newCheck a restarted).latch = h.latch a
    ∧ (h.newCheck a restarted).restarted = restarted ∧ (h.newCheck a restarted).stale = false := ⟨rfl, rfl, rfl, rfl⟩

/-- What a grant makes of the permit (R102). -/
theorem Hub.grant_permit (h : Hub) (c : Check) (v : Verdict) :
    (h.grant c v).permit =
      { h.permit with
        active := some (c.record v h.time.ms), expiry := some ⟨h.time.ms, v.horizon⟩
        state := if v.outcome = .probe then .probing else .moving, recheck := none, recheckPending := false } := by
  simp [Hub.grant, Hub.timer]

/-- A grant's frame (R102). -/
theorem Hub.grant_drive (h : Hub) (c : Check) (v : Verdict) :
    (h.grant c v).drive =
      (h.send (.permit
        { seq := c.ask.seq, outcome := v.outcome, reason := none, holds := h.permit.holds, speed := v.speed
          turn := v.turn, horizon := v.horizon, brushLift := v.brushLift, guidance := h.guidance })).drive := rfl

theorem Hub.concludeCheck_grants {h : Hub} {d : Check} (hv : (d.verdict h.probing).reason = none) :
    h.concludeCheck d = Hub.grant d (d.verdict h.probing) { h with permit.check := none } := by
  simp only [Hub.concludeCheck, hv]

theorem Hub.concludeCheck_refuses {h : Hub} {d : Check} {r : Reason} (hv : (d.verdict h.probing).reason = some r) :
    h.concludeCheck d =
      Hub.refuse d.ask.seq r (d.verdict h.probing).brushLift { h with permit.check := none } := by
  simp only [Hub.concludeCheck, hv]

/-- What the claim that ends a check's sweep makes of the hub `g` (R97, R102). -/
structure Check.Concluded (d : Check) (g h : Hub) : Prop where
  check : h.permit.check = none
  holds : h.permit.holds = g.permit.holds
  granted : (d.verdict g.probing).reason = none →
    h.permit =
      { g.permit with
        active := some (d.record (d.verdict g.probing) g.time.ms)
        expiry := some ⟨g.time.ms, (d.verdict g.probing).horizon⟩
        state := if (d.verdict g.probing).outcome = .probe then .probing else .moving
        check := none, recheck := none, recheckPending := false, recheckTurn := .recheck }
    ∧ h.drive = (g.send (.permit
        { seq := d.ask.seq, outcome := (d.verdict g.probing).outcome, reason := none, holds := g.permit.holds
          speed := (d.verdict g.probing).speed, turn := (d.verdict g.probing).turn
          horizon := (d.verdict g.probing).horizon, brushLift := (d.verdict g.probing).brushLift
          guidance := g.guidance })).drive
    ∧ h.att = g.att ∧ h.table.resting = none
  refused : ∀ r, (d.verdict g.probing).reason = some r →
    h.permit = { g.permit with check := none, recheckTurn := .recheck }
    ∧ h.drive = (g.refuse d.ask.seq r (d.verdict g.probing).brushLift).drive
    ∧ h.att = (g.refuse d.ask.seq r (d.verdict g.probing).brushLift).att
    ∧ h.table.resting = if (g.permit.recheck.bind (·.claim)).isSome then some .check else none
  frame : { h with
    permit := g.permit, drive := g.drive, att := g.att, table.resting := g.table.resting } = g

theorem Check.concluded (d : Check) (g : Hub) :
    d.Concluded g ((Hub.concludeCheck d { g with permit.recheckTurn := .recheck }).afterGrant .check) := by
  generalize hg' : ({ g with permit.recheckTurn := .recheck } : Hub) = g'
  have hp : g'.probing = g.probing := hg' ▸ rfl
  cases hv : (d.verdict g.probing).reason with
  | none =>
    rw [Hub.concludeCheck_grants (by rw [hp, hv]), hp]
    have hguide : Hub.guidance { g with permit := { g.permit with check := none, recheckTurn := .recheck } } = g.guidance :=
      g.guidance_congr _ rfl rfl rfl rfl rfl
    subst hg'
    refine ⟨?_, ?_, fun _ => ⟨?_, ?_, ?_, ?_⟩, fun r hr => absurd (hv.symm.trans hr) nofun, ?_⟩
    · simp [Hub.grant_permit]
    · simp [Hub.grant_permit]
    · simp [Hub.grant_permit]
    · simp [Hub.grant_drive, Hub.send_drive, hguide]
    · simp
    · simp [Hub.unitHasClaim, Hub.hasClaim, Hub.grant_permit]
    · simp
  | some r =>
    rw [Hub.concludeCheck_refuses (by rw [hp, hv]), hp]
    subst hg'
    refine ⟨?_, ?_, fun hn => absurd (hv.symm.trans hn) nofun, fun q hq => ?_, ?_⟩
    · simp
    · simp
    · cases hv.symm.trans hq
      refine ⟨?_, ?_, ?_, ?_⟩
      · simp
      · exact g.refuse_drive _ _ _ _ rfl rfl rfl rfl rfl rfl rfl
      · simp
      · simp [Hub.unitHasClaim, Hub.hasClaim, Claimant.unit]
    · simp

/-! ## A notification (R17, R99, R116) -/

/-- Marking stale changes nothing of the permit but the check in flight (R99). -/
theorem Hub.markStale_permit (h : Hub) : ∃ c, h.markStale.permit = { h.permit with check := c } := by
  unfold Hub.markStale
  split
  · exact ⟨h.permit.check, rfl⟩
  · split
    · exact ⟨none, h.abandonCheck_permit _⟩
    · exact ⟨_, rfl⟩

theorem Hub.markStale_eq (h : Hub) :
    h.markStale = match h.permit.check with
      | none => h
      | some c =>
        if c.restarted then { h with permit.check := none }.refuse c.ask.seq .stale false
        else { h with permit.check := some { c with stale := true } } := by
  unfold Hub.markStale
  cases hc : h.permit.check with
  | none => rfl
  | some c => simp only [h.abandonCheck_some .stale c hc]

section
variable {h : Hub}

/-- Outside MOVING and PROBING no recheck is asked for (R116). -/
theorem Hub.recheckAsked_rest (hm : h.permit.state ≠ .moving) (hp : h.permit.state ≠ .probing) : h.recheckAsked = h := by
  unfold Hub.recheckAsked
  cases hs : h.permit.state <;> first | rfl | contradiction

theorem Hub.recheckAsked_running (hs : h.permit.state = .moving ∨ h.permit.state = .probing) {sw : Sweep}
    (hr : h.permit.recheck = some sw) : h.recheckAsked = { h with permit.recheckPending := true } := by
  unfold Hub.recheckAsked
  rcases hs with hs | hs <;> simp only [hs, hr]

theorem Hub.recheckAsked_starts (hs : h.permit.state = .moving ∨ h.permit.state = .probing)
    (hr : h.permit.recheck = none) {p : PermitRecord} (hp : h.permit.active = some p) :
    h.recheckAsked = Hub.settleRecheck (h.newRecheck p) { h with permit.recheckTurn := .recheck } := by
  unfold Hub.recheckAsked
  rcases hs with hs | hs <;> simp only [hs, hr, Hub.startRecheck, hp]

theorem Hub.settleRecheck_waits {sw : Sweep} (hc : sw.claim.isSome = true) :
    h.settleRecheck sw = { h with permit.recheck := some sw } := if_pos hc

theorem Hub.settleRecheck_clear {sw : Sweep} (hc : sw.claim = none) (hb : sw.firstBlocking = none) :
    h.settleRecheck sw = { h with permit.recheck := none } := by
  simp [Hub.settleRecheck, hc, hb]

/-- A recheck that ends at a tile that triggers stops a permit in motion (R117). -/
theorem Hub.settleRecheck_stops {sw : Sweep} (hc : sw.claim = none) (hb : sw.firstBlocking.isSome = true)
    (hs : h.permit.state = .moving ∨ h.permit.state = .probing) :
    h.settleRecheck sw = Hub.stopSequence .recheck { h with permit.recheck := none } := by
  rw [← Hub.trigger_in_motion { h with permit.recheck := none } .recheck hs nofun nofun]
  simp [Hub.settleRecheck, hc, hb]

end

/-- A stop sequence sets STOP_ISSUED. -/
theorem Hub.stopSequence_issued (h : Hub) (c : StopCause) : (h.stopSequence c).planHas .stopIssued = true := by
  rw [planHas_congr (h := h.setPlan .stopIssued) (by rw [Hub.stopSequence_planFlags]; rfl)]
  exact Hub.planHas_setPlan_self ..

/-- Settles O17: the claim that ends the sweep settles the check, and a notification is the mark and then the recheck. -/
theorem checkConcludesWithItsOutcome : Obligations.CheckConcludesWithItsOutcome := by
  refine ⟨fun s c hr hc hg => ?_, fun h => ?_⟩
  · intro sweep hend concludes
    have hrun : Runs .checkSweepClaim s (s.hub.checkClaim.afterGrant .check) := runs_of_grant rfl hr hg rfl
    have hclaim : s.hub.checkClaim = Hub.settleCheck { c with sweep } { s.hub with permit.recheckTurn := .recheck } := by
      simp only [Hub.checkClaim, hc]
      rfl
    rw [hclaim] at hrun
    have hconcludes (d : Check) (hask : d.ask = c.ask)
        (hd : Hub.settleCheck { c with sweep } { s.hub with permit.recheckTurn := .recheck }
          = Hub.concludeCheck d { s.hub with permit.recheckTurn := .recheck }) : concludes d := by
      rw [hd] at hrun
      have hcon := d.concluded s.hub
      generalize (Hub.concludeCheck d { s.hub with permit.recheckTurn := .recheck }).afterGrant .check = t at hrun hcon
      refine ⟨_, hrun, hcon.check, hcon.holds, fun hv => ?_, hask ▸ hcon.refused, hcon.frame⟩
      obtain ⟨hp, hdr, ha, ht⟩ := hcon.granted hv
      rw [hask] at hdr
      rw [hp]
      exact ⟨rfl, rfl, rfl, rfl, rfl, rfl, hdr, ha, ht⟩
    refine ⟨fun hs => hconcludes { c with sweep } rfl ?_, fun hs => ?_⟩
    · simp [Hub.settleCheck, hend, hs]
    · have hagain : Hub.newCheck { s.hub with permit.recheckTurn := .recheck } c.ask true = s.hub.newCheck c.ask true :=
        s.hub.newCheck_permit (p := { s.hub.permit with recheckTurn := .recheck }) rfl _ _
      refine ⟨rfl, rfl, rfl, rfl, fun hn => hconcludes (s.hub.newCheck c.ask true) rfl ?_, fun hn => ?_⟩
      · simp [Hub.settleCheck, hend, hs, hagain, hn]
      · have hw : Hub.settleCheck { c with sweep } { s.hub with permit.recheckTurn := .recheck }
            = { s.hub with permit.check := some (s.hub.newCheck c.ask true), permit.recheckTurn := .recheck } := by
          simp [Hub.settleCheck, hend, hs, hagain, hn]
        rw [hw, Hub.afterGrant_more _ (by simp [Hub.unitHasClaim, Hub.hasClaim, hn])] at hrun
        exact hrun
  · intro marked
    have hmark : h.markStale = marked := h.markStale_eq
    obtain ⟨c, hp⟩ := h.markStale_permit
    rw [hmark] at hp
    have hstate : marked.permit.state = h.permit.state := by rw [hp]
    have hnotify : h.notify = marked.recheckAsked := by rw [Hub.notify, hmark]
    refine ⟨fun hm hq => ?_, fun hs => ⟨fun hre => ?_, fun p hre ha => ?_⟩⟩
    · rw [hnotify, Hub.recheckAsked_rest (by rwa [hstate]) (by rwa [hstate])]
    · obtain ⟨sw, hsw⟩ := Option.isSome_iff_exists.mp hre
      rw [hnotify, Hub.recheckAsked_running (by rwa [hstate]) (sw := sw) (by rw [hp]; exact hsw)]
    · have hnew : marked.newRecheck p = h.newRecheck p :=
        h.newRecheck_congr (by rw [← hmark, h.markStale_frame.2.1]) (by rw [← hmark]; simp) p
      rw [hnotify, Hub.recheckAsked_starts (by rwa [hstate]) (by rw [hp]; exact hre) (by rw [hp]; exact ha), hnew]
      refine ⟨fun hc => Hub.settleRecheck_waits hc, fun hc hb => ?_, fun hc hb => ?_⟩
      · have hnone : marked.permit.recheck = none := by rw [hp]; exact hre
        rw [Hub.settleRecheck_clear hc hb, ← hnone]
      · rw [Hub.settleRecheck_stops hc hb (by exact hstate ▸ hs)]
        exact ⟨by simp, by simp, by simp, by simp, Hub.stopSequence_issued ..⟩

/-! ## A recheck that ends (R116, R117) -/

/-- Settles O18: the claim settles the recheck, and none pending follows it. -/
theorem recheckStopsOnATriggeringTile : Obligations.RecheckStopsOnATriggeringTile := by
  intro s p sw hr hg hp hre sweep hend
  have hrun : Runs .recheckClaim s (s.hub.recheckClaim.afterGrant .recheck) := runs_of_grant rfl hr hg rfl
  have hclaim : s.hub.recheckClaim =
      (Hub.settleRecheck sweep { s.hub with
        permit.recheckTurn := if s.hub.permit.check.isSome then .check else s.hub.permit.recheckTurn }).startPending := by
    simp only [Hub.recheckClaim, hp, hre]
    rfl
  refine ⟨_, hrun, fun hb hs => ?_, fun hb hq => ?_, ?_, by simp, by simp⟩
  · have hstop : s.hub.recheckClaim = Hub.stopSequence .recheck { s.hub with
        permit.recheck := none
        permit.recheckTurn := if s.hub.permit.check.isSome then .check else s.hub.permit.recheckTurn } := by
      rw [hclaim, Hub.settleRecheck_stops hend hb (by exact hs), Hub.startPending, if_neg (by simp)]
    rw [hstop]
    exact ⟨by simp, by simp, by simp, by simp, by simp, by simp, Hub.stopSequence_issued ..⟩
  · have hdone : s.hub.recheckClaim = { s.hub with
        permit.recheck := none
        permit.recheckTurn := if s.hub.permit.check.isSome then .check else s.hub.permit.recheckTurn } := by
      rw [hclaim, Hub.settleRecheck_clear hend hb, Hub.startPending, if_neg (by simp [hq])]
    rw [hdone]
    simp [Hub.afterGrant, Hub.unitHasClaim, Hub.hasClaim, Claimant.unit]
  · simp [Hub.afterGrant]

end Sys2Proof.Machine
end

section
/-!
The speed and turn a check grants (O19).
-/

namespace Sys2Proof.Machine

/-! ## Scaled and largest speeds (R92, R97) -/

theorem scaled_natAbs (speed turn : Int) (down : Nat) : (scaled speed turn down).1.natAbs = down := by
  dsimp only [scaled]
  split <;> omega

theorem scaled_pos {speed : Int} (hs : 0 < speed) (turn : Int) (down : Nat) : (scaled speed turn down).1 = down :=
  if_neg (by omega)

section
variable {horizon decel : Nat} {room : Int}

/-- Whether the robot, driving a whole speed for the horizon, stops within the room (R97). -/
def Fits (horizon decel : Nat) (room : Int) (n : Nat) : Prop :=
  ((n * horizon * decel + 500 * n ^ 2) * distUnit : Nat) ≤ room * decel

theorem largestSpeed_le (v : Nat) : largestSpeed horizon decel room v ≤ v := by
  induction v with
  | zero => exact le_refl 0
  | succ v ih =>
    rw [largestSpeed]
    split
    · exact le_refl _
    · exact Nat.le_succ_of_le ih

/-- The largest speed fits, unless none does. -/
theorem largestSpeed_fits (v : Nat) :
    largestSpeed horizon decel room v = 0 ∨ Fits horizon decel room (largestSpeed horizon decel room v) := by
  induction v with
  | zero => exact .inl rfl
  | succ v ih =>
    rw [largestSpeed]
    split
    · rename_i hf
      exact .inr (by simpa [Fits] using hf)
    · exact ih

theorem largestSpeed_greatest {v m : Nat} (hm : m ≤ v) (hf : Fits horizon decel room m) :
    m ≤ largestSpeed horizon decel room v := by
  induction v with
  | zero => exact hm
  | succ v ih =>
    rw [largestSpeed]
    split
    · exact hm
    · rename_i hn
      rcases Nat.le_succ_iff.mp hm with hm | rfl
      · exact ih hm
      · exact absurd (by simpa [Fits] using hf) hn

end

/-! ## The least of some numbers -/

theorem least_mem {l : List Nat} {n : Nat} (hn : least l = some n) : n ∈ l ∧ ∀ m ∈ l, n ≤ m := by
  induction l generalizing n with
  | nil => cases hn
  | cons a l ih =>
    cases hl : least l with
    | none =>
      have hnil : l = [] := by
        cases l with
        | nil => rfl
        | cons b l => simp [least] at hl
      simp [least, hl] at hn
      simp [hnil, hn]
    | some k =>
      obtain ⟨hk, hall⟩ := ih hl
      simp only [least, hl, Option.elim_some, Option.some.injEq] at hn
      subst hn
      refine ⟨?_, fun m hm => ?_⟩
      · rcases min_choice a k with he | he <;> rw [he] <;> simp [hk]
      · rcases List.mem_cons.mp hm with rfl | hm
        · exact min_le_left _ _
        · exact (min_le_right _ _).trans (hall m hm)

/-- What is least of some numbers is their `least`. -/
theorem least_unique {l : List Nat} {k n : Nat} (hk : least l = some k) (hn : n ∈ l) (hall : ∀ m ∈ l, n ≤ m) : k = n := by
  obtain ⟨hm, hle⟩ := least_mem hk
  exact le_antisymm (hle n hn) (hall _ hm)

/-- The least of a number and some more. -/
theorem least_cons {l : List Nat} {a n : Nat} (hn : n ∈ a :: l) (hall : ∀ m ∈ a :: l, n ≤ m) :
    min a ((least l).getD a) = n := by
  refine least_unique ?_ hn hall
  cases hl : least l <;> simp [least, hl]

/-- A cap leaves a speed above zero. -/
theorem Entry.cap_pos {e : Entry} {n : Nat} (hn : e.cap = some n) : 0 < n := by
  unfold Entry.cap at hn
  repeat' split at hn
  all_goals cases hn
  all_goals decide

theorem capOf_pos {tiles : List Seen} {n : Nat} (hn : capOf tiles = some n) : 0 < n := by
  obtain ⟨t, -, ht⟩ := List.mem_flatMap.mp (least_mem hn).1
  obtain ⟨e, -, he⟩ := List.mem_filterMap.mp ht
  exact Entry.cap_pos he

/-! ## The verdict of a check that ends in no probe (R97) -/

/-- The least of the speed of a check and the caps it met. -/
def Check.top (c : Check) : Nat := min c.speed.natAbs ((capOf (Check.capped c.sweep)).getD c.speed.natAbs)

/-- The room before a blocking tile (R97). -/
def Check.room (c : Check) (b : Seen) : Int := b.foot.dist - (1000 * c.latch.margin * distUnit : Nat)

section
variable {c : Check}

theorem Check.normalVerdict_whole (hb : c.sweep.firstBlocking = none) (ht : c.top = c.speed.natAbs) :
    c.normalVerdict =
      ⟨if c.speed = c.ask.speedMm ∧ c.turn = c.ask.turnDeg then .grant else .clip, none, c.speed, c.turn,
        c.ask.horizonMs, liftOf (Check.capped c.sweep)⟩ := by
  unfold Check.top at ht
  simp [Check.normalVerdict, hb, ht]

theorem Check.normalVerdict_capped (hb : c.sweep.firstBlocking = none) (ht : c.top ≠ c.speed.natAbs) :
    c.normalVerdict =
      ⟨.clip, none, (scaled c.speed c.turn c.top).1, (scaled c.speed c.turn c.top).2, c.ask.horizonMs,
        liftOf (Check.capped c.sweep)⟩ := by
  unfold Check.top at ht ⊢
  simp only [Check.normalVerdict, hb, if_neg ht]

theorem Check.normalVerdict_near {b : Seen} (hb : c.sweep.firstBlocking = some b) (hd : b.foot.dist < 10000 * distUnit) :
    c.normalVerdict = .refuse ((c.blocked b).getD .cliffAhead) (liftOf (Check.capped c.sweep)) := by
  simp only [Check.normalVerdict, hb, if_pos hd]

theorem Check.normalVerdict_blocked {b : Seen} (hb : c.sweep.firstBlocking = some b)
    (hd : ¬ b.foot.dist < 10000 * distUnit) :
    c.normalVerdict =
      if largestSpeed c.ask.horizonMs c.latch.decel (c.room b) c.top < 10 then
        .refuse ((c.blocked b).getD .cliffAhead) (liftOf (Check.capped c.sweep))
      else
        ⟨.clip, none, (scaled c.speed c.turn (largestSpeed c.ask.horizonMs c.latch.decel (c.room b) c.top)).1,
          (scaled c.speed c.turn (largestSpeed c.ask.horizonMs c.latch.decel (c.room b) c.top)).2, c.ask.horizonMs,
          liftOf (Check.capped c.sweep)⟩ := by
  simp only [Check.normalVerdict, hb, if_neg hd]
  rfl

/-- A check that ends in no probe goes no faster than it asked for. -/
theorem Check.normalVerdict_speed : c.normalVerdict.speed.natAbs ≤ c.speed.natAbs ∧ c.normalVerdict.outcome ≠ .probe := by
  have htop : c.top ≤ c.speed.natAbs := min_le_left _ _
  cases hb : c.sweep.firstBlocking with
  | none =>
    by_cases ht : c.top = c.speed.natAbs
    · rw [Check.normalVerdict_whole hb ht]
      exact ⟨le_refl _, by dsimp only; split <;> decide⟩
    · rw [Check.normalVerdict_capped hb ht]
      exact ⟨(scaled_natAbs _ c.turn _).trans_le htop, nofun⟩
  | some b =>
    by_cases hd : b.foot.dist < 10000 * distUnit
    · rw [Check.normalVerdict_near hb hd]
      exact ⟨Nat.zero_le _, nofun⟩
    · rw [Check.normalVerdict_blocked hb hd]
      split
      · exact ⟨Nat.zero_le _, nofun⟩
      · exact ⟨(scaled_natAbs _ c.turn _).trans_le ((largestSpeed_le _).trans htop), nofun⟩

/-! ## A probe (R96, R98) -/

/-- What a running probe, or another check, goes on across (R96; log 41). -/
def probePasses (running : Bool) (e : Entry) : Bool :=
  decide (e.cls = .dropSuspect) || (running && decide (e.cls = .cliff) && !e.isProtected)

/-- Whether a check may probe at the first blocking tile (R96). -/
def Check.MayProbe (c : Check) (running : Bool) (b : Seen) : Prop :=
  c.ask.probeIntent = true ∧ 0 < c.speed ∧ c.probeAllowed b = true ∧ (∃ e ∈ b.view, probePasses running e = true)
  ∧ b.reasons c.dockException (fun e => !probePasses running e) = []

/-- The speed of a probe (R98). -/
def Check.probeSpeed (c : Check) (sw : Sweep) : Nat := min (min 60 c.speed.toNat) ((capOf (Check.capped sw)).getD 60)

theorem Check.least_probe {c : Check} {sw : Sweep} {n : Nat}
    (hn : n ∈ 60 :: c.speed.toNat :: (Check.capped sw).flatMap fun t => t.view.filterMap (·.cap))
    (hall : ∀ m ∈ 60 :: c.speed.toNat :: (Check.capped sw).flatMap fun t => t.view.filterMap (·.cap), n ≤ m) :
    c.probeSpeed sw = n := by
  refine least_unique ?_ hn hall
  have hcaps : least ((Check.capped sw).flatMap fun t => t.view.filterMap (·.cap)) = capOf (Check.capped sw) := rfl
  rw [least, least, hcaps, Check.probeSpeed]
  cases capOf (Check.capped sw) with
  | none => simp
  | some k => simp [min_assoc]

/-- The probe of a check (R98). -/
def Check.probeOf (c : Check) (sw : Sweep) : Probe :=
  ⟨c.probeSpeed sw, (scaled c.speed c.turn (c.probeSpeed sw)).2, min c.ask.horizonMs (30000 / c.probeSpeed sw),
    lengthNum (c.probeSpeed sw) (min c.ask.horizonMs (30000 / c.probeSpeed sw)) c.latch.margin c.latch.decel⟩

theorem Check.probe_may {running : Bool} {sw : Sweep} {b : Seen} (hb : sw.firstBlocking = some b)
    (hm : c.MayProbe running b) : c.probe running sw = some (c.probeOf sw) := by
  obtain ⟨hi, hs, ha, he, hr⟩ := hm
  simp only [Check.probe, hb]
  refine if_pos ?_
  simp only [Bool.and_eq_true, decide_eq_true_eq, List.any_eq_true, List.isEmpty_iff]
  exact ⟨⟨⟨⟨hi, hs⟩, ha⟩, he⟩, hr⟩

theorem Check.probe_mayNot {running : Bool} {sw : Sweep} {b : Seen} (hb : sw.firstBlocking = some b)
    (hm : ¬ c.MayProbe running b) : c.probe running sw = none := by
  simp only [Check.probe, hb]
  refine if_neg fun hc => hm ?_
  simp only [Bool.and_eq_true, decide_eq_true_eq, List.any_eq_true, List.isEmpty_iff] at hc
  obtain ⟨⟨⟨⟨hi, hs⟩, ha⟩, he⟩, hr⟩ := hc
  exact ⟨hi, hs, ha, he, hr⟩

theorem Check.probe_none {running : Bool} {sw : Sweep} (hb : sw.firstBlocking = none) : c.probe running sw = none := by
  simp only [Check.probe, hb]

/-- A probe is slow and short (R98). -/
theorem Check.probe_bounds {running : Bool} {sw : Sweep} {p : Probe} (hp : c.probe running sw = some p) :
    0 < p.speed ∧ p.speed ≤ 60 ∧ p.speed ≤ c.speed.natAbs ∧ p.speed * p.horizon ≤ 30000 := by
  cases hb : sw.firstBlocking with
  | none => exact absurd ((Check.probe_none hb).symm.trans hp) nofun
  | some b =>
    by_cases hm : c.MayProbe running b
    · cases (Check.probe_may hb hm).symm.trans hp
      have hs : 0 < c.speed := hm.2.1
      have hcap : 0 < (capOf (Check.capped sw)).getD 60 := by
        cases hc : capOf (Check.capped sw) with
        | none => decide
        | some n => exact capOf_pos hc
      have hle : c.probeSpeed sw ≤ min 60 c.speed.toNat := min_le_left _ _
      refine ⟨lt_min (lt_min (by decide) (by omega)) hcap, hle.trans (min_le_left _ _), ?_, ?_⟩
      · exact (hle.trans (min_le_right _ _)).trans (by omega)
      · exact (Nat.mul_le_mul_left _ (min_le_right _ _)).trans (Nat.mul_div_le _ _)
    · exact absurd ((Check.probe_mayNot hb hm).symm.trans hp) nofun

/-- Why an examined tile stops a probe (R98). -/
def Check.probeStopper (c : Check) (t : Seen) : Option Reason := t.blockedBy c.dockException fun e => !probePasses true e

/-- The tiles a probe reaches (R98). -/
def Check.reached (c : Check) (p : Probe) : List Seen := c.sweep.seen.filter fun s => p.reaches c.latch.decel s.foot

theorem Check.probeVerdict_goes {p : Probe} (hs : (c.reached p).findSome? c.probeStopper = none) :
    c.probeVerdict p = ⟨.probe, none, p.speed, p.turn, p.horizon, liftOf (c.reached p)⟩ := by
  have hf : (c.sweep.seen.filter fun s => p.reaches c.latch.decel s.foot).findSome? (fun s =>
      s.blockedBy c.dockException fun e => !(decide (e.cls = .dropSuspect) || (decide (e.cls = .cliff) && !e.isProtected)))
      = none := hs
  simp only [Check.probeVerdict, hf]
  rfl

theorem Check.probeVerdict_stops {p : Probe} {r : Reason} (hs : (c.reached p).findSome? c.probeStopper = some r) :
    c.probeVerdict p = .refuse r (liftOf (c.reached p)) := by
  have hf : (c.sweep.seen.filter fun s => p.reaches c.latch.decel s.foot).findSome? (fun s =>
      s.blockedBy c.dockException fun e => !(decide (e.cls = .dropSuspect) || (decide (e.cls = .cliff) && !e.isProtected)))
      = some r := hs
  simp only [Check.probeVerdict, hf]
  rfl

theorem Check.verdict_normal {running : Bool} (hp : c.probe running c.sweep = none) : c.verdict running = c.normalVerdict := by
  simp only [Check.verdict, hp]

theorem Check.verdict_probe {running : Bool} {p : Probe} (hp : c.probe running c.sweep = some p) :
    c.verdict running = c.probeVerdict p := by
  simp only [Check.verdict, hp]

/-- A check grants no more than it set out with, and a probe is slow and short (R97, R98). -/
theorem Check.verdict_bounds (running : Bool) :
    (c.verdict running).speed.natAbs ≤ c.speed.natAbs
    ∧ ((c.verdict running).outcome = .probe →
      0 < (c.verdict running).speed ∧ (c.verdict running).speed ≤ 60
      ∧ (c.verdict running).speed * (c.verdict running).horizon ≤ 30000) := by
  cases hp : c.probe running c.sweep with
  | none =>
    rw [Check.verdict_normal hp]
    exact ⟨Check.normalVerdict_speed.1, fun ho => absurd ho Check.normalVerdict_speed.2⟩
  | some p =>
    obtain ⟨hpos, h60, hle, hlen⟩ := Check.probe_bounds hp
    rw [Check.verdict_probe hp]
    cases hs : (c.reached p).findSome? c.probeStopper with
    | none =>
      rw [Check.probeVerdict_goes hs]
      dsimp only
      exact ⟨by omega, fun _ => ⟨by omega, by omega, by exact_mod_cast hlen⟩⟩
    | some r =>
      rw [Check.probeVerdict_stops hs]
      exact ⟨Nat.zero_le _, nofun⟩

end

/-! ## The ceiling and the table of blocking and caps (R92, R95) -/

/-- The ceiling is the least of its bounds (R92). -/
theorem Hub.ceiling_least (h : Hub) (speed : Int) :
    let bounds : List Nat :=
      [h.limits.planCeiling] ++ (if h.load.heavy then [300] else []) ++ (if h.queue.backlog then [200] else [])
      ++ (h.route.waypoints.head?.map (·.cap)).toList ++ (if speed < 0 then [100] else [])
    h.ceiling speed ∈ bounds ∧ ∀ b ∈ bounds, h.ceiling speed ≤ b := by
  intro bounds
  have hl : least bounds = some (h.ceiling speed) := by
    cases hw : h.route.waypoints.head? <;>
      by_cases hh : h.load.heavy = true <;> by_cases hb : h.queue.backlog = true <;> by_cases hs : speed < 0 <;>
      simp [bounds, Hub.ceiling, hw, hh, hb, hs, least, min_assoc]
  exact least_mem hl

/-- Which entries block, and what the others cap the speed to (R95). -/
theorem Entry.reason_cap (dock : Bool) (e : Entry) :
    (e.cls = .cliff → e.reason dock = some .cliffAhead ∧ e.cap = none)
    ∧ (e.cls = .nogo → e.reason dock = some .nogoAhead ∧ e.cap = none)
    ∧ (e.cls = .dropSuspect → e.reason dock = some .dropAhead ∧ e.cap = none)
    ∧ (e.cls = .obstacle →
        e.reason dock = (if 4 ≤ e.confidence then some .obstacleAhead else none)
        ∧ e.cap = (if 4 ≤ e.confidence then none else some 150))
    ∧ (e.cls = .dockZone → e.reason dock = (if dock then none else some .dockZone) ∧ e.cap = none)
    ∧ (e.cls = .threshold → e.reason dock = none ∧ e.cap = some 200)
    ∧ (∀ r, e.cls = .rug → e.rug = some r →
        e.reason dock = none
        ∧ e.cap = (match r.pile with
          | .high => some 250
          | .medium => some 350
          | .low => none)) := by
  refine ⟨?_, ?_, ?_, ?_, ?_, ?_, fun r hc hr => ?_⟩
  case refine_7 =>
    obtain ⟨pile, dark, lift⟩ := r
    cases pile <;> simp [Entry.reason, Entry.cap, hc, hr]
  all_goals
    intro hc
    simp [Entry.reason, Entry.cap, hc]

/-- The soft cliffs of the statement are the unprotected ones. -/
theorem probePasses_eq (running : Bool) (e : Entry) :
    probePasses running e =
      (decide (e.cls = .dropSuspect) || (running && (decide (e.cls = .cliff) && decide (e.confidence < 8)))) := by
  by_cases hc : e.cls = .cliff
  · by_cases h8 : e.confidence < 8
    · have h8' : ¬ 8 ≤ e.confidence := Nat.not_le.mpr h8
      simp [probePasses, Entry.isProtected, hc, h8, h8']
    · have h8' : 8 ≤ e.confidence := Nat.not_lt.mp h8
      simp [probePasses, Entry.isProtected, hc, h8, h8']
  · simp [probePasses, hc]

/-- A speed leaves room to stop before a tile by the room that is left of its distance. -/
theorem fits_room (c : Check) (b : Seen) (n : Nat) :
    Fits c.ask.horizonMs c.latch.decel (c.room b) n ↔
      (n * c.ask.horizonMs * c.latch.decel + 500 * n ^ 2 + 1000 * c.latch.margin * c.latch.decel) * distUnit
        ≤ b.foot.dist * c.latch.decel := by
  rw [← Int.ofNat_le]
  unfold Fits Check.room
  push_cast
  constructor <;> intro h <;> linarith

theorem Check.blocked_clips {c : Check} {b : Seen} (hb : c.sweep.firstBlocking = some b) {n : Nat}
    (hd : 10000 * distUnit ≤ b.foot.dist) (h10 : 10 ≤ n) (hn : n ≤ c.top)
    (hf : Fits c.ask.horizonMs c.latch.decel (c.room b) n)
    (hlast : ∀ m, n < m → m ≤ c.top → ¬ Fits c.ask.horizonMs c.latch.decel (c.room b) m) :
    c.normalVerdict =
      ⟨.clip, none, (scaled c.speed c.turn n).1, (scaled c.speed c.turn n).2, c.ask.horizonMs,
        liftOf (Check.capped c.sweep)⟩ := by
  have hbest : largestSpeed c.ask.horizonMs c.latch.decel (c.room b) c.top = n := by
    have hge := largestSpeed_greatest hn hf
    rcases largestSpeed_fits (horizon := c.ask.horizonMs) (decel := c.latch.decel) (room := c.room b) c.top with h0 | hfit
    · omega
    · exact le_antisymm (Nat.not_lt.mp fun hlt => hlast _ hlt (largestSpeed_le _) hfit) hge
  rw [Check.normalVerdict_blocked hb (Nat.not_lt.mpr hd), hbest, if_neg (Nat.not_lt.mpr h10)]

theorem Check.blocked_refuses {c : Check} {b : Seen} (hb : c.sweep.firstBlocking = some b)
    (hn : b.foot.dist < 10000 * distUnit
      ∨ ∀ n, 10 ≤ n → n ≤ c.top → ¬ Fits c.ask.horizonMs c.latch.decel (c.room b) n) :
    c.normalVerdict = .refuse ((c.blocked b).getD .cliffAhead) (liftOf (Check.capped c.sweep)) := by
  by_cases hd : b.foot.dist < 10000 * distUnit
  · exact Check.normalVerdict_near hb hd
  · have hbest : largestSpeed c.ask.horizonMs c.latch.decel (c.room b) c.top < 10 := by
      by_contra hlt
      rcases largestSpeed_fits (horizon := c.ask.horizonMs) (decel := c.latch.decel) (room := c.room b) c.top with h0 | hfit
      · omega
      · exact hn.resolve_left hd _ (Nat.not_lt.mp hlt) (largestSpeed_le _) hfit
    rw [Check.normalVerdict_blocked hb hd, if_pos hbest]

/-- Settles O19: the verdict by its cases, the speeds by what bounds them. -/
theorem grantedSpeedStaysWithinTheCeiling : Obligations.GrantedSpeedStaysWithinTheCeiling := by
  refine ⟨fun h a restarted running sweep => ?_, fun h speed => h.ceiling_least speed, Entry.reason_cap, fun c running => ?_⟩
  · obtain ⟨hle, hprobe⟩ := Check.verdict_bounds (c := { h.newCheck a restarted with sweep }) running
    exact ⟨hle.trans (limited_within (h.ceiling a.speedMm) a.speedMm a.turnDeg), hprobe⟩
  · intro v met caps decel
    have hmet : met = Check.capped c.sweep := rfl
    refine ⟨?_, ?_⟩
    · intro hp top hmem hall fits clipped
      have htop : c.top = top := least_cons hmem hall
      have hv : v = c.normalVerdict := Check.verdict_normal hp
      have hclip {n : Nat} (hn : c.normalVerdict =
          ⟨.clip, none, (scaled c.speed c.turn n).1, (scaled c.speed c.turn n).2, c.ask.horizonMs,
            liftOf (Check.capped c.sweep)⟩) : clipped n := by
        have hv' := hv.trans hn
        exact ⟨by rw [hv'], by rw [hv'], by rw [hv'], by rw [hv']⟩
      refine ⟨fun hb ht => ?_, fun hb ht => ?_, fun b hb => ⟨fun hn => ?_, fun n hd h10 hn hf hlast => ?_⟩⟩
      · rw [hv, Check.normalVerdict_whole hb (htop.trans ht)]
        exact ⟨rfl, rfl, rfl, rfl, rfl⟩
      · exact hclip (htop ▸ Check.normalVerdict_capped hb (by omega))
      · rw [hv, Check.blocked_refuses hb (hn.imp_right fun hn m h10 hm hf => hn m h10 (htop ▸ hm) ((fits_room c b m).mp hf))]
        exact ⟨rfl, rfl⟩
      · exact hclip (Check.blocked_clips hb hd h10 (htop ▸ hn) ((fits_room c b n).mpr hf)
          fun m hlt hm hfm => hlast m hlt (htop ▸ hm) ((fits_room c b m).mp hfm))
    · intro b hb n hmem hall drop soft may
      have hmay : may ↔ c.MayProbe running b := by
        simp only [may, drop, soft, Check.MayProbe, probePasses_eq]
      refine ⟨fun hm => Check.probe_mayNot hb (hmay.not.mp hm), ?_⟩
      intro hm horizon len stopper
      have hn : c.probeSpeed c.sweep = n := Check.least_probe hmem hall
      have hprobe := Check.probe_may hb (hmay.mp hm)
      have hstop (t : Seen) :
          stopper t = if (c.probeOf c.sweep).reaches c.latch.decel t.foot = true then c.probeStopper t else none := by
        have hsoft : (fun e => !(drop e || soft e)) = fun e => !probePasses true e :=
          funext fun e => by simp only [drop, soft, probePasses_eq, Bool.true_and]
        simp only [stopper, len, horizon, hsoft, Probe.reaches, Check.probeOf, lengthNum, hn, decide_eq_true_eq]
        rfl
      have hv : v = c.probeVerdict (c.probeOf c.sweep) := Check.verdict_probe hprobe
      cases hs : (c.reached (c.probeOf c.sweep)).findSome? c.probeStopper with
      | none =>
        have hclear := List.findSome?_eq_none_iff.mp hs
        have hv' := hv.trans (Check.probeVerdict_goes hs)
        refine ⟨fun _ => ⟨by rw [hv'], by rw [hv'], ?_, ?_, ?_⟩, fun ⟨t, ht, hsome⟩ => ?_⟩
        · rw [hv', ← hn]
          rfl
        · rw [hv', ← hn]
          rfl
        · rw [hv']
          simp only [Check.probeOf, hn]
          rfl
        · rw [hstop] at hsome
          split at hsome
          · rename_i hreach
            rw [hclear t (List.mem_filter.mpr ⟨ht, hreach⟩)] at hsome
            cases hsome
          · cases hsome
      | some r =>
        obtain ⟨t, ht, hr⟩ := List.exists_of_findSome?_eq_some hs
        obtain ⟨hseen, hreach⟩ := List.mem_filter.mp ht
        have htr : stopper t = some r := by rw [hstop, if_pos hreach, hr]
        have hv' := hv.trans (Check.probeVerdict_stops hs)
        refine ⟨fun hall => absurd ((hall t hseen).symm.trans htr) nofun, fun _ => ⟨by rw [hv']; rfl, t, hseen, ?_, ?_⟩⟩
        · rw [htr]
          rfl
        · rw [htr, hv']
          rfl

end Sys2Proof.Machine
end

section
/-!
Replies and holds (O20).
-/

namespace Sys2Proof.Machine

/-! ## Replies (R184, R186) -/

section
variable {h : Hub}

@[simp] theorem Hub.reply_refusals (p : Port) (r : Reply) : (h.reply p r).att.refusals = h.att.refusals := by
  cases p <;> rfl

theorem Hub.reply_plan (r : Reply) : (h.reply .plan r).plan.slot = .ready r ∧ (h.reply .plan r).planHas .replyReady = true :=
  ⟨rfl, Hub.planHas_setPlan_self ..⟩

theorem Hub.reply_power (r : Reply) : (h.reply .power r).power.slot = some r ∧ (h.reply .power r).powerHas .replyReady = true :=
  ⟨rfl, Hub.powerHas_setPower_self ..⟩

/-- A reply clears no Plan flag. -/
theorem planHas_reply {f : PlanFlag} (hf : h.planHas f = true) (p : Port) (r : Reply) : (h.reply p r).planHas f = true := by
  cases p with
  | plan => exact planHas_setPlan_of (h := { h with plan.slot := .ready r }) hf .replyReady
  | power => exact hf

/-! ## Holds (R114, R115) -/

/-- A hold in the set is set by setting it. -/
theorem Holds.set_has {s : Holds} {k : Hold} (hk : s.has k = true) : s.set k true = s := by
  cases k <;> simp only [Holds.has] at hk <;> simp [Holds.set, ← hk]

/-- Where no permit and no check is to end, a hold placed is in the set, and that is all. -/
theorem Hub.placeHold_quiet (k : Hold)
    (hq : h.permit.holds.has k = true ∨ h.permit.state = .stopping ∨ h.permit.state = .inhibited
      ∨ (h.permit.state = .still ∧ h.permit.check = none)) :
    h.placeHold k = { h with permit.holds := h.permit.holds.set k true } := by
  cases hk : h.permit.holds.has k with
  | true => rw [Hub.placeHold_present h k hk, Holds.set_has hk]
  | false =>
    rw [Hub.placeHold_absent h k hk]
    rcases hq with hh | hs | hs | ⟨hs, hc⟩
    · exact absurd (hk.symm.trans hh) nofun
    · exact Hub.trigger_at_rest { h with permit.holds := h.permit.holds.set k true } .hold (.inl hs) nofun nofun
    · exact Hub.trigger_at_rest { h with permit.holds := h.permit.holds.set k true } .hold (.inr hs) nofun nofun
    · exact Hub.trigger_still { h with permit.holds := h.permit.holds.set k true } .hold hs hc nofun nofun

/-- In STILL a hold that enters the set answers the check in flight HELD (R101, R105). -/
theorem Hub.placeHold_check (k : Hold) {c : Check} (hk : h.permit.holds.has k = false) (hs : h.permit.state = .still)
    (hc : h.permit.check = some c) :
    h.placeHold k =
      Hub.refuse c.ask.seq .held false { h with permit.holds := h.permit.holds.set k true, permit.check := none } := by
  have htrig : Hub.trigger .hold { h with permit.holds := h.permit.holds.set k true }
      = Hub.abandonCheck .held { h with permit.holds := h.permit.holds.set k true } := by
    simp only [Hub.trigger, hs]
  rw [Hub.placeHold_absent h k hk, htrig]
  exact Hub.abandonCheck_some { h with permit.holds := h.permit.holds.set k true } .held c hc

/-- In motion a hold that enters the set starts the stop sequence (R104). -/
theorem Hub.placeHold_motion (k : Hold) (hk : h.permit.holds.has k = false)
    (hs : h.permit.state = .moving ∨ h.permit.state = .probing) :
    h.placeHold k = Hub.stopSequence .hold { h with permit.holds := h.permit.holds.set k true } := by
  rw [Hub.placeHold_absent h k hk]
  exact Hub.trigger_in_motion { h with permit.holds := h.permit.holds.set k true } .hold hs nofun nofun

end

/-- HOLD answers with the set and the port's hold in it. -/
theorem runs_hold {s : State} (hr : s.hub.inReset = false) {p : Port} (ho : s.hub.portOpen p) :
    Runs (.hold p []) s (((s.hub.framed p).placeHold (portHold p)).reply p
      ⟨.done, 0x28#8, [byte (s.hub.permit.holds.set (portHold p) true).bits]⟩) := by
  have hrun : Runs (.hold p []) s (((s.hub.framed p).placeHold (portHold p)).doneHolds p 0x28#8) :=
    runs_requested rfl hr ho rfl
  rw [Hub.doneHolds, Hub.done, Hub.placeHold_holds] at hrun
  simpa using hrun

/-- Settles O20: a hold placed is quiet, or answers the check, or stops the motion; a release is its tests. -/
theorem holdsArePlacedAndRemoved : Obligations.HoldsArePlacedAndRemoved := by
  intro s hr
  refine ⟨fun p ho => ?_, fun p body k ho hl hk => ?_, fun b ho h0 h2 h3 => ?_⟩
  · intro h holds answer
    have hrun := runs_hold hr ho
    have hp : h.permit = s.hub.permit := by simp [h]
    have hholds : h.permit.holds.set (portHold p) true = holds := by rw [hp]
    refine ⟨fun hq => ?_, fun c hk hs hc => ?_, fun hk hs => ?_⟩
    · rw [Hub.placeHold_quiet (h := s.hub.framed p) (portHold p) (by rw [← hp] at hq; exact hq)] at hrun
      rw [← hholds]
      exact hrun
    · have he : h.placeHold (portHold p) =
          Hub.refuse c.ask.seq .held false { h with permit.holds := holds, permit.check := none } := by
        rw [← hholds]
        exact Hub.placeHold_check _ (by rw [hp, hk]) (by rw [hp, hs]) (by rw [hp, hc])
      refine ⟨_, hrun, ?_, ?_, ?_⟩
      · rw [← he]
      · rw [show (s.hub.framed p).placeHold (portHold p) = _ from he]
        simp [hp]
      · rw [show (s.hub.framed p).placeHold (portHold p) = _ from he]
        simp [h, Reason.ctorIdx]
    · have he : h.placeHold (portHold p) = Hub.stopSequence .hold { h with permit.holds := holds } := by
        rw [← hholds]
        exact Hub.placeHold_motion _ (by rw [hp, hk]) (by rw [hp]; exact hs)
      rw [show (s.hub.framed p).placeHold (portHold p) = _ from he] at hrun
      refine ⟨_, hrun, by simp, by simp, by simp, by simp, by simp,
        planHas_reply (Hub.stopSequence_issued ..) _ _, by simp [h], fun c hc => ?_, ?_, ?_, by simp [h], by simp [h], by simp [h]⟩
      · have hcheck := (Hub.stopSequence_checked { h with permit.holds := holds } .hold (k := c) (by rw [← hc, ← hp])).2
        rw [Hub.reply_refusals, hcheck]
        simp [h]
        rfl
      · rintro rfl
        exact Hub.reply_plan _
      · rintro rfl
        exact Hub.reply_power _
  · intro h holds
    have hrun : Runs (.release p body) s ((s.hub.framed p).release p body) := runs_requested rfl hr ho hl
    have he : (s.hub.framed p).release p body = ((s.hub.framed p).removeHold k).doneHolds p 0x29#8 := by
      simp only [Hub.release, hk]
    rw [he] at hrun
    have hp : (s.hub.framed p).permit = s.hub.permit := by simp
    have hholds : (s.hub.framed p).permit.holds.set k false = holds := by rw [hp]
    rw [← hholds]
    exact hrun
  · have hrun : Runs (.release .plan [b]) s ((s.hub.framed .plan).release .plan [b]) :=
      runs_requested rfl hr (fun _ => ho) rfl
    have hnone : releasedHold .plan [b] = none := by
      have hb : u8 [b] 0 = b.toNat := rfl
      simp only [releasedHold, hb]
    simp only [Hub.release, hnone] at hrun
    exact hrun

end Sys2Proof.Machine
end

section
/-!
What evidence does to the entry at its tile (O22, O23).
-/

namespace Sys2Proof.Machine

/-! ## Reflectance and wheel drops (R59 to R62) -/

/-- Settles O22: class by class, the rule of each kind. -/
theorem dropEvidenceChangesEntries : Obligations.DropEvidenceChangesEntries := by
  intro c sd t low fire pile
  refine ⟨rfl, rfl, rfl, rfl, fun e => ⟨fun hc => ?_, fun hc => ?_, fun r hc hr hd => ?_, fun r hc hr hd => ?_,
    fun hc => ?_, fun hc => ?_, fun hp hs hc => ?_, rfl⟩⟩
  case refine_1 => simp [Item.effect, raised, hc]
  case refine_2 => simp [Item.effect, raised, hc]
  case refine_3 => simp [Item.effect, hc, hr, hd]
  case refine_4 => simp [Item.effect, hc, hr, hd]
  case refine_5 => rcases hc with hc | hc <;> simp [Item.effect, hc]
  case refine_6 => exact if_pos (by simpa [or_assoc] using hc)
  case refine_7 => exact if_neg (by simp [hp, hs, hc])

/-! ## Crossings, bumps, climbs and the brush (R61 to R65) -/

/-- An unprotected cliff has a confidence below 8 (R5). -/
theorem Entry.isProtected_cliff {e : Entry} (hc : e.cls = .cliff) : e.isProtected = !decide (e.confidence < 8) := by
  rw [Entry.isProtected, Bool.eq_iff_iff]
  simp [hc]

/-- Settles O23: class by class, the rule of each kind. -/
theorem contactEvidenceChangesEntries : Obligations.ContactEvidenceChangesEntries := by
  intro sd t pile load
  refine ⟨rfl, rfl, rfl, fun e => ⟨fun hc => ?_, fun hc => ?_, fun hc => ?_, fun hc => ?_, fun hc => ?_,
    fun r hc hr => ?_, fun hc => ?_⟩⟩
  case refine_1 => simp [Item.effect, RugAttrs.sensed, hc]
  case refine_2 =>
    have hp := Entry.isProtected_cliff hc
    by_cases h8 : e.confidence < 8 <;> simp [Item.effect, RugAttrs.sensed, hc, hp, h8]
  case refine_3 => simp [Item.effect, raised, hc]
  case refine_4 => simp [Item.effect, raised, hc]
  case refine_5 => simp [Item.effect, hc]
  case refine_6 => simp [Item.effect, RugAttrs.sensed, hc, hr]
  case refine_7 =>
    dsimp only [Item.effect]
    split
    · exact absurd ‹_› hc
    · rfl

end Sys2Proof.Machine
end

section
/-!
The Map Updater's grants (O24, O25, O26, O27).
-/

namespace Sys2Proof.Machine

/-! ## What the Map Updater does beside the table (R52, R55) -/

/-- What the queue's and the Map Updater's work leaves: the conflict count, the refusal counts and every flag set. -/
structure Hub.WorkedOn (g h : Hub) : Prop where
  conflicts : h.updater.conflicts = g.updater.conflicts
  refusals : h.att.refusals = g.att.refusals
  flags : ∀ f, g.planHas f = true → h.planHas f = true

theorem Hub.WorkedOn.refl (h : Hub) : h.WorkedOn h := ⟨rfl, rfl, fun _ => id⟩

theorem Hub.WorkedOn.trans {g h k : Hub} (a : g.WorkedOn h) (b : h.WorkedOn k) : g.WorkedOn k :=
  ⟨b.conflicts.trans a.conflicts, b.refusals.trans a.refusals, fun f hf => b.flags f (a.flags f hf)⟩

/-- Changes of queue and work alone. -/
theorem Hub.WorkedOn.of_parts {g h : Hub} (hc : h.updater.conflicts = g.updater.conflicts) (ha : h.att = g.att) : g.WorkedOn h :=
  ⟨hc, by rw [ha], fun f hf => (planHas_congr (by rw [ha]) f).trans hf⟩

theorem Hub.testBacklog_worked (h : Hub) : h.WorkedOn h.testBacklog := by
  refine ⟨by simp, ?_, fun f hf => ?_⟩
  · unfold Hub.testBacklog
    dsimp only
    split <;> rfl
  · unfold Hub.testBacklog
    dsimp only
    split
    · exact hf
    · generalize hg : ({ h with queue.backlog := _ } : Hub) = g
      exact planHas_setPlan_of (hg ▸ hf) _

theorem Hub.dropHead_worked (h : Hub) : h.WorkedOn h.dropHead :=
  (Hub.WorkedOn.of_parts (g := h) (h := { h with queue.records := h.queue.records.tail }) rfl rfl).trans
    (Hub.testBacklog_worked _)

theorem Hub.beginItems_worked (fl : Floor) (l : List Item) (h : Hub) : h.WorkedOn (Hub.beginItems fl l h).1 := by
  induction l generalizing h with
  | nil => exact .refl h
  | cons i l ih =>
    unfold Hub.beginItems
    split
    · exact .of_parts rfl rfl
    · cases i with
      | brushLoad pile =>
        dsimp only
        split
        · exact .of_parts rfl rfl
        · refine Hub.WorkedOn.trans ?_ (ih _)
          exact .of_parts rfl rfl
      | lowReflect | noReturn =>
        dsimp only
        split <;> exact .of_parts rfl rfl
      | floorClear | wheelDrop | bump | passOver | climb => exact .of_parts rfl rfl

theorem Hub.takeRecords_worked (l : List Record) (h : Hub) : h.WorkedOn (h.takeRecords l) := by
  induction l generalizing h with
  | nil => exact .of_parts rfl rfl
  | cons r l ih =>
    have hb := Hub.beginItems_worked r.floor r.items h
    unfold Hub.takeRecords
    generalize Hub.beginItems r.floor r.items h = x at hb
    obtain ⟨g, waiting⟩ := x
    dsimp only at hb ⊢
    split
    · exact hb
    · exact hb.trans ((Hub.dropHead_worked _).trans (ih _))

theorem Hub.itemDone_worked (h : Hub) : h.WorkedOn h.itemDone := by
  unfold Hub.itemDone
  split
  · rename_i w r rest hw hq
    have hb := Hub.beginItems_worked r.floor w.items.tail h
    have hd (g : Hub) : g.WorkedOn (Hub.dropHead { g with updater.work := none }) := by
      refine Hub.WorkedOn.trans ?_ (Hub.dropHead_worked _)
      exact .of_parts rfl rfl
    generalize Hub.beginItems r.floor w.items.tail h = x at hb
    obtain ⟨g, waiting⟩ := x
    dsimp only at hb ⊢
    split
    · exact hb
    · split
      · exact hb.trans (hd _)
      · exact hb.trans ((hd _).trans (Hub.takeRecords_worked ..))
  · exact .of_parts rfl rfl

/-- A grant of the Map Updater that completes its item: what stands of the hub `g` afterwards. -/
structure Hub.Finished (g h : Hub) : Prop where
  work : g.WorkedOn h
  slots : h.table.slots = g.table.slots
  generation : h.table.generation = g.table.generation
  evictions : h.table.evictions = g.table.evictions
  permit : h.permit = g.permit
  drive : h.drive = g.drive
  odo : h.odo = g.odo
  trail : h.trail = g.trail
  time : h.time = g.time

theorem Hub.finished (g : Hub) : g.Finished (g.itemDone.afterGrant .updater) where
  work := (Hub.itemDone_worked g).trans (.of_parts (by simp) (by simp))
  slots := by simp
  generation := by simp
  evictions := by simp
  permit := by simp
  drive := by simp
  odo := by simp
  trail := by simp
  time := by simp

theorem Runs.finished {i : Instr} {s : State} {g : Hub} (hrun : Runs i s (g.itemDone.afterGrant .updater)) :
    ∃ h, Runs i s h ∧ g.Finished h := ⟨_, hrun, g.finished⟩

/-! ## The writes (R57, R66, R67) -/

theorem Entry.changed_class (e : Entry) (secs : Nat) (c : HazardClass) (n : Nat) (r : Option RugAttrs) :
    (e.changed secs c n r).cls = c ∧ (e.changed secs c n r).confidence = n ∧ (e.changed secs c n r).rug = r
    ∧ (e.changed secs c n r).pinned = e.pinned := by
  unfold Entry.changed
  dsimp only
  split
  · next he => exact ⟨congrArg Entry.cls he.symm, congrArg Entry.confidence he.symm, congrArg Entry.rug he.symm, rfl⟩
  · exact ⟨rfl, rfl, rfl, rfl⟩

/-- A change counts for the map generation by class and rug attributes: it leaves the pin (R13). -/
theorem Entry.counts_changed (e : Entry) (secs : Nat) (c : HazardClass) (n : Nat) (r : Option RugAttrs) :
    e.counts (e.changed secs c n r) = !decide (e.cls = c ∧ e.rug = r) := by
  obtain ⟨hc, -, hr, hp⟩ := e.changed_class secs c n r
  rw [Entry.counts, hc, hr, hp, ← decide_not]
  exact decide_eq_decide.mpr (by tauto)

theorem Entry.changed_rug {e : Entry} {old : RugAttrs} (hc : e.cls = .rug) (ho : e.rug = some old) (secs : Nat)
    (new : RugAttrs) :
    e.changed secs .rug e.confidence (some new) = if old = new then e else { e with rug := some new, stamp := secs } := by
  cases e
  cases hc
  cases ho
  simp only [Entry.changed, Entry.mk.injEq, true_and, and_true, Option.some.injEq, eq_comm (a := new)]

theorem Hub.changeSlot_generation (h : Hub) (slot : Nat) (old new : Entry) :
    (h.changeSlot slot old new).table.generation =
      if old.counts new then (h.table.generation + 1) % 65536 else h.table.generation := by
  unfold Hub.changeSlot
  dsimp only
  split <;> rfl

/-- What a notification may follow: a write of an alarming entry of the active floor that is news (R17, R67). -/
theorem Hub.reports_iff (h : Hub) (old : Option Entry) (new : Entry) :
    h.reports old new = true ↔
      new.floor = h.floor
      ∧ (new.cls = .cliff ∨ new.cls = .dropSuspect ∨ (new.cls = .obstacle ∧ 4 ≤ new.confidence))
      ∧ (∀ o, old = some o → o.cls ≠ new.cls ∨ o.confidence < new.confidence) := by
  cases old <;> simp [Hub.reports, Entry.alarming, and_assoc]

section
variable (h : Hub) (slot : Nat) (e : Entry)

theorem Hub.writeEffect_change_slots (c : HazardClass) (n : Nat) (rug : Option RugAttrs) :
    (h.writeEffect slot e (.change c n rug)).table.slots = h.table.slots.put slot (e.changed h.time.secs c n rug) := by
  unfold Hub.writeEffect
  dsimp only
  split <;> simp

theorem Hub.writeEffect_change_generation (c : HazardClass) (n : Nat) (rug : Option RugAttrs) :
    (h.writeEffect slot e (.change c n rug)).table.generation =
      if e.cls = c ∧ e.rug = rug then h.table.generation else (h.table.generation + 1) % 65536 := by
  have hg : (h.changeSlot slot e (e.changed h.time.secs c n rug)).table.generation =
      if e.cls = c ∧ e.rug = rug then h.table.generation else (h.table.generation + 1) % 65536 := by
    rw [Hub.changeSlot_generation, Entry.counts_changed]
    by_cases hc : e.cls = c ∧ e.rug = rug <;> simp [hc]
  unfold Hub.writeEffect
  dsimp only
  split
  · rw [← hg]
    simp
  · exact hg

theorem Hub.writeCreate_table :
    (h.writeCreate slot e).table = (h.createIn slot e).table := by
  unfold Hub.writeCreate
  dsimp only
  split <;> simp

theorem Hub.writeCreate_slots : (h.writeCreate slot e).table.slots = h.table.slots.put slot e := by
  rw [Hub.writeCreate_table, Hub.createIn_slots]

theorem Hub.writeCreate_generation : (h.writeCreate slot e).table.generation = (h.table.generation + 1) % 65536 := by
  rw [Hub.writeCreate_table]
  rfl

theorem Hub.writeCreate_evictions : (h.writeCreate slot e).table.evictions = h.table.evictions := by
  rw [Hub.writeCreate_table]
  rfl

/-- A notification clears no Plan flag. -/
theorem planHas_notify {f : PlanFlag} (hf : h.planHas f = true) : h.notify.planHas f = true := by
  have hm : h.markStale.planHas f = true := (planHas_congr h.markStale_planFlags f).trans hf
  have hsettle (g : Hub) (sw : Sweep) (hg : g.planHas f = true) : (g.settleRecheck sw).planHas f = true := by
    unfold Hub.settleRecheck
    split
    · exact hg
    · dsimp only
      split
      · exact planHas_trigger (h := { g with permit.recheck := none }) (c := .recheck) hg nofun nofun
      · exact hg
  unfold Hub.notify Hub.recheckAsked
  split
  case h_1 | h_2 =>
    split
    · unfold Hub.startRecheck
      split
      · exact hm
      · exact hsettle _ _ hm
    · exact hm
  all_goals exact hm

/-- A create sets MAP_CHANGED (R13). -/
theorem Hub.writeCreate_changed : (h.writeCreate slot e).planHas .mapChanged = true := by
  have hc : (h.createIn slot e).planHas .mapChanged = true := Hub.planHas_setPlan_self ..
  unfold Hub.writeCreate
  dsimp only
  split
  · exact planHas_notify _ hc
  · exact hc

end

/-- A write of the Map Updater that notifies by the class and confidence written, or else stays quiet: `n` says whether
it is news. -/
def Tells (g h : Hub) (floor : Floor) (cls : HazardClass) (conf : Nat) (n : Bool) : Prop :=
  if floor = g.floor ∧ (cls = .cliff ∨ cls = .dropSuspect ∨ (cls = .obstacle ∧ 4 ≤ conf)) ∧ n = true then
    ∃ k : Hub, k.table.slots = h.table.slots ∧ k.att.refusals = g.att.refusals
      ∧ { k with table := g.table, att := g.att } = g
      ∧ h.permit = k.notify.permit ∧ h.drive = k.notify.drive ∧ h.att.refusals = k.notify.att.refusals
  else h.permit = g.permit ∧ h.drive = g.drive ∧ h.att.refusals = g.att.refusals

/-- A hub with a written table that notifies when the write reports, and completes its item. -/
theorem tells_of_reports {g k h : Hub} {old : Option Entry} {new : Entry} {n : Bool}
    (hk : { k with table := g.table, att := g.att } = g) (ha : k.att.refusals = g.att.refusals)
    (hn : n = true ↔ ∀ o, old = some o → o.cls ≠ new.cls ∨ o.confidence < new.confidence)
    (hf : (if k.reports old new then k.notify else k).Finished h) :
    Tells g h new.floor new.cls new.confidence n := by
  have hodo : k.floor = g.floor := by
    rw [← hk]
  have hrep : k.reports old new = true ↔
      new.floor = g.floor ∧ (new.cls = .cliff ∨ new.cls = .dropSuspect ∨ (new.cls = .obstacle ∧ 4 ≤ new.confidence))
      ∧ n = true := by rw [Hub.reports_iff, hodo, hn]
  unfold Tells
  by_cases hr : k.reports old new = true
  · rw [if_pos hr] at hf
    rw [if_pos (hrep.mp hr)]
    exact ⟨k, by rw [hf.slots]; simp, ha, hk, hf.permit, hf.drive, hf.work.refusals⟩
  · rw [if_neg hr] at hf
    rw [if_neg (hr ∘ hrep.mpr)]
    refine ⟨hf.permit.trans ?_, hf.drive.trans ?_, hf.work.refusals.trans ha⟩
    · rw [← hk]
    · rw [← hk]

/-- A create is always news. -/
theorem tells_of_create {g h : Hub} {slot : Nat} {e : Entry} (hf : ((g.noteSecond .updater).writeCreate slot e).Finished h) :
    Tells g h e.floor e.cls e.confidence true :=
  tells_of_reports (old := none) (k := (g.noteSecond .updater).createIn slot e) (by simp [Hub.noteSecond]) rfl
    (by simp) hf

/-- A change is news by a change of class or a rise. -/
theorem tells_of_change {g h : Hub} {slot : Nat} {e : Entry} {c : HazardClass} {n : Nat} {rug : Option RugAttrs}
    (hf : ((g.noteSecond .updater).writeEffect slot e (.change c n rug)).Finished h) :
    Tells g h e.floor c n (decide (e.cls ≠ c ∨ e.confidence < n)) := by
  obtain ⟨hc, hn, -, -⟩ := e.changed_class g.time.secs c n rug
  have ht := tells_of_reports (old := some e) (new := e.changed g.time.secs c n rug)
    (n := decide (e.cls ≠ c ∨ e.confidence < n))
    (k := (g.noteSecond .updater).changeSlot slot e (e.changed g.time.secs c n rug)) (g := g) (h := h)
    (by simp [Hub.noteSecond]) ?_ (by simp [hc, hn]) hf
  · rw [hc, hn, (e.changed_place ..).2.1] at ht
    exact ht
  · unfold Hub.changeSlot
    dsimp only
    split <;> rfl

section
variable {h : Hub} {item : Item} {items : List Item} {r : Record} {records : List Record} {t : Tile}

theorem Hub.applyGrant_write (hw : h.updater.work = some ⟨item :: items, .write⟩) (hq : h.queue.records = r :: records)
    (ht : item.tile = some t) : h.applyGrant = (h.noteSecond .updater).applyWrite item r.floor t := by
  simp only [Hub.applyGrant, hw, hq, ht]

theorem Hub.applyGrant_brush {slot : Nat} (hw : h.updater.work = some ⟨item :: items, .brushWrite slot t⟩)
    (hq : h.queue.records = r :: records) :
    h.applyGrant = (h.noteSecond .updater).brushWrite item r.floor slot t := by
  simp only [Hub.applyGrant, hw, hq]

theorem Hub.applyWrite_entry {slot : Nat} {e : Entry} (hs : h.table.sensedAt r.floor t = some slot)
    (he : h.table.slots.entry slot = some e) :
    h.applyWrite item r.floor t = (h.writeEffect slot e (item.effect h.updater.pile (some e))).itemDone := by
  simp only [Hub.applyWrite, hs, he]

theorem Hub.brushWrite_entry {slot : Nat} {e : Entry} (he : h.table.slots.entry slot = some e)
    (hon : e.sensedOn r.floor t = true) :
    h.brushWrite item r.floor slot t = (h.writeEffect slot e (item.effect h.updater.pile (some e))).itemDone := by
  simp only [Hub.brushWrite, he, Option.filter_some, hon, if_true]

theorem Hub.brushWrite_none {slot : Nat} (he : (h.table.slots.entry slot).filter (·.sensedOn r.floor t) = none) :
    h.brushWrite item r.floor slot t = h.itemDone := by
  simp only [Hub.brushWrite, he]

theorem Hub.applyWrite_unchanged (hs : h.table.sensedAt r.floor t = none)
    (he : item.effect h.updater.pile none = .unchanged) : h.applyWrite item r.floor t = h.itemDone := by
  simp only [Hub.applyWrite, hs, he]

theorem Hub.applyWrite_create {cls : HazardClass} {conf slot : Nat} (hs : h.table.sensedAt r.floor t = none)
    (he : item.effect h.updater.pile none = .create cls conf) (hf : h.table.slots.free = some slot) :
    h.applyWrite item r.floor t = (h.writeCreate slot (h.sensedEntry r.floor t cls conf)).itemDone := by
  simp only [Hub.applyWrite, hs, he, hf]

theorem Hub.applyWrite_full {cls : HazardClass} {conf : Nat} (hs : h.table.sensedAt r.floor t = none)
    (he : item.effect h.updater.pile none = .create cls conf) (hf : h.table.slots.free = none) :
    h.applyWrite item r.floor t = h.beginSearch := by
  simp only [Hub.applyWrite, hs, he, hf]

/-- On an occupied table the victim search begins at its first slot (R11). -/
theorem Hub.beginSearch_first {first : Nat} (hn : h.table.slots.nextOccupied 0 = some first) :
    h.beginSearch = h.setPhase (.search first none) := by
  simp only [Hub.beginSearch, hn]

theorem Hub.setPhase_work {p q : ApplyPhase} (hw : h.updater.work = some ⟨item :: items, q⟩) :
    (h.setPhase p).updater.work = some ⟨item :: items, p⟩ := by
  simp [Hub.setPhase, hw]

end

/-- Settles O24: the grant is the write of the item's effect, and the item is done. -/
theorem applyItemWritesOnce : Obligations.ApplyItemWritesOnce := by
  intro s item items r records hr hg hq gen quiet same tells
  have hsame {h : Hub} (hf : (s.hub.noteSecond .updater).Finished h) : same h ∧ h.odo = s.hub.odo :=
    ⟨⟨hf.slots, hf.generation, hf.permit, hf.drive, hf.work.refusals⟩, hf.odo⟩
  refine ⟨fun t hw ht => ⟨fun slot e hs he => ?_, fun hs => ⟨fun hx => ?_, fun cls conf hx =>
    ⟨fun slot hf => ?_, fun first hf hn => ?_⟩⟩⟩, fun t slot load hi hw => ⟨fun e old he hon hc ho => ?_, fun hall => ?_⟩⟩
  all_goals
    have hrun : Runs .applyItem s (s.hub.applyGrant.afterGrant .updater) :=
      runs_of_grant rfl hr hg (by simp [Hub.inPhase, hw, ApplyPhase.isWrite])
  case refine_1 =>
    rw [Hub.applyGrant_write hw hq ht, Hub.applyWrite_entry (h := s.hub.noteSecond .updater) hs he] at hrun
    obtain ⟨h, hrun, hfin⟩ := hrun.finished
    refine ⟨h, hrun, fun hx => ?_, fun hx => ?_, fun hx => ?_, fun cls conf rug hx => ?_, hfin.odo.trans (by simp),
      hfin.trail.trans (by simp), hfin.time.trans (by simp)⟩
    all_goals rw [show item.effect (s.hub.noteSecond .updater).updater.pile (some e) = _ from hx] at hfin
    · exact (hsame hfin).1
    · exact ⟨⟨hfin.slots, hfin.generation, hfin.permit, hfin.drive, hfin.work.refusals⟩, hfin.work.conflicts⟩
    · exact ⟨hfin.slots.trans (Hub.removeSlot_slots ..), hfin.generation,
        hfin.work.flags _ (Hub.planHas_setPlan_self ..), hfin.permit, hfin.drive, hfin.work.refusals⟩
    · refine ⟨?_, ?_, tells_of_change hfin⟩
      · rw [hfin.slots, Hub.writeEffect_change_slots]
        rfl
      · rw [hfin.generation, Hub.writeEffect_change_generation]
        rfl
  case refine_2 =>
    rw [Hub.applyGrant_write hw hq ht, Hub.applyWrite_unchanged (h := s.hub.noteSecond .updater) hs hx] at hrun
    obtain ⟨h, hrun, hfin⟩ := hrun.finished
    exact ⟨h, hrun, hsame hfin⟩
  case refine_3 =>
    rw [Hub.applyGrant_write hw hq ht, Hub.applyWrite_create (h := s.hub.noteSecond .updater) hs hx hf] at hrun
    obtain ⟨h, hrun, hfin⟩ := hrun.finished
    have htells := tells_of_create hfin
    refine ⟨h, hrun, ?_, ?_, ?_, ?_, htells, hfin.odo.trans (by simp)⟩
    · rw [hfin.slots, Hub.writeCreate_slots]
      rfl
    · rw [hfin.generation, Hub.writeCreate_generation]
      rfl
    · exact hfin.work.flags _ (Hub.writeCreate_changed ..)
    · rw [hfin.evictions, Hub.writeCreate_evictions]
      rfl
  case refine_4 =>
    rw [Hub.applyGrant_write hw hq ht, Hub.applyWrite_full (h := s.hub.noteSecond .updater) hs hx hf,
      Hub.beginSearch_first (h := s.hub.noteSecond .updater) hn] at hrun
    exact ⟨_, hrun, ⟨rfl, rfl, rfl, rfl, rfl⟩, Hub.setPhase_work (h := s.hub.noteSecond .updater) hw, rfl, rfl⟩
  case refine_5 =>
    subst hi
    have hx : (Item.brushLoad load).effect (s.hub.noteSecond .updater).updater.pile (some e)
        = .change .rug e.confidence (some ⟨load, old.dark, decide (load = .high)⟩) := by
      simp [Item.effect, RugAttrs.sensed, hc, ho]
    rw [Hub.applyGrant_brush hw hq, Hub.brushWrite_entry (h := s.hub.noteSecond .updater) he hon, hx] at hrun
    obtain ⟨h, hrun, hfin⟩ := hrun.finished
    have htells := tells_of_change hfin
    unfold Tells at htells
    rw [if_neg (by simp)] at htells
    refine ⟨h, hrun, ?_, ?_, htells, hfin.odo.trans (by simp)⟩
    · rw [hfin.slots, Hub.writeEffect_change_slots, Entry.changed_rug hc ho]
      rfl
    · rw [hfin.generation, Hub.writeEffect_change_generation]
      simp only [hc, ho, Option.some.injEq, true_and]
      rfl
  case refine_6 =>
    have hrun' : ∃ h, Runs .applyItem s h ∧ (s.hub.noteSecond .updater).Finished h := by
      rw [Hub.applyGrant_brush hw hq] at hrun
      cases he : (s.hub.table.slots.entry slot).filter (·.sensedOn r.floor t) with
      | none =>
        rw [Hub.brushWrite_none (h := s.hub.noteSecond .updater) he] at hrun
        exact hrun.finished
      | some e =>
        obtain ⟨he, hon⟩ := Option.filter_eq_some_iff.mp he
        have hc : e.cls ≠ .rug := by simpa [he, hon] using hall
        subst hi
        have hx : (Item.brushLoad load).effect (s.hub.noteSecond .updater).updater.pile (some e) = .unchanged := by
          dsimp only [Item.effect]
          split
          · exact absurd ‹_› hc
          · rfl
        rw [Hub.brushWrite_entry (h := s.hub.noteSecond .updater) he hon, hx] at hrun
        exact hrun.finished
    obtain ⟨h, hrun, hfin⟩ := hrun'
    exact ⟨h, hrun, hsame hfin⟩

end Sys2Proof.Machine
end

section
/-!
The dark-rug screen and the eviction (O25, O26, O27).
-/

namespace Sys2Proof.Machine

section
variable {h : Hub} {item : Item} {items : List Item} {r : Record} {records : List Record}

/-! ## The dark-rug screen (R57) -/

/-- Whether a PLANNED entry read keeps a reflectance item from having an effect (R57). -/
def Entry.screens (e : Entry) (t : Tile) : Bool :=
  decide (e.cls = .rug) && (e.rug.map (·.dark)).getD false && e.covers t

theorem Hub.plannedGrant_reads {slot : Nat} {covered : Bool} {t : Tile} {e : Entry}
    (hw : h.updater.work = some ⟨item :: items, .plannedRead slot covered⟩) (hq : h.queue.records = r :: records)
    (ht : item.tile = some t) (he : h.table.slots.entry slot = some e) (ho : e.origin = .planned) (hf : e.floor = r.floor) :
    h.plannedGrant =
      match h.table.nextPlanned r.floor (slot + 1) with
      | some next => (h.noteSecond .updater).setPhase (.plannedRead next (covered || e.screens t))
      | none =>
        if covered || e.screens t then (h.noteSecond .updater).itemDone else (h.noteSecond .updater).setPhase .write := by
  have hd : (decide (e.origin = .planned ∧ e.floor = r.floor ∧ e.cls = .rug) && (e.rug.map (·.dark)).getD false
      && item.tile.elim false e.covers) = e.screens t := by
    simp [Entry.screens, ho, hf, ht]
  have he' : (h.noteSecond .updater).table.slots.entry slot = some e := he
  simp only [Hub.plannedGrant, hw, hq, he', Option.elim_some, hd]
  rfl

/-- The last item of the last record leaves the Map Updater idle (R52, R55). -/
theorem Hub.itemDone_last {p : ApplyPhase} (hw : h.updater.work = some ⟨[item], p⟩) (hq : h.queue.records = [r]) :
    h.itemDone.updater.work = none ∧ h.itemDone.queue.records = [] := by
  have he : h.itemDone =
      if (Hub.dropHead { h with updater.work := none }).loading then Hub.dropHead { h with updater.work := none }
      else { Hub.dropHead { h with updater.work := none } with updater.work := none } := by
    simp [Hub.itemDone, hw, hq, Hub.beginItems, Hub.takeRecords]
  rw [he]
  split <;> simp [Hub.dropHead_records, hq]

/-! ## The victim search (R11, R12) -/

/-- The best victim after a slot is read (R11). -/
def Hub.bestAfter (h : Hub) (cls : HazardClass) (slot : Nat) (best : Option Victim) : Option Victim :=
  match (h.table.slots.entry slot).filter (·.evictable cls) with
  | some e => some (Victim.better best ⟨slot, e.confidence, e.stamp⟩)
  | none => best

section
variable {slot : Nat} {best : Option Victim} (hw : h.updater.work = some ⟨item :: items, .search slot best⟩)
include hw

theorem Hub.searchGrant_more {next : Nat} (hn : h.table.slots.nextOccupied (slot + 1) = some next) :
    h.searchGrant = (h.noteSecond .updater).setPhase (.search next (h.bestAfter item.creates slot best)) := by
  have hn' : (h.noteSecond .updater).table.slots.nextOccupied (slot + 1) = some next := hn
  simp only [Hub.searchGrant, hw, hn']
  rfl

theorem Hub.searchGrant_ends (hn : h.table.slots.nextOccupied (slot + 1) = none) :
    h.searchGrant =
      (h.bestAfter item.creates slot best).elim ((h.noteSecond .updater).setPlan .mapFull).itemDone
        fun v => (h.noteSecond .updater).setPhase (.evict v.slot) := by
  have hn' : (h.noteSecond .updater).table.slots.nextOccupied (slot + 1) = none := hn
  simp only [Hub.searchGrant, hw, hn', Hub.bestAfter]
  rw [show (h.noteSecond .updater).table.slots = h.table.slots from rfl]
  cases (h.table.slots.entry slot).filter (·.evictable item.creates) with
  | none => cases best <;> rfl
  | some e => rfl

end

/-! ## The eviction (R12, R66) -/

theorem Hub.evictGrant_writes {victim : Nat} {t : Tile} {cls : HazardClass} {conf slot : Nat}
    (hw : h.updater.work = some ⟨item :: items, .evict victim⟩) (hq : h.queue.records = r :: records)
    (ht : item.tile = some t) (hx : item.effect h.updater.pile none = .create cls conf)
    (hs : h.table.sensedAt r.floor t = none) (hf : h.table.slots.free = some slot) :
    h.evictGrant = ((h.noteSecond .updater).writeCreate slot (h.sensedEntry r.floor t cls conf)).itemDone := by
  have hx' : item.effect (h.noteSecond .updater).updater.pile none = .create cls conf := hx
  simp only [Hub.evictGrant, hw, hq, ht, hx']
  rw [if_pos (by rw [show (h.noteSecond .updater).table.slots.free = some slot from hf]; simp),
    Hub.applyWrite_create (h := h.noteSecond .updater) hs hx hf]
  rfl

theorem Hub.evictGrant_full {victim : Nat} {t : Tile} {cls : HazardClass} {conf : Nat} {old : Entry}
    (hw : h.updater.work = some ⟨item :: items, .evict victim⟩) (hq : h.queue.records = r :: records)
    (ht : item.tile = some t) (hx : item.effect h.updater.pile none = .create cls conf)
    (hs : h.table.sensedAt r.floor t = none) (hf : h.table.slots.free = none)
    (ho : h.table.slots.entry victim = some old) :
    h.evictGrant =
      if old.evictable cls then
        ((h.noteSecond .updater).replaceVictim victim (h.sensedEntry r.floor t cls conf)).itemDone
      else (h.noteSecond .updater).beginSearch := by
  have hx' : item.effect (h.noteSecond .updater).updater.pile none = .create cls conf := hx
  have hs' : (h.noteSecond .updater).table.sensedAt r.floor t = none := hs
  have hf' : (h.noteSecond .updater).table.slots.free = none := hf
  have ho' : (h.noteSecond .updater).table.slots.entry victim = some old := ho
  simp only [Hub.evictGrant, hw, hq, ht, hx', hs', hf', ho', Option.isSome_none, Bool.or_self, Bool.false_eq_true, if_false,
    Option.elim_some]
  rfl

end

/-- What the eviction write makes of the table, flags and counts (R12, R13). -/
theorem Hub.replaceVictim_table (h : Hub) (victim : Nat) (e : Entry) :
    (h.replaceVictim victim e).table =
      { h.table with
        slots := h.table.slots.put victim e, evictions := min (h.table.evictions + 1) 65535
        generation := (h.table.generation + 2) % 65536 }
    ∧ (h.replaceVictim victim e).planHas .mapChanged = true := by
  have hc : (Hub.advance 2
      { h with table.slots := h.table.slots.put victim e, table.evictions := sat16 h.table.evictions }).planHas .mapChanged
        = true := Hub.planHas_setPlan_self ..
  unfold Hub.replaceVictim
  dsimp only
  split
  · exact ⟨by simp; rfl, planHas_notify _ hc⟩
  · exact ⟨rfl, hc⟩

/-- An eviction is always news. -/
theorem tells_of_eviction {g h : Hub} {victim : Nat} {e : Entry}
    (hf : ((g.noteSecond .updater).replaceVictim victim e).Finished h) : Tells g h e.floor e.cls e.confidence true := by
  refine tells_of_reports (old := none) (new := e) (k := Hub.advance 2
    { g.noteSecond .updater with
      table.slots := g.table.slots.put victim e, table.evictions := sat16 g.table.evictions }) ?_ rfl (by simp) hf
  simp [Hub.noteSecond]

/-- Settles O25: the read decides, and the item goes on to its write or is done. -/
theorem darkRugScreensReflectance : Obligations.DarkRugScreensReflectance := by
  intro s item items r records t slot e covered hr hg hw hq ht he ho hf dark
  have hrun : Runs .plannedRugRead s (s.hub.plannedGrant.afterGrant .updater) :=
    runs_of_grant rfl hr hg (by simp [Hub.inPhase, hw, ApplyPhase.isPlannedRead])
  have hdark : dark = (covered || e.screens t) := rfl
  have hread := Hub.plannedGrant_reads hw hq ht he ho hf
  rw [← hdark] at hread
  refine ⟨_, hrun, ?_, fun next hn => ?_, fun hn hd => ?_, fun hn hd hi hrec => ?_⟩
  · rw [hread]
    repeat' split
    all_goals simp [Hub.noteSecond]
  · rw [hread, hn]
    exact ⟨Hub.setPhase_work (h := s.hub.noteSecond .updater) hw, rfl⟩
  · rw [hread, hn, hd]
    exact ⟨Hub.setPhase_work (h := s.hub.noteSecond .updater) hw, rfl⟩
  · subst hi hrec
    rw [hread, hn, hd]
    exact Hub.itemDone_last (h := s.hub.noteSecond .updater) hw hq

/-- Settles O26: a read keeps the better victim, and the last one ends the search. -/
theorem evictionSearchKeepsTheBestVictim : Obligations.EvictionSearchKeepsTheBestVictim := by
  intro s item items slot best hr hg hw seen
  have hrun : Runs .evictionSearchRead s (s.hub.searchGrant.afterGrant .updater) :=
    runs_of_grant rfl hr hg (by simp [Hub.inPhase, hw, ApplyPhase.isSearch])
  have hseen : seen = s.hub.bestAfter item.creates slot best := by
    dsimp only [seen, Hub.bestAfter]
    cases (s.hub.table.slots.entry slot).filter (·.evictable item.creates) with
    | none => rfl
    | some e =>
      cases best with
      | none => rfl
      | some b =>
        dsimp only [Victim.better]
        split <;> rfl
  cases hn : s.hub.table.slots.nextOccupied (slot + 1) with
  | some next =>
    rw [Hub.searchGrant_more hw hn, ← hseen] at hrun
    refine ⟨_, hrun, rfl, fun k hk => ?_, nofun, nofun⟩
    cases hk
    exact Hub.setPhase_work (h := s.hub.noteSecond .updater) hw
  | none =>
    rw [Hub.searchGrant_ends hw hn, ← hseen] at hrun
    cases hv : seen with
    | none =>
      rw [hv] at hrun
      exact ⟨_, hrun, by simp [Hub.noteSecond], nofun, nofun,
        fun _ _ => (Hub.itemDone_worked _).flags _ (Hub.planHas_setPlan_self ..)⟩
    | some v =>
      rw [hv] at hrun
      refine ⟨_, hrun, rfl, nofun, fun k _ hk => ?_, nofun⟩
      cases hk
      exact Hub.setPhase_work (h := s.hub.noteSecond .updater) hw

/-- Settles O27: the eviction write, the create in a slot that has become free, or the search again. -/
theorem evictionEndsWithOneWrite : Obligations.EvictionEndsWithOneWrite := by
  intro s item items r records t victim old cls conf hr hg hw hq ht hx hs ho new quiet tells
  have hrun : Runs .evict s (s.hub.evictGrant.afterGrant .updater) :=
    runs_of_grant rfl hr hg (by simp [Hub.inPhase, hw, ApplyPhase.isEvict])
  have htells {h : Hub} (ht : Tells s.hub h r.floor cls conf true) : tells h := by
    simpa only [Tells, and_true] using ht
  cases hf : s.hub.table.slots.free with
  | some slot =>
    rw [Hub.evictGrant_writes hw hq ht hx hs hf] at hrun
    obtain ⟨h, hrun, hfin⟩ := hrun.finished
    refine ⟨h, hrun, nofun, fun k hk => ?_, nofun⟩
    cases hk
    refine ⟨?_, ?_, ?_, htells (tells_of_create hfin)⟩
    · rw [hfin.slots, Hub.writeCreate_slots]
      rfl
    · rw [hfin.evictions, Hub.writeCreate_evictions]
      rfl
    · rw [hfin.generation, Hub.writeCreate_generation]
      rfl
  | none =>
    rw [Hub.evictGrant_full hw hq ht hx hs hf ho] at hrun
    cases hev : old.evictable cls with
    | true =>
      rw [hev, if_pos rfl] at hrun
      obtain ⟨h, hrun, hfin⟩ := hrun.finished
      obtain ⟨htable, hflag⟩ := (s.hub.noteSecond .updater).replaceVictim_table victim (s.hub.sensedEntry r.floor t cls conf)
      refine ⟨h, hrun, fun _ _ => ⟨?_, ?_, ?_, hfin.work.flags _ hflag, htells (tells_of_eviction hfin)⟩, nofun, nofun⟩
      · rw [hfin.slots, htable]
        rfl
      · rw [hfin.evictions, htable]
        rfl
      · rw [hfin.generation, htable]
        rfl
    | false =>
      rw [hev, if_neg (by decide)] at hrun
      refine ⟨_, hrun, nofun, nofun, fun first _ _ hn => ?_⟩
      rw [Hub.beginSearch_first (h := s.hub.noteSecond .updater) hn]
      exact ⟨rfl, Hub.setPhase_work (h := s.hub.noteSecond .updater) hw, rfl, rfl, rfl⟩

end Sys2Proof.Machine
end

section
/-!
The lookups and the Beacon Receiver (O28, O29, O30).
-/

namespace Sys2Proof.Machine

/-! ## The centre-tile lookup (R16, R75) -/

section
variable {h : Hub} {l : Lookup}

/-- A centre-tile lookup that no other waits for ends with its result, or without one (R75, R76). -/
theorem Hub.centreEnd_alone (ha : h.odo.centreAgain = false) (discard : Bool) (best : Option Pile) :
    h.centreEnd discard best =
      if discard then h.endLookup .centre
      else ({ h.endLookup .centre with odo.slip := best }).reportRug (decide (best = some Pile.high)) := by
  cases discard <;> simp [Hub.centreEnd, Hub.endLookup, ha]

theorem Hub.centreEnd_result (ha : h.odo.centreAgain = false) (discard : Bool) (best : Option Pile) :
    (h.centreEnd discard best).odo.lookups = h.odo.lookups.eraseP (fun k => decide (k.what = .centre))
    ∧ (discard = false →
      (h.centreEnd discard best).odo.slip = best ∧ (h.centreEnd discard best).load.rug = decide (best = some .high))
    ∧ (discard = true →
      (h.centreEnd discard best).odo.slip = h.odo.slip ∧ (h.centreEnd discard best).load = h.load) := by
  rw [Hub.centreEnd_alone ha]
  cases discard <;> simp [Hub.endLookup]

theorem Hub.centreDone_empty (hc : h.completing .centre = some l) (hn : h.lookupClaim l = none) :
    h.centreDone = h.centreEnd l.discard none := by
  simp only [Hub.centreDone, hc, hn]

theorem Hub.centreDone_last {claim : SweepClaim} (hc : h.completing .centre = some l) (hn : h.lookupClaim l = some claim)
    (hr : h.nextRead l claim = none) :
    h.centreDone = h.lookupGranted (Hub.centreEnd l.discard (h.pileAfter l claim)) := by
  simp only [Hub.centreDone, hc, hn, hr]

theorem Hub.centreDone_more {claim : SweepClaim} {slot : Nat} (hc : h.completing .centre = some l)
    (hn : h.lookupClaim l = some claim) (hr : h.nextRead l claim = some slot) :
    h.centreDone = h.lookupGranted (Hub.readOn ⟨h.lookupFloor l, slot, h.pileAfter l claim⟩) := by
  simp only [Hub.centreDone, hc, hn, hr]

/-- A lookup's grant leaves the odometry, load and permit as its effect makes them. -/
theorem Hub.lookupGranted_parts (f : Hub → Hub) :
    (h.lookupGranted f).odo = (f (h.noteSecond .odometry)).odo
    ∧ (h.lookupGranted f).load = (f (h.noteSecond .odometry)).load
    ∧ (h.lookupGranted f).permit = (f (h.noteSecond .odometry)).permit
    ∧ (h.lookupGranted f).table.slots = (f (h.noteSecond .odometry)).table.slots := ⟨rfl, rfl, rfl, rfl⟩

/-! ## The pass-over lookups (R83) -/

/-- Whether a wheel's tile is noted: it holds a SENSED unprotected drop, is still under the wheel, the wheel's line is
clear and the lookup was not cancelled (R83). -/
def Hub.notes (h : Hub) (side : Side) (l : Lookup) : Bool :=
  ((h.tileView l.tile).any fun e =>
    decide (e.origin = .sensed) && (decide (e.cls = .dropSuspect) || (decide (e.cls = .cliff) && !e.isProtected)))
  && decide ((h.odo.wheel side).contact = some l.tile) && !h.dropped side && !l.discard

theorem Hub.passOverEnd_odo (side : Side) :
    (h.passOverEnd side l).odo =
      Odometry.setWheel { h.odo with lookups := h.odo.lookups.eraseP fun k => decide (k.what = LookupFor.wheel side) } side
        { h.odo.wheel side with noted := if h.notes side l then some l.tile else (h.odo.wheel side).noted } := by
  have hw : (h.endLookup (.wheel side)).odo.wheel side = h.odo.wheel side := by cases side <;> rfl
  have hd : (h.endLookup (.wheel side)).dropped side = h.dropped side := by cases side <;> rfl
  unfold Hub.passOverEnd
  dsimp only
  rw [hw, hd]
  by_cases hn : h.notes side l = true
  all_goals unfold Hub.notes at hn ⊢
  · rw [if_pos hn, if_pos hn]
    rfl
  · rw [if_neg hn, if_neg hn]
    cases side <;> rfl

end

/-- Settles O28: a lookup reads on, or ends with what it read. -/
theorem lookupsEndWithTheirResult : Obligations.LookupsEndWithTheirResult := by
  intro s l hr
  refine ⟨?_, fun wheel hc => ?_⟩
  · intro hc ha floor read best next
    have hrun : Runs .centreTileLookupDone s s.hub.centreDone := runs_of_run rfl hr
    have hfloor : floor = s.hub.lookupFloor l := by
      dsimp only [floor, Hub.lookupFloor]
      cases l.reading <;> rfl
    cases hn : s.hub.lookupClaim l with
    | none =>
      have hnext : next = none := by simp only [next, hn]
      rw [Hub.centreDone_empty hc hn] at hrun
      obtain ⟨hl, hkept, hdis⟩ := Hub.centreEnd_result ha l.discard none
      refine ⟨fun slot hs => absurd (hnext.symm.trans hs) nofun, fun _ => ⟨_, hrun, hl, fun _ => nofun, fun hd _ => hkept hd, hdis, ?_, ?_⟩⟩
      · simp
      · simp
    | some claim =>
      have hbest : best = s.hub.pileAfter l claim := by
        simp only [best, read, hn, hfloor]
        cases claim <;> rfl
      have hnext : next = s.hub.nextRead l claim := by
        simp only [next, hn, hfloor]
        cases claim <;> rfl
      refine ⟨fun slot hs => ?_, fun hs => ?_⟩
      · rw [Hub.centreDone_more hc hn (hnext ▸ hs)] at hrun
        refine ⟨_, hrun, ?_, rfl, rfl, rfl⟩
        rw [hbest, hfloor]
        rfl
      · rw [Hub.centreDone_last hc hn (hnext ▸ hs), ← hbest] at hrun
        obtain ⟨hl, hkept, hdis⟩ := Hub.centreEnd_result (h := s.hub.noteSecond .odometry) ha l.discard best
        exact ⟨_, hrun, hl, fun hd _ => hkept hd, fun _ hno => absurd hno nofun, hdis, by simp [Hub.lookupGranted_parts, Hub.noteSecond],
          by simp [Hub.lookupGranted_parts]⟩
  · have hrun : Runs (.passOverLookupDone wheel) s (s.hub.passOverDone wheel) := runs_of_run rfl hr
    have hdone : (s.hub.passOverDone wheel).odo = (s.hub.passOverEnd wheel l).odo
        ∧ (s.hub.passOverDone wheel).table.slots = s.hub.table.slots := by
      simp only [Hub.passOverDone, hc]
      split
      · simp only [Hub.lookupGranted_parts, Hub.passOverEnd_odo]
        exact ⟨rfl, by simp [Hub.noteSecond]⟩
      · exact ⟨rfl, by simp⟩
    have hnotes : s.hub.notes wheel l =
        ((s.hub.tileView l.tile).any
            (fun e => decide (e.origin = .sensed)
              && (decide (e.cls = .dropSuspect) || (decide (e.cls = .cliff) && decide (e.confidence < 8))))
          && decide ((s.hub.odo.wheel wheel).contact = some l.tile) && !s.hub.dropped wheel && !l.discard) := by
      have hsoft (e : Entry) : (decide (e.cls = .cliff) && !e.isProtected) =
          (decide (e.cls = .cliff) && decide (e.confidence < 8)) := by
        by_cases hcl : e.cls = .cliff
        · rw [Entry.isProtected_cliff hcl, Bool.not_not]
        · simp [hcl]
      simp only [Hub.notes, hsoft]
    rw [← hnotes]
    refine ⟨_, hrun, ?_, ?_, ?_, hdone.2, by simp, ?_⟩
    all_goals
      rw [hdone.1, Hub.passOverEnd_odo]
      cases wheel <;> rfl

/-! ## Sightings and polarity (R157, R158) -/

section
variable {b : Beacon} {side : Side}

@[simp] theorem Beacon.eye_setEye (e : Eye) : (b.setEye side e).eye side = e := by cases side <;> rfl

@[simp] theorem Beacon.setEye_setEye (e k : Eye) : (b.setEye side k).setEye side e = b.setEye side e := by cases side <;> rfl

@[simp] theorem Beacon.setEye_counts (e : Eye) :
    (b.setEye side e).foreign = b.foreign ∧ (b.setEye side e).flips = b.flips
    ∧ ∀ p, (b.setEye side e).slotFor p = b.slotFor p := by
  cases side <;> exact ⟨rfl, rfl, fun _ => rfl⟩

end

theorem setReturn_powerHas {h : Hub} {f : PowerFlag} (hf : h.powerHas f = true) (st : ReturnState) :
    (h.setReturn st).powerHas f = true := by
  have hg : (Hub.setPower .returnChanged
      (Hub.setPlan .returnChanged { h with dock.state := st, dock.timer := none })).powerHas f = true :=
    powerHas_setPower_of (h := Hub.setPlan .returnChanged { h with dock.state := st, dock.timer := none }) hf _
  unfold Hub.setReturn
  split
  · exact hf
  · dsimp only
    split <;> exact hg

theorem sightingTaken_powerHas {h : Hub} {f : PowerFlag} (hf : h.powerHas f = true) : h.sightingTaken.powerHas f = true := by
  unfold Hub.sightingTaken
  split
  · unfold Hub.approachTests
    split
    · exact setReturn_powerHas hf _
    · exact hf
  all_goals exact hf

theorem sightingTaken_docking {h : Hub} (hs : h.dock.state = .docking) : h.sightingTaken.dock.timer = none := by
  simp only [Hub.sightingTaken, hs]

/-- The eye after an upright frame that a slot takes (R157). -/
def Eye.sighted (e : Eye) (k : Nat) (f : FieldCode) (ms : Nat) : Eye :=
  { e with inversions := 0, uprightSince := true, sighting := some ⟨k, f, ms⟩, fresh := some ⟨ms, 500⟩ }

section
variable {h : Hub} {side : Side} {p : BitVec 16} {f : FieldCode}

theorem Hub.primaryFrame_valid (hf : payloadField p = some f) : h.primaryFrame side p = h.uprightFrame side p f := by
  simp only [Hub.primaryFrame, hf]

theorem Hub.primaryFrame_invalid (hf : payloadField p = none) : h.primaryFrame side p = h := by
  simp only [Hub.primaryFrame, hf]

/-- An upright frame that a slot takes (R157). -/
theorem Hub.uprightFrame_taken {k : Nat} (hk : h.beacon.slotFor p = some k) :
    (h.uprightFrame side p f).beacon = h.beacon.setEye side ((h.beacon.eye side).sighted k f h.time.ms)
    ∧ (h.uprightFrame side p f).powerHas .dockSighted = true
    ∧ (h.dock.state = .docking → (h.uprightFrame side p f).dock.timer = none) := by
  simp only [Hub.uprightFrame, hk]
  refine ⟨?_, sightingTaken_powerHas (Hub.powerHas_setPower_self ..), fun hs => sightingTaken_docking (by simpa using hs)⟩
  simp [Hub.setEye, Eye.sighted, Hub.timer]

/-- An upright frame that no slot takes (R157). -/
theorem Hub.uprightFrame_foreign (hk : h.beacon.slotFor p = none) :
    h.uprightFrame side p f =
      { h.setEye side { h.beacon.eye side with inversions := 0, uprightSince := true } with
        beacon.foreign := sat8 h.beacon.foreign } := by
  simp only [Hub.uprightFrame, hk]

theorem Hub.shadowFrame_counts (hf : (payloadField p).isSome = true) (hi : (h.beacon.eye side).inversions < 7) :
    h.shadowFrame side p true =
      h.setEye side { h.beacon.eye side with inversions := (h.beacon.eye side).inversions + 1 } := by
  simp only [Hub.shadowFrame, hf, Bool.and_self, if_true]
  exact if_neg (by omega)

theorem Hub.shadowFrame_flips (hf : (payloadField p).isSome = true) (hi : 7 ≤ (h.beacon.eye side).inversions) :
    h.shadowFrame side p true = h.flipEye side := by
  simp only [Hub.shadowFrame, hf, Bool.and_self, if_true]
  exact if_pos (by omega)

theorem Hub.flipEye_eye :
    (h.flipEye side).beacon.eye side =
      { h.beacon.eye side with
        inverted := !(h.beacon.eye side).inverted, inversions := 0, primary := .hunting, shadow := .hunting } := by
  cases side <;> rfl

theorem Hub.flipEye_flips : (h.flipEye side).beacon.flips = sat8 h.beacon.flips := by
  cases side <;> rfl

theorem Hub.shadowFrame_drops {alone : Bool} (hf : payloadField p = none ∨ alone = false) :
    h.shadowFrame side p alone = h := by
  rcases hf with hf | hf <;> simp [Hub.shadowFrame, hf]

end

/-- Settles O29: a frame's cases, from the eye whose decoder has gone back to hunting. -/
theorem beaconFramesGiveSightingsAndFlips : Obligations.BeaconFramesGiveSightingsAndFlips := by
  refine ⟨fun s eye p hr => ?_, fun s eye p hr => ?_⟩
  · intro e
    generalize hg : s.hub.setEye eye { e with primary := .hunting } = g
    have hrun : Runs (.beaconFrame eye p) s (g.primaryFrame eye p) := by
      rw [← hg]
      exact runs_of_run (f := action (.beaconFrame eye p)) rfl hr
    have hge : g.beacon.eye eye = { e with primary := .hunting } := by
      rw [← hg]
      exact Beacon.eye_setEye _
    have hslot : g.beacon.slotFor p = s.hub.beacon.slotFor p := by
      rw [← hg]
      exact Beacon.setEye_counts _ |>.2.2 p
    have hforeign : g.beacon.foreign = s.hub.beacon.foreign := by
      rw [← hg]
      exact (Beacon.setEye_counts _).1
    have hrest : g.time = s.hub.time ∧ g.dock = s.hub.dock ∧ g.att = s.hub.att := by
      rw [← hg]
      exact ⟨rfl, rfl, rfl⟩
    obtain ⟨htime, hdock, hatt⟩ := hrest
    refine ⟨fun f hf => ?_, fun hf => ?_⟩
    · rw [Hub.primaryFrame_valid hf] at hrun
      refine ⟨_, hrun, fun k hk => ?_, fun hk => ?_⟩
      · obtain ⟨hb, hp, hd⟩ := Hub.uprightFrame_taken (h := g) (side := eye) (f := f) (hslot.trans hk)
        rw [hge, htime] at hb
        refine ⟨?_, ?_, hp, fun hs => hd (hdock ▸ hs)⟩
        · rw [hb, Beacon.eye_setEye]
          rfl
        · rw [hb, (Beacon.setEye_counts _).1, hforeign]
      · rw [Hub.uprightFrame_foreign (hslot.trans hk), hge, hforeign]
        refine ⟨?_, rfl, hdock, hatt⟩
        cases eye <;> rfl
    · rw [Hub.primaryFrame_invalid hf, ← hg] at hrun
      exact hrun
  · intro e
    generalize hg : s.hub.setEye eye { e with shadow := .hunting } = g
    have hrun : Runs (.beaconShadowFrame eye p) s
        (g.shadowFrame eye p (decide (e.shadow = .hunting) || !e.uprightSince)) := by
      rw [← hg]
      exact runs_of_run (f := action (.beaconShadowFrame eye p)) rfl hr
    have hge : g.beacon.eye eye = { e with shadow := .hunting } := by
      rw [← hg]
      exact Beacon.eye_setEye _
    refine ⟨fun hf ha hi => ?_, fun hf ha hi => ?_, fun hn => ?_⟩
    · rw [show (decide (e.shadow = .hunting) || !e.uprightSince) = true by simpa using ha,
        Hub.shadowFrame_counts hf (by rw [hge]; exact hi), hge, ← hg] at hrun
      simpa [Hub.setEye] using hrun
    · rw [show (decide (e.shadow = .hunting) || !e.uprightSince) = true by simpa using ha,
        Hub.shadowFrame_flips hf (by rw [hge]; exact hi)] at hrun
      refine ⟨_, hrun, ?_, ?_, Hub.planHas_setPlan_self .., ?_⟩
      · rw [Hub.flipEye_eye, hge]
      · rw [Hub.flipEye_flips, ← hg]
        exact congrArg sat8 (Beacon.setEye_counts _).2.1
      · rw [← hg]
        simp [Hub.flipEye_frame]
    · rw [Hub.shadowFrame_drops (hn.imp_right fun hn => by simpa using hn), ← hg] at hrun
      exact hrun

/-! ## The decoders (R155) -/

/-- A nominal bit: a space of its length and a mark. -/
def Decoder.bit (d : Decoder) (b : Bool) : Decoder := ((d.element false (if b then 49 else 16)).1.element true 16).1

/-- The space of a bit in nominal duration says which it is. -/
theorem Decoder.element_space (bits : List Bool) (b : Bool) :
    (Decoder.space bits).element false (if b then 49 else 16) = (.mark bits b, none) := by
  cases b with
  | true =>
    have h1 : lasts 49 300 800 = false := by decide
    have h2 : lasts 49 1200 1800 = true := by decide
    simp [Decoder.element, h1, h2]
  | false =>
    have h1 : lasts 16 300 800 = true := by decide
    simp [Decoder.element, h1]

/-- The mark after a bit's space takes the bit in. -/
theorem Decoder.element_mark (bits : List Bool) (b : Bool) :
    (Decoder.mark bits b).element true 16 =
      if bits.length = 15 then (.hunting, some (payloadOf (bits ++ [b]))) else (.space (bits ++ [b]), none) := by
  have h1 : lasts 16 300 700 = true := by decide
  simp [Decoder.element, h1]

theorem Decoder.bits_before (bits more : List Bool) (hl : bits.length + more.length ≤ 15) :
    more.foldl Decoder.bit (.space bits) = .space (bits ++ more) := by
  induction more generalizing bits with
  | nil => rw [List.append_nil, List.foldl_nil]
  | cons b more ih =>
    rw [List.length_cons] at hl
    have hb : (Decoder.space bits).bit b = .space (bits ++ [b]) := by
      rw [Decoder.bit, Decoder.element_space, Decoder.element_mark, if_neg (by omega)]
    rw [List.foldl_cons, hb, ih _ (by rw [List.length_append, List.length_singleton]; omega), List.append_assoc]
    rfl

/-- An eye with an element measured by both its decoders (R155). -/
def Eye.measured (e : Eye) (mark : Bool) (periods : Nat) : Eye :=
  { e with
    primary := (e.primary.element mark periods).1, shadow := (e.shadow.element (!mark) periods).1
    uprightSince := e.uprightSince && decide ((e.shadow.element (!mark) periods).1 ≠ .space []) }

section
variable {h : Hub} {side : Side} {high : Bool} {periods : Nat}
  (hs : ((h.beacon.eye side).shadow.element (!(high == (h.beacon.eye side).inverted)) periods).2 = none)
include hs

/-- Elements that complete nothing move the two decoders alone. -/
theorem Hub.element_quiet
    (hp : ((h.beacon.eye side).primary.element (high == (h.beacon.eye side).inverted) periods).2 = none) :
    h.element side high periods =
      h.setEye side ((h.beacon.eye side).measured (high == (h.beacon.eye side).inverted) periods) := by
  simp only [Hub.element, hp, hs, Option.elim_none]
  rfl

/-- An element that completes the primary decoder's payload alone. -/
theorem Hub.element_upright {p : BitVec 16}
    (hp : ((h.beacon.eye side).primary.element (high == (h.beacon.eye side).inverted) periods).2 = some p) :
    h.element side high periods =
      Hub.primaryFrame side p
        (h.setEye side ((h.beacon.eye side).measured (high == (h.beacon.eye side).inverted) periods)) := by
  simp only [Hub.element, hp, hs, Option.elim_none, Option.elim_some]
  rfl

end

/-- A decoder that completes a payload hunts again. -/
theorem Decoder.element_completes {d : Decoder} {mark : Bool} {periods : Nat} {p : BitVec 16}
    (hp : (d.element mark periods).2 = some p) : (d.element mark periods).1 = .hunting := by
  cases d with
  | hunting =>
    rw [Decoder.element] at hp
    split_ifs at hp
  | space bits =>
    rw [Decoder.element] at hp
    split_ifs at hp
  | mark bits b =>
    rw [Decoder.element] at hp ⊢
    split_ifs at hp ⊢
    rfl

/-- Settles O30: both decoders measure the element, and a train's bits collect in the primary one. -/
theorem elementsFeedBothDecoders : Obligations.ElementsFeedBothDecoders := by
  refine ⟨fun s eye high periods hr => ?_, fun s eye high periods p f k hr => ?_, fun bits last hl => ?_⟩
  · intro e mark hp hs
    have hrun : Runs (.beaconElement eye high periods) s (s.hub.element eye high periods) := runs_of_run rfl hr
    rw [Hub.element_quiet hs hp] at hrun
    refine ⟨_, hrun, ?_, ?_, ?_, ?_, rfl⟩ <;>
      · rw [Hub.setEye, Beacon.eye_setEye]
        rfl
  · intro e mark hp hs hf hk
    have hrun : Runs (.beaconElement eye high periods) s (s.hub.element eye high periods) := runs_of_run rfl hr
    rw [Hub.element_upright hs hp, Hub.primaryFrame_valid hf] at hrun
    obtain ⟨hb, hflag, -⟩ := Hub.uprightFrame_taken (f := f) (side := eye) (h := s.hub.setEye eye (e.measured mark periods))
      (((Beacon.setEye_counts _).2.2 p).trans hk)
    have hprimary : (e.measured mark periods).primary = .hunting := Decoder.element_completes hp
    have heye : (s.hub.setEye eye (e.measured mark periods)).beacon.eye eye = e.measured mark periods := Beacon.eye_setEye _
    rw [heye] at hb
    refine ⟨_, hrun, ?_, ?_, ?_, ?_, hflag⟩ <;> rw [hb, Beacon.eye_setEye]
    · exact hprimary
    all_goals rfl
  · intro start bit before
    have hstart : start = .space [] := by
      have h98 : lasts 98 2500 3500 = true := by decide
      simp [start, Decoder.element, h98]
    have hbefore : before = .space bits := by
      have hb := Decoder.bits_before [] bits (by simp [hl])
      rw [List.nil_append] at hb
      rw [← hb, ← hstart]
      rfl
    rw [hbefore, Decoder.element_space, Decoder.element_mark, if_pos hl]


end Sys2Proof.Machine
end

section
/-!
The ports' transmissions, frames and reports (O31, O32, O33, O34).
-/

namespace Sys2Proof.Machine

/-! ## Reads and frames sent (R183 to R186, R190) -/

/-- A frame's bits on the Drive link: each byte in eleven bits, the first marked alone (R187). -/
theorem linkChars_bits (l : List Byte) :
    (linkChars l).flatMap (·.bits) =
      l.zipIdx.flatMap fun p => false :: (List.range 8).map p.1.getLsbD ++ [decide (p.2 = 0), true] := by
  have hrest (rest : List Byte) (k : Nat) :
      (rest.map fun b => (⟨b, false, true⟩ : LinkChar)).flatMap (·.bits) =
        (rest.zipIdx (k + 1)).flatMap fun p => false :: (List.range 8).map p.1.getLsbD ++ [decide (p.2 = 0), true] := by
    induction rest generalizing k with
    | nil => rfl
    | cons b rest ih =>
      rw [List.zipIdx_cons, List.map_cons, List.flatMap_cons, List.flatMap_cons, ih (k + 1)]
      rfl
  cases l with
  | nil => rfl
  | cons b rest =>
    rw [List.zipIdx_cons, linkChars, List.flatMap_cons, List.flatMap_cons, hrest rest 0]
    rfl

section
variable {h : Hub} {n : Nat} {r : Reply}

theorem Hub.planRead_whole (hs : h.plan.slot = .ready r) (hn : r.encode.length ≤ n) :
    h.planRead n = ({ h with plan := { slot := .empty, out := r.encode } } : Hub).clearPlan .replyReady := by
  simp only [Hub.planRead, hs, if_pos hn, List.take_of_length_le hn]

theorem Hub.planRead_cut (hs : h.plan.slot = .ready r) (hn : n < r.encode.length) :
    h.planRead n = { h with plan.out := r.encode.take n } := by
  simp only [Hub.planRead, hs, if_neg (Nat.not_le.mpr hn)]

theorem Hub.planRead_none (hs : ∀ q, h.plan.slot ≠ .ready q) :
    h.planRead n = { h with plan.out := Reply.notReady.encode.take n } := by
  unfold Hub.planRead
  split
  · exact absurd ‹_› (hs _)
  all_goals rfl

theorem Hub.powerRead_whole (hs : h.power.slot = some r) (hn : r.encode.length ≤ n) :
    h.powerRead n = ({ h with power := { slot := none, out := r.encode } } : Hub).clearPower .replyReady := by
  simp only [Hub.powerRead, hs, if_pos hn, List.take_of_length_le hn]

theorem Hub.powerRead_cut (hs : h.power.slot = some r) (hn : n < r.encode.length) :
    h.powerRead n = { h with power.out := r.encode.take n } := by
  simp only [Hub.powerRead, hs, if_neg (Nat.not_le.mpr hn)]

theorem Hub.powerRead_none (hs : h.power.slot = none) :
    h.powerRead n = { h with power.out := Reply.notReady.encode.take n } := by
  simp only [Hub.powerRead, hs]

end

/-- Settles O31: each transaction's cases, and the bits of the frame that has gone out. -/
theorem transmissionsCarryTheirBytes : Obligations.TransmissionsCarryTheirBytes := by
  refine ⟨fun s n r hr => ?_, fun s f hr hf => ?_⟩
  · have hplan : Runs (.planReplyRead n) s (s.hub.planRead n) := runs_of_run rfl hr
    have hpower : Runs (.powerReplyRead n) s (s.hub.powerRead n) := runs_of_run rfl hr
    refine ⟨fun hs hn => ?_, fun hs hn => ?_, fun hs => ?_, fun hs hn => ?_, fun hs hn => ?_, fun hs => ?_, ?_,
      fun c h1 h2 h3 => ?_⟩
    · rwa [Hub.planRead_whole hs hn] at hplan
    · rwa [Hub.planRead_cut hs hn] at hplan
    · rwa [Hub.planRead_none hs] at hplan
    · rwa [Hub.powerRead_whole hs hn] at hpower
    · rwa [Hub.powerRead_cut hs hn] at hpower
    · rwa [Hub.powerRead_none hs] at hpower
    · exact runs_of_run (f := action (.flagPeek n)) rfl hr
    · have hother : action (.planOtherCommand c n) s.hub = { s.hub with plan.out := List.replicate n 0xFF#8 } :=
        if_neg (by simp [h1, h2, h3])
      exact hother ▸ runs_of_run (f := action (.planOtherCommand c n)) rfl hr
  · have hrun : Runs .driveFrameSent s s.hub.frameSent := runs_of_run rfl hr
    simp only [Hub.frameSent, hf, linkChars_bits] at hrun
    exact hrun

/-! ## Frames (R183 to R186) -/

theorem Hub.handIn_open {h : Hub} (hs : h.planOpen) (f : Hub → Hub) : h.handIn f = f h.clearSlot := by
  unfold Hub.handIn Hub.clearSlot
  cases hp : h.plan.slot with
  | inService v => simp [Hub.planOpen, PlanSlot.claims, hp] at hs
  | empty => rfl
  | ready r => rfl

theorem Hub.handIn_inService {h : Hub} (hs : h.plan.slot.claims = true) (f : Hub → Hub) :
    h.handIn f = h.setPlan .replyLost := by
  unfold Hub.handIn
  cases hp : h.plan.slot with
  | inService v => rfl
  | empty => simp [PlanSlot.claims, hp] at hs
  | ready r => simp [PlanSlot.claims, hp] at hs

section
variable {h : Hub} {code : Byte} {rest : List Byte} (hg : goodFrame (code :: rest) = false)
include hg

theorem Hub.frameError_plan : h.frameError .plan (code :: rest) = h.handIn (Hub.deny .plan code .frameError) :=
  if_neg (by simp [hg])

theorem Hub.frameError_power : h.frameError .power (code :: rest) = h.deny .power code .frameError :=
  if_neg (by simp [hg])

end

/-- Settles O32: a frame by its port and the slot. -/
theorem framesAreTakenOneAtATime : Obligations.FramesAreTakenOneAtATime := by
  refine ⟨fun s p code rest hr => ⟨fun hg ho => ?_, fun hg hs => ?_, fun hc ho => ?_⟩, fun s i p code len body hr hf =>
    ⟨fun ho hl => ?_, fun hp hs => ?_⟩⟩
  · have hrun : Runs (.frameError p (code :: rest)) s (s.hub.frameError p (code :: rest)) := runs_of_run rfl hr
    cases p with
    | power => rwa [Hub.frameError_power hg] at hrun
    | plan => rwa [Hub.frameError_plan hg, Hub.handIn_open (ho rfl)] at hrun
  · have hrun : Runs (.frameError .plan (code :: rest)) s (s.hub.frameError .plan (code :: rest)) := runs_of_run rfl hr
    rwa [Hub.frameError_plan hg, Hub.handIn_inService hs] at hrun
  · exact runs_requested (i := .unknownRequest p code rest) (by rw [requestFrame, if_neg (by simp only [hc]; decide)]) hr ho rfl
  · have hrun := runs_of_run (exec_of_requestFrame (s := s) hf) hr
    rwa [Hub.request_open ho, takeRequest, if_neg hl] at hrun
  · subst hp
    have hrun := runs_of_run (exec_of_requestFrame (s := s) hf) hr
    rwa [Hub.request_inService hs] at hrun

/-! ## STATUS (R194, R198) -/

/-- A part of some bytes, by the bytes before it. -/
theorem take_drop_middle {l a m z : List Byte} (hl : l = a ++ (m ++ z)) {i n : Nat} (ha : a.length = i) (hm : m.length = n) :
    (l.drop i).take n = m := by
  rw [hl, List.drop_left' ha, List.take_left' hm]

/-- A part of a block of some bytes, by the block's place and the part's place in it. -/
theorem take_drop_block {l A B Z : List Byte} {i : Nat} (hl : l = A ++ (B ++ Z)) (hA : A.length = i)
    {a m z : List Byte} (hB : B = a ++ (m ++ z)) {n j : Nat} (ha : a.length = j) (hm : m.length = n) :
    (l.drop (i + j)).take n = m := by
  refine take_drop_middle (a := A ++ a) (z := z ++ Z) ?_ (by rw [List.length_append, hA, ha]) hm
  rw [hl, hB]
  simp only [List.append_assoc]

@[simp] theorem be16_length (n : Nat) : (be16 n).length = 2 := rfl
@[simp] theorem be24_length (n : Nat) : (be24 n).length = 3 := rfl
@[simp] theorem be32_length (n : Nat) : (be32 n).length = 4 := rfl
@[simp] theorem be16s_length (i : Int) : (be16s i).length = 2 := rfl
@[simp] theorem be32s_length (i : Int) : (be32s i).length = 4 := rfl
@[simp] theorem zeros_length (n : Nat) : (zeros n).length = n := List.length_replicate

section
variable (h : Hub)

theorem Hub.poseBytes_length : h.poseBytes.length = 14 := rfl

theorem Hub.permitBytes_length : h.permitBytes.length = 12 := by
  unfold Hub.permitBytes
  cases h.permit.active <;> simp

theorem itemBytes_length (l : List Item) : (itemBytes l).length = 32 := by
  simp only [itemBytes, List.length_append, zeros_length]
  have := List.length_take_le 32 (l.flatMap (·.encode))
  omega

theorem Hub.queueBytes_length : h.queueBytes.length = 48 := by
  unfold Hub.queueBytes
  cases h.queue.records <;> simp [itemBytes_length]

/-- The bytes by which a Plan STATUS is longer (R198). -/
def statusExtra : Port → Nat
  | .plan => 2
  | .power => 0

theorem Hub.routeBytes_length (p : Port) : (h.routeBytes p).length = 10 + statusExtra p := by
  unfold Hub.routeBytes
  cases p <;> cases h.route.waypoints <;> simp [statusExtra]

theorem DockRecord.encode_length (d : DockRecord) : d.encode.length = 8 := rfl

theorem Hub.returnBytes_length : h.returnBytes.length = 18 := rfl

theorem Eye.encode_length (e : Eye) (ms : Nat) : (e.encode ms).length = 8 := rfl

/-- The load's, the scanner's, the store's, the table's and the link's part of the status. -/
def Hub.tailBytes : List Byte :=
  [flagByte h.scanner.averaged, byte h.store.stateCode] ++ be16 h.table.generation ++ [flagByte (!h.drive.up)]

end

/-- The status: its blocks, each after the bytes of those before it (R198). -/
theorem Hub.statusBody_blocks (h : Hub) (p : Port) :
    (∃ z, h.statusBody p = [] ++ (h.poseBytes ++ z))
    ∧ (∃ a z, a.length = 14 ∧ h.statusBody p = a ++ (h.permitBytes ++ z))
    ∧ (∃ a z, a.length = 26 ∧ h.statusBody p = a ++ (h.queueBytes ++ z))
    ∧ (∃ a z, a.length = 74 ∧ h.statusBody p = a ++ (h.routeBytes p ++ z))
    ∧ (∃ a z, a.length = 84 + statusExtra p ∧ h.statusBody p = a ++ (h.returnBytes ++ z))
    ∧ (∃ a z, a.length = 118 + statusExtra p ∧ h.statusBody p = a ++ ([byte h.load.bits, flagByte h.load.heavy] ++ z))
    ∧ ∃ a, a.length = 122 + statusExtra p ∧ h.statusBody p = a ++ h.tailBytes := by
  have hlengths := And.intro h.poseBytes_length (And.intro h.permitBytes_length (And.intro h.queueBytes_length
    (And.intro (h.routeBytes_length p) h.returnBytes_length)))
  obtain ⟨hp, hm, hq, hr, ht⟩ := hlengths
  have hbody : h.statusBody p =
      h.poseBytes ++ (h.permitBytes ++ (h.queueBytes ++ (h.routeBytes p ++ (h.returnBytes ++
        (h.beacon.left.encode h.time.ms ++ (h.beacon.right.encode h.time.ms ++
          ([byte h.load.bits, flagByte h.load.heavy] ++ (be16 (h.load.sagTimer.left h.time.ms) ++ h.tailBytes)))))))) := by
    simp only [Hub.statusBody, Hub.tailBytes, List.append_assoc]
  rw [hbody]
  refine ⟨⟨_, rfl⟩, ⟨h.poseBytes, _, hp, rfl⟩, ⟨h.poseBytes ++ h.permitBytes, _, ?_, (List.append_assoc ..).symm⟩,
    ⟨h.poseBytes ++ h.permitBytes ++ h.queueBytes, _, ?_, by simp only [List.append_assoc]; rfl⟩,
    ⟨h.poseBytes ++ h.permitBytes ++ h.queueBytes ++ h.routeBytes p, _, ?_, by simp only [List.append_assoc]; rfl⟩,
    ⟨h.poseBytes ++ h.permitBytes ++ h.queueBytes ++ h.routeBytes p ++ h.returnBytes
      ++ h.beacon.left.encode h.time.ms ++ h.beacon.right.encode h.time.ms, _, ?_, by simp only [List.append_assoc]; rfl⟩,
    ⟨h.poseBytes ++ h.permitBytes ++ h.queueBytes ++ h.routeBytes p ++ h.returnBytes
      ++ h.beacon.left.encode h.time.ms ++ h.beacon.right.encode h.time.ms ++ [byte h.load.bits, flagByte h.load.heavy]
      ++ be16 (h.load.sagTimer.left h.time.ms), ?_, by simp only [List.append_assoc]⟩⟩
  all_goals simp only [List.length_append, hp, hm, hq, hr, ht, Eye.encode_length, be16_length, List.length_cons, List.length_nil]
  all_goals omega

/-- The cause set in its bits (R198). -/
theorem LoadSup.bits_eq (l : LoadSup) : l.bits = l.power.toNat + 2 * l.rug.toNat + 4 * l.sag.toNat := by
  unfold LoadSup.bits
  cases l.power <;> cases l.rug <;> cases l.sag <;> rfl

/-- The code of a pose state (R198). -/
def PoseState.code : PoseState → Byte
  | .tracking => 0x00#8
  | .lifted => 0x01#8
  | .lost _ => 0x02#8

/-- The code of the cause of a lost pose (R198). -/
def PoseState.lossCode : PoseState → Byte
  | .tracking => 0x00#8
  | .lifted => 0x00#8
  | .lost .start => 0x00#8
  | .lost .lift => 0x01#8
  | .lost .range => 0x02#8
  | .lost .odometry => 0x03#8

section
variable (h : Hub)

theorem Hub.poseBytes_parts :
    h.poseBytes =
      (be32s (roundDiv h.odo.x 1000) ++ be32s (roundDiv h.odo.y 1000) ++ be16 h.odo.heading)
      ++ ([h.odo.pose.code, h.odo.pose.lossCode, flagByte h.odo.rangeSet, byte h.odo.floor.val] ++ []) := by
  unfold Hub.poseBytes
  rw [List.append_nil]
  cases h.odo.pose with
  | tracking => rfl
  | lifted => rfl
  | lost c => cases c <;> rfl

/-- The permit's bytes before those of the active permit. -/
def Hub.permitHead : List Byte :=
  [byte h.permit.state.ctorIdx, byte h.permit.holds.bits, flagByte h.permit.check.isSome, byte (causeCode h.permit.lastStop),
    flagByte h.permit.driveStopped, flagByte h.driveInhibit]

theorem Hub.permitBytes_none (ha : h.permit.active = none) : h.permitBytes = h.permitHead ++ (zeros 6 ++ []) := by
  simp only [Hub.permitBytes, Hub.permitHead, ha, List.append_nil]

theorem Hub.permitBytes_some {r : PermitRecord} (ha : h.permit.active = some r) :
    h.permitBytes =
      h.permitHead ++ ((byte r.kind.ctorIdx :: be16s r.speed ++ be16s r.turn) ++ [byte (h.permit.expiry.left h.time.ms)]) := by
  simp only [Hub.permitBytes, Hub.permitHead, ha]

theorem Hub.permitBytes_head : ∃ z, h.permitBytes = h.permitHead ++ z := by
  cases ha : h.permit.active with
  | none => exact ⟨_, h.permitBytes_none ha⟩
  | some r => exact ⟨_, h.permitBytes_some ha⟩

theorem Hub.queueBytes_counts :
    ∃ z, h.queueBytes = (byte h.queue.count :: be16 h.queue.bytes ++ [flagByte h.queue.backlog]) ++ z := by
  unfold Hub.queueBytes
  cases hq : h.queue.records with
  | nil => exact ⟨_, rfl⟩
  | cons r l =>
    dsimp only
    generalize (h.time.ms + 4294967296 - r.stamp) % 4294967296 = age
    exact ⟨_, by rw [List.append_assoc, List.append_assoc, List.append_assoc, List.append_assoc]⟩

theorem Hub.routeBytes_count (p : Port) : ∃ z, h.routeBytes p = [] ++ ([byte h.route.waypoints.length] ++ z) := ⟨_, rfl⟩

theorem Hub.routeBytes_advances (p : Port) :
    ∃ a z, a.length = 7 ∧ h.routeBytes p = a ++ (be16 h.route.advances ++ z) := by
  unfold Hub.routeBytes
  cases h.route.waypoints with
  | nil => exact ⟨byte 0 :: zeros 6, _, rfl, by simp only [List.append_assoc]; rfl⟩
  | cons w l =>
    exact ⟨byte (w :: l).length :: (be16s w.x ++ be16s w.y ++ [byte w.floor.val, byte w.tag]), _, rfl,
      by simp only [List.append_assoc]; rfl⟩

/-- The trail's and the return's bytes: the crumbs' count first. -/
theorem Hub.returnBytes_parts :
    ∃ z, h.returnBytes =
      ([byte h.trail.crumbs.length] ++ be16 (codeOf h.trail.crumbs.getLast? (·.number)))
      ++ ((be16 h.trail.pushCounter ++ [byte h.dock.state.ctorIdx, byte h.dock.fallbacks]) ++ z) := by
  refine ⟨h.dock.record.encode ++ [flagByte h.dockUsable] ++ be16 (h.dock.timer.left h.time.ms), ?_⟩
  simp only [Hub.returnBytes, List.append_assoc, List.cons_append, List.nil_append]

end

/-- Settles O33: the status is its blocks one after another, each with its fields at their places. -/
theorem statusReportsAndChangesNothing : Obligations.StatusReportsAndChangesNothing := by
  intro s p hr ho h body after
  have hrun : Runs (.status p []) s (h.reply p ⟨.done, 0x01#8, body⟩) := runs_requested rfl hr ho rfl
  have hafter : after = statusExtra p := by cases p <;> rfl
  have hodo : s.hub.odo = h.odo := by simp [h]
  have hpermit : s.hub.permit = h.permit := by simp [h]
  have hinh : s.hub.driveInhibit = h.driveInhibit := by simp [h, Hub.driveInhibit]
  have hqueue : s.hub.queue = h.queue := by simp [h]
  have hways : s.hub.route.waypoints = h.route.waypoints := by simp [h]
  have hadv : s.hub.route.advances = h.route.advances := by simp [h]
  have htrail : s.hub.trail = h.trail := by simp [h]
  have hdock : s.hub.dock = h.dock := by simp [h]
  have hload : s.hub.load = h.load := by simp [h]
  have hscan : s.hub.scanner = h.scanner := by simp [h]
  have hstore : s.hub.store = h.store := by simp [h]
  have htable : s.hub.table = h.table := by simp [h]
  have hdrive : s.hub.drive = h.drive := by simp [h]
  rw [hafter, hodo, hpermit, hinh, hqueue, hways, hadv, htrail, hdock, hload, hscan, hstore, htable, hdrive]
  obtain ⟨⟨zp, hP⟩, ⟨am, zm, ham, hM⟩, ⟨aq, zq, haq, hQ⟩, ⟨ar, zr, har, hR⟩, ⟨at', zt, hat, hT⟩, ⟨ac, zc, hac, hC⟩, ⟨ae, hae, hE⟩⟩ :=
    h.statusBody_blocks p
  obtain ⟨za, hA⟩ := h.permitBytes_head
  refine ⟨hrun, ?_, ?_, ?_, ?_, ?_, fun ha => ?_, fun r ha => ?_, ?_, ?_, ?_, ?_, ?_, ?_, ?_⟩
  · rw [show body = _ from hE, List.length_append, hae]
    simp only [Hub.tailBytes, List.length_append, be16_length, List.length_cons, List.length_nil]
    omega
  · exact take_drop_block (i := 0) (j := 0) (a := []) hP rfl h.poseBytes_parts rfl rfl
  · exact take_drop_block (i := 0) (j := 10) hP rfl h.poseBytes_parts rfl rfl
  · refine (take_drop_block (j := 0) (a := []) (m := [_, _, _]) hM ham hA rfl rfl).trans ?_
    cases h.permit.state <;> rfl
  · exact take_drop_block (j := 3) (a := [_, _, _]) (m := [_, _, _]) hM ham hA rfl rfl
  · exact take_drop_block (j := 6) hM ham (h.permitBytes_none ha) rfl rfl
  · refine (take_drop_block (j := 6) hM ham (h.permitBytes_some ha) rfl rfl).trans ?_
    cases r.kind <;> rfl
  · obtain ⟨z, hz⟩ := h.queueBytes_counts
    exact take_drop_block (j := 0) (a := []) hQ haq hz rfl rfl
  · obtain ⟨z, hz⟩ := h.routeBytes_count p
    exact take_drop_block (j := 0) hR har hz rfl rfl
  · obtain ⟨a, z, ha, hz⟩ := h.routeBytes_advances p
    exact take_drop_block (i := 74) (j := 7) hR har hz ha rfl
  · obtain ⟨z, hz⟩ := h.returnBytes_parts
    rw [List.append_assoc] at hz
    exact take_drop_block (j := 0) (a := []) hT hat hz List.length_nil List.length_singleton
  · obtain ⟨z, hz⟩ := h.returnBytes_parts
    rw [Nat.add_right_comm 84 3]
    refine (take_drop_block (j := 3) hT hat hz rfl rfl).trans ?_
    cases h.dock.state <;> rfl
  · rw [← LoadSup.bits_eq]
    exact take_drop_block (j := 0) (a := []) (m := [_, _]) hC hac rfl rfl rfl
  · rw [show body = _ from hE, List.drop_left' hae, Hub.tailBytes]
    cases hph : h.store.phase with
    | idle => simp only [Store.stateCode, hph]; rfl
    | load op => simp only [Store.stateCode, hph]; rfl
    | save op => cases hst : op.step <;> simp only [Store.stateCode, hph, hst] <;> rfl

/-! ## Flags, masks and counters (R192, R193) -/

theorem u24_eq (l : List Byte) (i : Nat) : u24 l i = 65536 * u8 l i + 256 * u8 l (i + 1) + u8 l (i + 2) :=
  (Nat.add_assoc ..).symm

theorem bitAt_zero (l : List Byte) (i : Nat) : bitAt l i 0 = decide (u8 l i % 2 = 1) := by
  rw [bitAt, Nat.testBit_zero]

section
variable {h : Hub} {body : List Byte}

theorem Hub.setMask_plan (hm : u8 body 0 = 0) :
    h.setMask body = ({ h with att.planMask := BitVec.ofNat 17 (u24 body 1) } : Hub).reply .plan
      ⟨.done, 0x03#8, be24 (BitVec.ofNat 17 (u24 body 1)).toNat⟩ := by
  simp only [Hub.setMask, hm]
  rfl

theorem Hub.setMask_power (hm : u8 body 0 = 1) :
    h.setMask body = ({ h with att.powerMask := BitVec.ofNat 6 (u24 body 1) } : Hub).reply .plan
      ⟨.done, 0x03#8, be24 (BitVec.ofNat 6 (u24 body 1)).toNat⟩ := by
  simp only [Hub.setMask, hm]
  rfl

theorem Hub.setMask_refused (hm : 1 < u8 body 0) : h.setMask body = h.deny .plan 0x03#8 .badField := by
  unfold Hub.setMask
  split
  · omega
  · omega
  · rfl

end

/-- Settles O34: each request by its first byte. -/
theorem flagAndCounterRequests : Obligations.FlagAndCounterRequests := by
  intro s a b c d hr ho h sel mask counts low
  have hmask : 65536 * b.toNat + 256 * c.toNat + d.toNat = u24 [a, b, c, d] 1 := (u24_eq [a, b, c, d] 1).symm
  have hset : Runs (.setMask [a, b, c, d]) s (h.setMask [a, b, c, d]) := runs_requested rfl hr (fun _ => ho) rfl
  have hcounts : h.counterBytes = counts := by simp [h, Hub.counterBytes, counts]
  have hcount : Runs (.counters [a]) s
      ((if bitAt [a] 0 0 then h.clearCounters else h).done .plan 0x04#8 h.counterBytes) :=
    runs_requested rfl hr (fun _ => ho) rfl
  rw [hcounts, bitAt_zero, show u8 [a] 0 = a.toNat from rfl] at hcount
  refine ⟨?_, ?_, fun ha => ?_, fun ha => ?_, fun ha => ?_, fun ha => ?_, fun ha => ?_⟩
  · have hrun : Runs (.takeFlags .plan [a, b, c]) s (h.takeFlags .plan [a, b, c]) :=
      runs_requested rfl hr (fun _ => ho) rfl
    rw [Hub.takeFlags, u24_eq] at hrun
    exact hrun
  · exact runs_requested (i := .takeFlags .power [a]) (p := .power) rfl hr nofun rfl
  · rw [Hub.setMask_plan (body := [a, b, c, d]) ha, ← hmask] at hset
    exact hset
  · rw [Hub.setMask_power (body := [a, b, c, d]) ha, ← hmask] at hset
    exact hset
  · rw [Hub.setMask_refused (body := [a, b, c, d]) ha] at hset
    exact hset
  · rw [if_neg (by simp [ha])] at hcount
    exact hcount
  · rw [if_pos (decide_eq_true ha)] at hcount
    refine ⟨_, hcount, rfl, rfl, ?_, ?_, ?_, ?_, ?_, ?_, ?_⟩
    all_goals simp [h, Hub.clearCounters]

end Sys2Proof.Machine
end

section
/-!
The settings, and what the layouts read back (O35, O36).
-/

namespace Sys2Proof.Machine

/-! ## Numbers in bytes (R198) -/

theorem byte_small {n : Nat} (hn : n < 256) : (byte n).toNat = n := by
  rw [byte, BitVec.toNat_ofNat]
  exact Nat.mod_eq_of_lt hn

/-- Two bytes carry a number below 2^16. -/
theorem bytes_be16 {n : Nat} (hn : n < 65536) : 256 * (byte (n / 256)).toNat + (byte n).toNat = n := by
  rw [byte_small (Nat.div_lt_of_lt_mul hn), byte, BitVec.toNat_ofNat]
  omega

/-- Two bytes carry a signed number in range. -/
theorem bytes_be16s {i : Int} (hl : -32768 ≤ i) (hu : i < 32768) :
    signed16 (256 * (byte ((i % 65536).toNat / 256)).toNat + (byte (i % 65536).toNat).toNat) = i := by
  rw [bytes_be16 (by omega), signed16]
  split <;> omega

theorem flagByte_bit (b : Bool) : (flagByte b).toNat.testBit 0 = b := by cases b <;> rfl

theorem floorOf_val (f : Floor) : floorOf f.val = some f := dif_pos f.isLt

/-! ## The limits (R195) -/

/-- The ranges of SET_LIMITS. -/
abbrev Limits.ranged (l : Limits) : Prop :=
  50 ≤ l.planCeiling ∧ l.planCeiling ≤ 500 ∧ 100 ≤ l.radius ∧ l.radius ≤ 250 ∧ l.margin ≤ 100
  ∧ 500 ≤ l.decel ∧ l.decel ≤ 4000 ∧ (l.leasePeriod = 0 ∨ 100 ≤ l.leasePeriod ∧ l.leasePeriod ≤ 5000)
  ∧ 1 ≤ l.countT ∧ l.countT ≤ 40 ∧ 1 ≤ l.byteT ∧ l.byteT ≤ 10

/-- The settings some bytes give, whatever their ranges. -/
def Limits.ofBytes (b : List Byte) : Limits where
  planCeiling := u16 b 0
  radius := u8 b 2
  margin := u8 b 3
  decel := u16 b 4
  probe := bitAt b 6 0
  leasePeriod := u16 b 7
  returnOnLapse := bitAt b 9 0
  countT := u8 b 10
  byteT := u8 b 11

theorem Limits.parse_iff {b : List Byte} {l : Limits} : Limits.parse b = some l ↔ Limits.ofBytes b = l ∧ l.ranged := by
  have hp : Limits.parse b = if (Limits.ofBytes b).ranged then some (Limits.ofBytes b) else none := rfl
  rw [hp]
  split
  · next hr => exact ⟨fun h => ⟨Option.some.inj h, Option.some.inj h ▸ hr⟩, fun h => congrArg some h.1⟩
  · next hr => exact ⟨nofun, fun h => absurd (h.1 ▸ h.2) hr⟩

theorem Limits.ofBytes_encode {l : Limits} (hr : l.ranged) : Limits.ofBytes l.encode = l := by
  obtain ⟨-, h1, -, h2, h3, -, h4, h5, -, h6, -, h7⟩ := hr
  have hfields : Limits.ofBytes l.encode =
      { planCeiling := 256 * (byte (l.planCeiling / 256)).toNat + (byte l.planCeiling).toNat
        radius := (byte l.radius).toNat, margin := (byte l.margin).toNat
        decel := 256 * (byte (l.decel / 256)).toNat + (byte l.decel).toNat
        probe := (flagByte l.probe).toNat.testBit 0
        leasePeriod := 256 * (byte (l.leasePeriod / 256)).toNat + (byte l.leasePeriod).toNat
        returnOnLapse := (flagByte l.returnOnLapse).toNat.testBit 0
        countT := (byte l.countT).toNat, byteT := (byte l.byteT).toNat } := rfl
  rw [hfields, bytes_be16 (by omega), bytes_be16 (by omega), bytes_be16 (by omega), byte_small (by omega),
    byte_small (by omega), byte_small (by omega), byte_small (by omega), flagByte_bit, flagByte_bit]

/-! ## A waypoint (R122) -/

/-- The ranges of ROUTE_APPEND. -/
abbrev Waypoint.ranged (w : Waypoint) : Prop :=
  (mmInWorld w.x && mmInWorld w.y && decide (20 ≤ w.radius ∧ w.radius ≤ 500 ∧ 50 ≤ w.cap ∧ w.cap ≤ 500)) = true

/-- The waypoint some bytes give on a floor, whatever its ranges. -/
def Waypoint.ofBytes (b : List Byte) (floor : Floor) : Waypoint where
  x := s16 b 0
  y := s16 b 2
  floor := floor
  radius := u16 b 5
  cap := u16 b 7
  tag := u8 b 9
  stopAt := bitAt b 10 0
  probeAllowed := bitAt b 10 1

theorem Waypoint.parse_iff {b : List Byte} {w : Waypoint} :
    Waypoint.parse b = some w ↔ floorOf (u8 b 4) = some w.floor ∧ Waypoint.ofBytes b w.floor = w ∧ w.ranged := by
  have hp : Waypoint.parse b =
      (floorOf (u8 b 4)).bind fun f => if (Waypoint.ofBytes b f).ranged then some (Waypoint.ofBytes b f) else none := rfl
  rw [hp]
  cases floorOf (u8 b 4) with
  | none => exact ⟨nofun, fun h => absurd h.1 nofun⟩
  | some f =>
    rw [Option.bind_some]
    split
    · next hr =>
      refine ⟨fun h => ?_, fun ⟨hf, he, _⟩ => ?_⟩
      · cases h
        exact ⟨rfl, rfl, hr⟩
      · cases hf
        exact congrArg some he
    · next hr =>
      refine ⟨nofun, fun ⟨hf, he, hw⟩ => ?_⟩
      cases hf
      exact absurd (he ▸ hw) hr

/-- The two indications of a waypoint in their byte. -/
theorem waypointFlags_bits (a b : Bool) :
    (byte (packBits [a, b])).toNat.testBit 0 = a ∧ (byte (packBits [a, b])).toNat.testBit 1 = b := by
  cases a <;> cases b <;> exact ⟨rfl, rfl⟩

theorem Waypoint.encode_parses {w : Waypoint} (hr : w.ranged) (ht : w.tag < 256) : Waypoint.parse w.encode = some w := by
  have hr' := hr
  simp only [Waypoint.ranged, mmInWorld, Bool.and_eq_true, decide_eq_true_eq] at hr'
  obtain ⟨⟨⟨hx, hx'⟩, hy, hy'⟩, -, h1, -, h2⟩ := hr'
  have hfields : Waypoint.ofBytes w.encode w.floor =
      { x := signed16 (256 * (byte ((w.x % 65536).toNat / 256)).toNat + (byte (w.x % 65536).toNat).toNat)
        y := signed16 (256 * (byte ((w.y % 65536).toNat / 256)).toNat + (byte (w.y % 65536).toNat).toNat)
        floor := w.floor
        radius := 256 * (byte (w.radius / 256)).toNat + (byte w.radius).toNat
        cap := 256 * (byte (w.cap / 256)).toNat + (byte w.cap).toNat
        tag := (byte w.tag).toNat
        stopAt := (byte (packBits [w.stopAt, w.probeAllowed])).toNat.testBit 0
        probeAllowed := (byte (packBits [w.stopAt, w.probeAllowed])).toNat.testBit 1 } := rfl
  refine Waypoint.parse_iff.mpr ⟨?_, ?_, hr⟩
  · have h4 : u8 w.encode 4 = (byte w.floor.val).toNat := rfl
    rw [h4, byte_small (by have := w.floor.isLt; omega), floorOf_val]
  · obtain ⟨hs, hp⟩ := waypointFlags_bits w.stopAt w.probeAllowed
    rw [hfields, bytes_be16s (by omega) (by omega), bytes_be16s (by omega) (by omega), bytes_be16 (by omega),
      bytes_be16 (by omega), byte_small ht, hs, hp]

/-! ## An image entry (R174, R176) -/

theorem HazardClass.ofCode_ctorIdx (c : HazardClass) : HazardClass.ofCode c.ctorIdx = some c := by cases c <;> rfl

theorem Pile.ofCode_ctorIdx (p : Pile) : Pile.ofCode p.ctorIdx = some p := by cases p <;> rfl

/-- The floor and the six indications of an entry in their byte. -/
theorem entryFlags_bits (f : Floor) (a b c d e g : Bool) :
    (byte (f.val + 4 * packBits [a, b, c, d, e, g])).toNat % 4 = f.val
    ∧ (byte (f.val + 4 * packBits [a, b, c, d, e, g])).toNat.testBit 2 = a
    ∧ (byte (f.val + 4 * packBits [a, b, c, d, e, g])).toNat.testBit 3 = b
    ∧ (byte (f.val + 4 * packBits [a, b, c, d, e, g])).toNat.testBit 4 = c
    ∧ (byte (f.val + 4 * packBits [a, b, c, d, e, g])).toNat.testBit 5 = d
    ∧ (byte (f.val + 4 * packBits [a, b, c, d, e, g])).toNat.testBit 6 = e
    ∧ (byte (f.val + 4 * packBits [a, b, c, d, e, g])).toNat.testBit 7 = g := by
  revert f a b c d e g
  decide +kernel

/-- The origin's indication. -/
theorem origin_bit (o : Origin) : (if decide (o = .planned) = true then Origin.planned else .sensed) = o := by
  cases o <;> rfl

/-- What a legal entry's numbers satisfy (R1). -/
theorem Entry.legal_ranges {e : Entry} (hl : e.legal = true) :
    (e.width < 256 ∧ e.height < 256 ∧ e.confidence < 256 ∧ e.stamp < 65536)
    ∧ (-32768 ≤ e.x0 ∧ e.x0 < 32768 ∧ -32768 ≤ e.y0 ∧ e.y0 < 32768)
    ∧ e.rug.isSome = decide (e.cls = .rug) ∧ ∀ z, e.zone = some z → z < 256 := by
  simp only [Entry.legal, Bool.and_eq_true, decide_eq_true_eq, beq_iff_eq] at hl
  obtain ⟨⟨⟨⟨⟨⟨⟨hsize, hplace⟩, hconf⟩, hstamp⟩, hrug⟩, -⟩, hzone⟩, -⟩ := hl
  refine ⟨⟨by omega, by omega, by omega, by omega⟩, ⟨by omega, by omega, by omega, by omega⟩, hrug, fun z hz => ?_⟩
  rw [hz] at hzone
  have := of_decide_eq_true hzone
  omega

/-- The rug attributes are read back from their indications and the pile's byte. -/
theorem rugOf_encode (r : Option RugAttrs) :
    rugOf r.isSome ((r.map (·.dark)).getD false) ((r.map (·.brushLift)).getD false)
      (byte ((r.map (·.pile.ctorIdx)).getD 0)).toNat = some r := by
  cases r with
  | none => rfl
  | some r =>
    have hp : (byte r.pile.ctorIdx).toNat = r.pile.ctorIdx := by cases r.pile <;> rfl
    simp [rugOf, hp, Pile.ofCode_ctorIdx]

theorem Entry.decode_of {e : Entry} {body : List Byte} (hl : e.legal = true)
    (hcls : HazardClass.ofCode (u8 body 0) = some e.cls) (hfloor : floorOf (u8 body 1 % 4) = some e.floor)
    (hrug : rugOf (bitAt body 1 4) (bitAt body 1 5) (bitAt body 1 6) (u8 body 9) = some e.rug)
    (horigin : (if bitAt body 1 2 then Origin.planned else .sensed) = e.origin) (hx : s16 body 2 = e.x0)
    (hy : s16 body 4 = e.y0) (hw : u8 body 6 = e.width) (hh : u8 body 7 = e.height) (hc : u8 body 8 = e.confidence)
    (hp : bitAt body 1 3 = e.pinned) (hz : (if bitAt body 1 7 then some (u8 body 10) else none) = e.zone)
    (hs : u16 body 11 = e.stamp) : Entry.decode body = some e := by
  simp only [Entry.decode, hcls, hfloor, hrug, horigin, hx, hy, hw, hh, hc, hp, hz, hs, Option.bind_eq_bind,
    Option.bind_some]
  exact if_pos hl

theorem Entry.decode_encode {e : Entry} (hl : e.legal = true) : Entry.decode e.encode = some e := by
  obtain ⟨⟨hw, hh, hc, hs⟩, ⟨hx, hx', hy, hy'⟩, -, hz⟩ := Entry.legal_ranges hl
  have hcls : (byte e.cls.ctorIdx).toNat = e.cls.ctorIdx := by cases e.cls <;> rfl
  generalize hd : (e.rug.map (·.dark)).getD false = dark
  generalize hb : (e.rug.map (·.brushLift)).getD false = lift
  obtain ⟨hfloor, horigin, hpinned, hpresent, hdark, hlift, hzoned⟩ :=
    entryFlags_bits e.floor (e.origin = .planned) e.pinned e.rug.isSome dark lift e.zone.isSome
  have hrug : rugOf e.rug.isSome dark lift (byte ((e.rug.map (·.pile.ctorIdx)).getD 0)).toNat = some e.rug := by
    rw [← hd, ← hb]
    exact rugOf_encode e.rug
  have hzone : (if e.zone.isSome = true then some (byte (e.zone.getD 0)).toNat else none) = e.zone := by
    cases hzs : e.zone with
    | none => rfl
    | some z => exact congrArg some (byte_small (hz z hzs))
  have hflags : u8 e.encode 1 =
      (byte (e.floor.val + 4 * packBits [decide (e.origin = .planned), e.pinned, e.rug.isSome, dark, lift, e.zone.isSome])).toNat := by
    rw [← hd, ← hb]
    rfl
  have hbit (k : Nat) : bitAt e.encode 1 k = (u8 e.encode 1).testBit k := rfl
  refine Entry.decode_of hl ?_ ?_ ?_ ?_ (bytes_be16s hx hx') (bytes_be16s hy hy') (byte_small hw) (byte_small hh)
    (byte_small hc) ?_ ?_ (bytes_be16 hs)
  · exact (congrArg _ hcls).trans (HazardClass.ofCode_ctorIdx _)
  · rw [hflags, hfloor, floorOf_val]
  · rw [hbit, hbit, hbit, hflags, hpresent, hdark, hlift]
    exact hrug
  · rw [hbit, hflags, horigin]
    exact origin_bit _
  · rw [hbit, hflags, hpinned]
  · rw [hbit, hflags, hzoned]
    exact hzone

/-- A hunting receiver hears an EVENT whole. -/
theorem hear_event (run : Bool) (code argument : Byte) {e : LinkEvent}
    (hj : judgeFrame .event (eventBytes code argument) = e) :
    (DriveRx.hunting run).hear (linkChars (eventBytes code argument)) = some (.hunting false, e) := by
  obtain ⟨crc, hb⟩ := event_bytes code argument
  rw [hb] at hj ⊢
  rw [← hj]
  exact hear_frame (rx := .hunting run) (f := .event) (rest := [code, argument, crc]) rfl nofun rfl

/-- Settles O36: each layout's fields are read from the bytes they were written in. -/
theorem layoutsReadBackWhatTheyWrote : Obligations.LayoutsReadBackWhatTheyWrote := by
  refine ⟨fun b l hl => ?_, fun b w hw => ?_, fun e hl => ⟨rfl, Entry.decode_encode hl⟩, fun a run => ⟨rfl, ?_⟩,
    fun run argument p => ⟨?_, ?_, ?_⟩⟩
  · obtain ⟨-, hr⟩ := Limits.parse_iff.mp hl
    exact Limits.parse_iff.mpr ⟨Limits.ofBytes_encode hr, hr⟩
  · obtain ⟨-, he, hr⟩ := Waypoint.parse_iff.mp hw
    exact Waypoint.encode_parses hr (by rw [← he]; exact BitVec.isLt _)
  · obtain ⟨rest, hb, hlen⟩ : ∃ rest, a.encode = LinkFrame.ask.type :: rest ∧ rest.length + 1 = LinkFrame.ask.length :=
      ⟨_, rfl, rfl⟩
    have hj := judge_ask a
    rw [hb] at hj ⊢
    rw [← hj]
    exact hear_frame (rx := .hunting run) (f := .ask) rfl (by rintro rfl; cases hlen) hlen
  · exact hear_event run _ _ (by rw [judge_event]; rfl)
  · exact hear_event run _ _ (by rw [judge_event]; cases p <;> rfl)
  · exact hear_event run _ _ (by rw [judge_event]; rfl)

/-! ## SET_SENSORS and SET_LIMITS (R43, R195) -/

/-- The lease after SET_LIMITS: a changed period starts it, a period of 0 stops it (R131). -/
theorem Hub.releaseLease_route (h : Hub) (old : Nat) :
    (h.limits.leasePeriod = old → (h.releaseLease old).route = h.route)
    ∧ (h.limits.leasePeriod ≠ old → h.limits.leasePeriod = 0 →
      (h.releaseLease old).route = { h.route with lease := .off, leaseTimer := none })
    ∧ (h.limits.leasePeriod ≠ old → h.limits.leasePeriod ≠ 0 →
      (h.releaseLease old).route =
        { h.route with lease := .running, leaseTimer := some ⟨h.time.ms, h.limits.leasePeriod⟩ }) := by
  unfold Hub.releaseLease
  refine ⟨fun he => ?_, fun he hz => ?_, fun he hz => ?_⟩
  · simp [he]
  · simp only [if_neg he, if_pos hz]
  · simp only [if_neg he, if_neg hz]
    rfl

/-- The hub with new limits taken, before the answer (R195). -/
def Hub.limited (h : Hub) (l : Limits) : Hub :=
  if l.countT = h.limits.countT ∧ l.byteT = h.limits.byteT then
    { h with limits := l }.releaseLease h.limits.leasePeriod
  else ({ h with limits := l }.releaseLease h.limits.leasePeriod).testBacklog

theorem Hub.setLimits_taken {h : Hub} {body : List Byte} {l : Limits} (hl : Limits.parse body = some l) :
    h.setLimits body = (h.limited l).reply .plan ⟨.done, 0x05#8, l.encode⟩ := by
  simp only [Hub.setLimits, hl]
  rfl

theorem Hub.limited_parts (h : Hub) (l : Limits) :
    (h.limited l).limits = l ∧ (h.limited l).route = (Hub.releaseLease h.limits.leasePeriod { h with limits := l }).route
    ∧ (h.limited l).queue.backlog =
        (if l.countT = h.limits.countT ∧ l.byteT = h.limits.byteT then h.queue.backlog
          else backlogAfter h.queue.backlog h.queue.count h.queue.bytes l.countT l.byteT)
    ∧ (h.limited l).queue.records = h.queue.records ∧ (h.limited l).permit = h.permit ∧ (h.limited l).table = h.table := by
  unfold Hub.limited
  split
  · simp
  · refine ⟨by simp, by simp, ?_, by simp, by simp, by simp⟩
    rw [Hub.testBacklog_queue]
    simp

/-- Settles O35: the settings parsed are taken whole, or none is. -/
theorem settingsAreTakenWhole : Obligations.SettingsAreTakenWhole := by
  intro s body hr ho h
  refine ⟨fun hb hn => ?_, fun n hb hn => ?_, fun hb hn => ?_, fun l hb hl => ?_⟩
  · have hrun : Runs (.setSensors body) s (h.setSensors body) := runs_requested rfl hr (fun _ => ho) hb
    simp only [Hub.setSensors, hn] at hrun
    exact hrun
  · have hrun : Runs (.setSensors body) s (h.setSensors body) := runs_requested rfl hr (fun _ => ho) hb
    simp only [Hub.setSensors, hn] at hrun
    exact hrun
  · have hrun : Runs (.setLimits body) s (h.setLimits body) := runs_requested rfl hr (fun _ => ho) hb
    simp only [Hub.setLimits, hn] at hrun
    exact hrun
  · have hrun : Runs (.setLimits body) s (h.setLimits body) := runs_requested rfl hr (fun _ => ho) hb
    rw [Hub.setLimits_taken hl] at hrun
    obtain ⟨hlim, hroute, hback, hrec, hpermit, htable⟩ := h.limited_parts l
    have hlimits : h.limits = s.hub.limits := by simp [h]
    have hqueue : h.queue = s.hub.queue := by simp [h]
    have hways (st : LeaseState) (t : Timer) :
        ({ h.route with lease := st, leaseTimer := t } : Route) = { s.hub.route with lease := st, leaseTimer := t } := by
      simp [h]
    have htime : h.time = s.hub.time := by simp [h]
    obtain ⟨hsame, hoff, hon⟩ := Hub.releaseLease_route { h with limits := l } h.limits.leasePeriod
    refine ⟨_, hrun, by simp [hlim], rfl, fun he => ?_, fun he hz => ?_, fun he hz => ?_, ?_, ?_, ?_, ?_⟩
    · simpa [hroute] using hsame (by rw [hlimits]; exact he)
    · simpa [hroute, hways] using hoff (by rw [hlimits]; exact he) hz
    · simpa [hroute, hways, htime] using hon (by rw [hlimits]; exact he) hz
    · simp only [Hub.reply_frame, hback, hlimits, hqueue]
    · simp [hrec, hqueue]
    · simp [hpermit, h]
    · simp [htable, h]

end Sys2Proof.Machine
end
section
/-!
The map requests entering service, the route and the trail (R18 to R23, R124 to R126, R138 to R141).
-/

namespace Sys2Proof.Machine

/-! ## The Plan map requests taken (R18 to R23) -/

theorem Hub.serveEdit_eq (h : Hub) (code : Byte) (v : Service) :
    h.serveEdit code v = if h.loading then h.reply .plan ⟨.busy, code, []⟩ else { h with plan.slot := .inService v } := rfl

theorem Hub.mapConfirm_eq {h : Hub} {body : List Byte} {t : Tile} (ht : t = ⟨s16 body 1, s16 body 3⟩) :
    (t.onWorld = false ∨ floorOf (u8 body 0) = none → h.mapConfirm body = h.reply .plan ⟨.badField, 0x12#8, []⟩)
    ∧ ∀ f, t.onWorld = true → floorOf (u8 body 0) = some f →
      h.mapConfirm body = h.serveEdit 0x12#8 (.confirm f t (bitAt body 5 0)) := by
  subst ht
  refine ⟨fun hbad => ?_, fun f ht hf => ?_⟩
  · have hnone : (if Tile.onWorld ⟨s16 body 1, s16 body 3⟩ then floorOf (u8 body 0) else none) = none := by
      rcases hbad with ht | hf
      · rw [ht]
        rfl
      · rw [hf, ite_self]
    simp only [Hub.mapConfirm, hnone]
    rfl
  · simp only [Hub.mapConfirm, ht, hf, if_true]

/-- Whether the fields of a query beside its floor are legal (R22). -/
def queryLegal (body : List Byte) : Bool :=
  rectLegal (s16 body 1) (s16 body 3) (u16 body 5) (u16 body 7) && decide (u16 body 9 ≤ 1023)

theorem Hub.mapQuery_eq (h : Hub) (body : List Byte) :
    (queryLegal body = false ∨ floorOf (u8 body 0) = none → h.mapQuery body = h.reply .plan ⟨.badField, 0x13#8, []⟩)
    ∧ ∀ f, queryLegal body = true → floorOf (u8 body 0) = some f →
      h.mapQuery body =
        h.queryNext f (s16 body 1) (s16 body 3) (u16 body 5) (u16 body 7) (u16 body 9) [] := by
  refine ⟨fun hbad => ?_, fun f hg hf => ?_⟩
  · have hnone : (if queryLegal body then floorOf (u8 body 0) else none) = none := by
      rcases hbad with hg | hf
      · rw [hg]
        rfl
      · rw [hf, ite_self]
    simp only [Hub.mapQuery, show (rectLegal (s16 body 1) (s16 body 3) (u16 body 5) (u16 body 7)
      && decide (u16 body 9 ≤ 1023)) = queryLegal body from rfl, hnone]
    rfl
  · simp only [Hub.mapQuery, show (rectLegal (s16 body 1) (s16 body 3) (u16 body 5) (u16 body 7)
      && decide (u16 body 9 ≤ 1023)) = true from hg, hf, if_true]

/-- A query goes on to the next occupied slot, or answers END (R22). -/
theorem Hub.queryNext_eq (h : Hub) (f : Floor) (x y : Int) (w t lo : Nat) (found : List (Nat × Entry)) :
    (∀ slot, h.table.slots.nextOccupied lo = some slot →
      h.queryNext f x y w t lo found = h.serve (.query f x y w t slot found))
    ∧ (h.table.slots.nextOccupied lo = none → h.queryNext f x y w t lo found = h.answerQuery found none) := by
  refine ⟨fun slot hn => ?_, fun hn => ?_⟩ <;> simp only [Hub.queryNext, hn]

/-- A clear goes on to the next occupied slot, or answers (R23). -/
theorem Hub.clearNext_eq (h : Hub) (f : Floor) (lo n : Nat) (last : Option Nat) :
    (∀ slot, h.table.slots.nextOccupied lo = some slot →
      h.clearNext f lo n last = h.serve (.clear f slot false n last))
    ∧ (h.table.slots.nextOccupied lo = none →
      h.clearNext f lo n last = h.reply .plan ⟨.done, 0x14#8, be16 n ++ be16 (last.getD h.table.generation)⟩) := by
  refine ⟨fun slot hn => ?_, fun hn => ?_⟩ <;> simp only [Hub.clearNext, hn]
  rfl

/-- Settles O37: each map request is refused by its first failing test, or enters service. -/
theorem mapRequestsEnterService : Obligations.MapRequestsEnterService := by
  intro s body hr ho h refused served
  have hload : h.loading = s.hub.loading := by simp [h, Hub.loading]
  have htable : h.table = s.hub.table := by simp [h]
  refine ⟨fun hl => ?_, fun hl => ?_, fun hl => ?_, fun hl => ?_, fun hl => ?_⟩
  · have hrun : Runs (.mapPut body) s (h.mapPut body) := runs_requested rfl hr (fun _ => ho) hl
    refine ⟨fun hn => ?_, fun e he => ?_⟩
    · simp only [Hub.mapPut, hn] at hrun
      exact hrun
    · simp only [Hub.mapPut, he, Hub.serveEdit_eq, hload] at hrun
      exact hrun
  · have hrun : Runs (.mapDelete body) s (h.mapDelete body) := runs_requested rfl hr (fun _ => ho) hl
    refine ⟨fun hn => ?_, fun hn => ?_⟩
    · rw [Hub.mapDelete, if_neg (Nat.not_le_of_lt hn)] at hrun
      exact hrun
    · rw [Hub.mapDelete, if_pos hn, Hub.serveEdit_eq, hload] at hrun
      exact hrun
  · have hrun : Runs (.mapConfirm body) s (h.mapConfirm body) := runs_requested rfl hr (fun _ => ho) hl
    obtain ⟨hbad, hgood⟩ := Hub.mapConfirm_eq (h := h) (body := body) rfl
    refine ⟨fun hn => ?_, fun f ht hf => ?_⟩
    · rw [hbad hn] at hrun
      exact hrun
    · rw [hgood f ht hf, Hub.serveEdit_eq, hload] at hrun
      exact hrun
  · have hrun : Runs (.mapQuery body) s (h.mapQuery body) := runs_requested rfl hr (fun _ => ho) hl
    obtain ⟨hbad, hgood⟩ := h.mapQuery_eq body
    refine ⟨fun hn => ?_, fun f slot hg hf hs => ?_, fun f hg hf hs => ?_⟩
    · rw [hbad hn] at hrun
      exact hrun
    · rw [hgood f hg hf, (h.queryNext_eq _ _ _ _ _ _ _).1 slot (by rw [htable]; exact hs)] at hrun
      exact hrun
    · rw [hgood f hg hf, (h.queryNext_eq _ _ _ _ _ _ _).2 (by rw [htable]; exact hs)] at hrun
      exact hrun
  · have hrun : Runs (.mapClear body) s (h.mapClear body) := runs_requested rfl hr (fun _ => ho) hl
    refine ⟨fun hf => ?_, fun f hf hb => ?_, fun f slot hf hb hs => ?_, fun f hf hb hs => ?_⟩
    · simp only [Hub.mapClear, hf] at hrun
      exact hrun
    · simp only [Hub.mapClear, hf, hload, hb, if_true] at hrun
      exact hrun
    · simp only [Hub.mapClear, hf, hload, hb, Bool.false_eq_true, if_false] at hrun
      rw [(h.clearNext_eq _ _ _ _).1 slot (by rw [htable]; exact hs)] at hrun
      exact hrun
    · simp only [Hub.mapClear, hf, hload, hb, Bool.false_eq_true, if_false] at hrun
      rw [(h.clearNext_eq _ _ _ _).2 (by rw [htable]; exact hs), htable] at hrun
      exact hrun

/-! ## The route requests (R124 to R126) -/

theorem page_length {α : Type} (l : List α) (k : Nat) : (page l k).length = min 4 (l.length - k) := by
  simp [page]

/-- Settles O43: the tests of ROUTE_APPEND, then the flush and the pages. -/
theorem routeRequestsTestInOrder : Obligations.RouteRequestsTestInOrder := by
  intro s body hr ho h refused
  have hreturn : h.returning = s.hub.returning := by simp [h, Hub.returning]
  have hfloor : h.floor = s.hub.floor := by simp [h, Hub.floor]
  have hways : h.route.waypoints = s.hub.route.waypoints := by simp [h]
  have hadvances : h.route.advances = s.hub.route.advances := by simp [h]
  have hpermit : h.permit = s.hub.permit := by simp [h]
  refine ⟨fun hl hn => ?_, fun w hl hw => ?_, ?_, fun b hb => ?_, fun b hb => ?_⟩
  · have hrun : Runs (.routeAppend body) s (h.routeAppend body) := runs_requested rfl hr (fun _ => ho) hl
    simp only [Hub.routeAppend, hn] at hrun
    exact hrun
  · have hrun : Runs (.routeAppend body) s (h.routeAppend body) := runs_requested rfl hr (fun _ => ho) hl
    simp only [Hub.routeAppend, hw, hreturn, hfloor, hways] at hrun
    refine ⟨fun ht => ?_, fun ht hf => ?_, fun ht hf hq => ?_, fun ht hf hq => ?_⟩
    · rw [if_pos ht] at hrun
      exact hrun
    · rw [if_neg (by simp [ht]), if_pos hf] at hrun
      exact hrun
    · rw [if_neg (by simp [ht]), if_neg (by simp [hf]), if_pos hq] at hrun
      exact hrun
    · rw [if_neg (by simp [ht]), if_neg (by simp [hf]), if_neg (by omega)] at hrun
      intro holds
      have hkeeps : holds = { h.permit.holds with route := false } := by rw [hpermit]
      rw [hkeeps]
      simpa only [Hub.done, Hub.removeHold, Holds.set, List.length_append, List.length_singleton] using hrun
  · have hrun : Runs (.routeFlush []) s _ := runs_requested rfl hr (fun _ => ho) rfl
    rw [← hways]
    exact hrun
  · have hrun : Runs (.routeRead [b]) s (h.routeRead [b]) := runs_requested rfl hr (fun _ => ho) rfl
    rw [Hub.routeRead, if_neg (show ¬ u8 [b] 0 ≤ 15 from Nat.not_le_of_lt hb)] at hrun
    exact hrun
  · have hrun : Runs (.routeRead [b]) s (h.routeRead [b]) := runs_requested rfl hr (fun _ => ho) rfl
    rw [Hub.routeRead, if_pos (show u8 [b] 0 ≤ 15 from hb)] at hrun
    rw [← hways, ← hadvances, ← hpermit, ← page_length]
    exact hrun

/-! ## The trail (R138 to R141) -/

/-- The elements at even places of a list whose first place is even. -/
theorem evens_of_zipIdx {α : Type} : ∀ (l : List α) (k : Nat), k % 2 = 0 →
    ((((l.zipIdx k).filter fun p => p.2 % 2 = 0).map (·.1)).length = (l.length + 1) / 2)
    ∧ ∀ i, (((l.zipIdx k).filter fun p => p.2 % 2 = 0).map (·.1))[i]? = l[2 * i]?
  | [], _, _ => ⟨by simp, fun i => by simp⟩
  | [a], k, hk => by
    refine ⟨by simp [hk], fun i => ?_⟩
    cases i <;> simp [hk]
  | a :: b :: l, k, hk => by
    obtain ⟨hlen, hget⟩ := evens_of_zipIdx l (k + 2) (by omega)
    have hodd : ¬ (k + 1) % 2 = 0 := by omega
    have hsplit : (((a :: b :: l).zipIdx k).filter fun p => p.2 % 2 = 0).map (·.1)
        = a :: ((l.zipIdx (k + 2)).filter fun p => p.2 % 2 = 0).map (·.1) := by
      simp [List.zipIdx_cons, hk, hodd]
    rw [hsplit]
    refine ⟨by rw [List.length_cons, hlen, List.length_cons, List.length_cons]; omega, fun i => ?_⟩
    cases i with
    | zero => rfl
    | succ i => exact hget i

/-- Settles O44: the first 64 crumbs lose every second one, the last 64 stay. -/
theorem thinningKeepsNinetySixCrumbs : Obligations.ThinningKeepsNinetySixCrumbs := by
  intro h hfull
  obtain ⟨hlen, hget⟩ := evens_of_zipIdx (h.trail.crumbs.take 64) 0 rfl
  have htake : (h.trail.crumbs.take 64).length = 64 := by rw [List.length_take, hfull]; rfl
  rw [htake] at hlen
  refine ⟨?_, fun i hi => ?_, fun i hi => ?_, ?_, rfl⟩
  · rw [thinned, List.length_append, hlen, List.length_drop, hfull]
  · rw [thinned, List.getElem?_append_left (by omega), hget, List.getElem?_take_of_lt (by omega)]
  · rw [thinned, List.getElem?_append_right (by omega), hlen, List.getElem?_drop]
    congr 1
    omega
  · simp only [Hub.pushCrumb, if_pos (show 128 ≤ h.trail.crumbs.length by omega)]

/-- TRAIL_CLEAR's empty trail, with the crumb that TRACKING and IDLE lay on it (R137, R140). -/
theorem Hub.emptyTrail_pushTest (h : Hub) :
    h.emptyTrail.pushTest =
      { h with
        trail :=
          if h.tracking && decide (h.dock.state = .idle) then
            { crumbs := [⟨worldMm h.odo.x, worldMm h.odo.y, h.odo.heading, h.floor, h.trail.pushCounter⟩]
              pushCounter := (h.trail.pushCounter + 1) % 65536 }
          else { h.trail with crumbs := [] } } := by
  have hcond : (h.emptyTrail.tracking && decide (h.emptyTrail.dock.state = .idle))
      = (h.tracking && decide (h.dock.state = .idle)) := rfl
  unfold Hub.pushTest
  rw [hcond]
  split <;> rfl

/-- Settles O45: a page of crumbs, and a trail emptied. -/
theorem trailRequests : Obligations.TrailRequests := by
  intro s hr ho h
  have htrail : h.trail = s.hub.trail := by simp [h]
  have hdock : h.dock = s.hub.dock := by simp [h]
  have hodo : h.odo = s.hub.odo := by simp [h]
  have hreturn : h.returning = s.hub.returning := by simp [h, Hub.returning]
  refine ⟨fun b hb => ?_, fun b h1 h2 => ?_, fun ht => ?_, fun ht => ?_⟩
  · have hrun : Runs (.trailRead [b]) s (h.trailRead [b]) := runs_requested rfl hr (fun _ => ho) rfl
    have hout : ¬ (1 ≤ u8 [b] 0 ∧ u8 [b] 0 ≤ 128) := by
      have : u8 [b] 0 = b.toNat := rfl
      omega
    rw [Hub.trailRead, if_neg hout] at hrun
    exact hrun
  · have hrun : Runs (.trailRead [b]) s (h.trailRead [b]) := runs_requested rfl hr (fun _ => ho) rfl
    rw [Hub.trailRead, if_pos ⟨h1, h2⟩] at hrun
    rw [← htrail, ← hdock, ← page_length]
    exact hrun
  · have hrun : Runs (.trailClear []) s h.trailClear := runs_requested rfl hr (fun _ => ho) rfl
    rw [Hub.trailClear, hreturn, if_pos ht] at hrun
    exact hrun
  · have hrun : Runs (.trailClear []) s h.trailClear := runs_requested rfl hr (fun _ => ho) rfl
    rw [Hub.trailClear, hreturn, if_neg (by simp [ht]), Hub.emptyTrail_pushTest] at hrun
    intro crumb trail
    have hcrumb : crumb = ⟨worldMm h.odo.x, worldMm h.odo.y, h.odo.heading, h.floor, h.trail.pushCounter⟩ := by
      simp [crumb, h, Hub.floor]
    have hlaid : trail = h.emptyTrail.pushTest.trail := by
      rw [Hub.emptyTrail_pushTest, ← hcrumb, htrail, hdock, show h.tracking = s.hub.tracking by simp [h, Hub.tracking]]
    rw [hlaid, Hub.emptyTrail_pushTest, ← htrail]
    exact hrun

end Sys2Proof.Machine
end
section
/-!
The grants of the Plan map requests (R17, R19 to R23).
-/

namespace Sys2Proof.Machine

/-! ## The grant of a request in service -/

theorem Hub.inService_of {h : Hub} {v : Service} (hv : h.plan.slot = .inService v) : h.inService v.code = true := by
  simp [Hub.inService, hv, PlanSlot.service]

/-- A request in service with the grant acts, and the arbiter notes whether a further claim is to be made. -/
theorem runs_served {i : Instr} {s : State} {v : Service} {f : Hub → Hub}
    (he : exec i s = s.run (Hub.granted .plan (Hub.inService v.code) f)) (hr : s.hub.inReset = false)
    (hg : s.hub.grants .plan = true) (hv : s.hub.plan.slot = .inService v) :
    Runs i s ((f s.hub).afterGrant .plan) :=
  runs_of_grant he hr hg (Hub.inService_of hv)

/-- A request that is answered makes no further claim. -/
theorem Hub.afterGrant_ready {h : Hub} {r : Reply} (hs : h.plan.slot = .ready r) :
    h.afterGrant .plan = { h with table.resting := none } :=
  Hub.afterGrant_last h (by simp [Hub.unitHasClaim, Hub.hasClaim, hs, PlanSlot.claims])

/-- An answer on the Plan link leaves the Power link. -/
@[simp] theorem Hub.reply_plan_power (h : Hub) (r : Reply) : (h.reply .plan r).power = h.power := rfl

/-! ## MAP_PUT (R17, R19) -/

/-- The hub after a MAP_PUT's entry stands in its slot and its answer is formed, before it notifies. -/
def Hub.putDone (h : Hub) (slot : Nat) (e : Entry) : Hub :=
  Hub.reply .plan ⟨.done, 0x10#8, be16 slot ++ be16 ((h.table.generation + 1) % 65536)⟩
    (h.createIn slot { e with stamp := h.time.secs })

theorem Hub.putReports_putDone (h : Hub) (slot : Nat) (e : Entry) :
    (h.putDone slot e).putReports e =
      (decide (e.floor = h.floor)
        && (decide (e.cls = .cliff) || decide (e.cls = .dropSuspect) || decide (e.cls = .obstacle)
          || decide (e.cls = .nogo))) := by
  have hf : (h.putDone slot e).floor = h.floor := rfl
  simp only [Hub.putReports, hf, Bool.decide_and, Bool.decide_or, Bool.or_assoc]

theorem Hub.putGrant_eq {h : Hub} {e : Entry} (hv : h.plan.slot = .inService (.put e)) :
    (h.table.slots.free = none → h.putGrant = h.reply .plan ⟨.tableFull, 0x10#8, []⟩)
    ∧ ∀ slot, h.table.slots.free = some slot →
      h.putGrant = if (h.putDone slot e).putReports e then (h.putDone slot e).notify else h.putDone slot e := by
  refine ⟨fun hf => ?_, fun slot hf => ?_⟩ <;> simp only [Hub.putGrant, hv, PlanSlot.service, hf] <;> rfl

/-- Settles O38: the entry is created, and the notification follows R17. -/
theorem mapPutWriteCreatesThePlannedEntry : Obligations.MapPutWriteCreatesThePlannedEntry := by
  intro s e hr hg hv
  have hrun := runs_served (i := .mapPutWrite) rfl hr hg hv
  obtain ⟨hnone, hsome⟩ := Hub.putGrant_eq hv
  refine ⟨fun hf => ?_, fun slot hf => ?_⟩
  · rw [hnone hf, Hub.afterGrant_reply] at hrun
    exact hrun
  intro gen h tells
  have hdone : s.hub.putDone slot e = h := rfl
  have hready : h.plan.slot = .ready ⟨.done, 0x10#8, be16 slot ++ be16 gen⟩ := rfl
  rw [hsome slot hf, s.hub.putReports_putDone, hdone] at hrun
  refine ⟨fun ht => ?_, fun ht => ⟨?_, ?_⟩⟩
  · rw [if_neg (by simpa [tells] using ht), Hub.afterGrant_ready hready] at hrun
    exact hrun
  · rw [if_pos ht, Hub.afterGrant_ready (r := ⟨.done, 0x10#8, be16 slot ++ be16 gen⟩) (by simp [hready])] at hrun
    exact hrun
  · have hpermit : h.permit = s.hub.permit := rfl
    rw [← hpermit]
    clear_value h
    obtain ⟨hrest, hmotion⟩ := checkConcludesWithItsOutcome.2 h
    refine ⟨fun c hc hs => ?_, fun hc hm hp => ?_, fun p hc hs ha => ⟨fun hre => ?_, fun hre hw => ?_⟩⟩
    · have hnot := hrest (by simp [hs]) (by simp [hs])
      simp only [hc] at hnot
      refine ⟨fun hre => ?_, fun hre => ?_⟩ <;> simpa [hre] using hnot
    · simpa [hc] using hrest hm hp
    · simpa [hc] using (hmotion hs).1 hre
    · simpa [hc] using ((hmotion hs).2 p hre ha).1 hw

/-! ## MAP_DELETE and MAP_CONFIRM (R20, R21) -/

theorem Hub.deleteGrant_eq {h : Hub} {slot : Nat} {guarded : Option Nat}
    (hv : h.plan.slot = .inService (.delete slot guarded)) :
    (∀ g, guarded = some g → g ≠ h.table.generation →
      h.deleteGrant = h.reply .plan ⟨.changed, 0x11#8, be16 h.table.generation⟩)
    ∧ (guarded = none ∨ guarded = some h.table.generation → h.table.slots.entry slot = none →
      h.deleteGrant = h.reply .plan ⟨.notFound, 0x11#8, []⟩)
    ∧ ∀ e, guarded = none ∨ guarded = some h.table.generation → h.table.slots.entry slot = some e →
      h.deleteGrant =
        (h.removeSlot slot).reply .plan ⟨.done, 0x11#8, be16 ((h.table.generation + 1) % 65536)⟩ := by
  have hpass (hg : guarded = none ∨ guarded = some h.table.generation) :
      ¬ (guarded.elim false fun g => decide (g ≠ h.table.generation)) = true := by
    rcases hg with hg | hg <;> simp [hg]
  refine ⟨fun g hg hne => ?_, fun hg he => ?_, fun e hg he => ?_⟩
  · simp [Hub.deleteGrant, hv, PlanSlot.service, hg, hne]
  · simp only [Hub.deleteGrant, hv, PlanSlot.service, if_neg (hpass hg), he]
    rfl
  · simp only [Hub.deleteGrant, hv, PlanSlot.service, if_neg (hpass hg), he]
    rfl

theorem Hub.confirmGrant_eq {h : Hub} {f : Floor} {t : Tile} {pin : Bool}
    (hv : h.plan.slot = .inService (.confirm f t pin)) :
    (h.table.sensedAt f t = none → h.confirmGrant = h.reply .plan ⟨.notFound, 0x12#8, []⟩)
    ∧ ∀ slot e, h.table.sensedAt f t = some slot → h.table.slots.entry slot = some e →
      h.confirmGrant =
        (h.changeSlot slot e { e with pinned := pin }).reply .plan
          ⟨.done, 0x12#8, be16 slot ++ [byte e.cls.ctorIdx, byte e.confidence]
            ++ be16 (h.changeSlot slot e { e with pinned := pin }).table.generation⟩ := by
  refine ⟨fun hn => ?_, fun slot e hs he => ?_⟩
  · simp only [Hub.confirmGrant, hv, PlanSlot.service, hn, Option.bind_none]
    rfl
  · simp only [Hub.confirmGrant, hv, PlanSlot.service, hs, Option.bind_some, he, Option.map_some]
    rfl

/-- A pin counts as a change of the map when it differs (R13). -/
theorem Entry.counts_pinned (e : Entry) (pin : Bool) : e.counts { e with pinned := pin } = !decide (e.pinned = pin) := by
  simp [Entry.counts]

/-- Settles O39: the guard, the slot and the tile decide the answers; only what the slot holds is written. -/
theorem mapDeleteAndConfirmWrites : Obligations.MapDeleteAndConfirmWrites := by
  intro s hr hg settled
  refine ⟨fun slot guarded hv => ?_, fun f t pin hv => ?_⟩
  · have hrun := runs_served (i := .mapDeleteWrite) rfl hr hg hv
    obtain ⟨hchanged, hfree, hgone⟩ := Hub.deleteGrant_eq hv
    refine ⟨fun g hgd hne => ?_, fun hgd he => ?_, fun e hgd he => ?_⟩
    · rw [hchanged g hgd hne, Hub.afterGrant_reply] at hrun
      exact hrun
    · rw [hfree hgd he, Hub.afterGrant_reply] at hrun
      exact hrun
    · rw [hgone e hgd he, Hub.afterGrant_reply] at hrun
      exact hrun
  · have hrun := runs_served (i := .mapConfirmWrite) rfl hr hg hv
    obtain ⟨hnone, hsome⟩ := Hub.confirmGrant_eq hv
    refine ⟨fun hn => ?_, fun slot e hs he => ?_⟩
    · rw [hnone hn, Hub.afterGrant_reply] at hrun
      exact hrun
    · intro gen
      have hgen : (s.hub.changeSlot slot e { e with pinned := pin }).table.generation = gen := by
        rw [Hub.changeSlot_generation, Entry.counts_pinned]
        by_cases hp : e.pinned = pin <;> simp [gen, hp]
      rw [hsome slot e hs he, Hub.afterGrant_reply, hgen] at hrun
      refine ⟨_, hrun, ?_, rfl, ?_⟩
      · rw [← hgen]
        unfold Hub.changeSlot
        dsimp only
        split <;> rfl
      · simp

/-! ## MAP_QUERY and MAP_CLEAR (R22, R23) -/

theorem Hub.queryGrant_match {h : Hub} {f : Floor} {x y : Int} {w t slot : Nat} {found : List (Nat × Entry)} {e : Entry}
    (hv : h.plan.slot = .inService (.query f x y w t slot found)) (he : h.table.slots.entry slot = some e)
    (hf : e.floor = f) (hm : e.meets x y w t = true) :
    h.queryGrant =
      if found.length = 8 then h.answerQuery found (some slot)
      else h.queryNext f x y w t (slot + 1) (found ++ [(slot, e)]) := by
  simp [Hub.queryGrant, hv, PlanSlot.service, he, Option.filter_some, hf, hm]

theorem Hub.queryGrant_pass {h : Hub} {f : Floor} {x y : Int} {w t slot : Nat} {found : List (Nat × Entry)}
    (hv : h.plan.slot = .inService (.query f x y w t slot found))
    (hn : (h.table.slots.entry slot).all (fun e => decide (e.floor ≠ f) || !e.meets x y w t) = true) :
    h.queryGrant = h.queryNext f x y w t (slot + 1) found := by
  have hnone : ((h.table.slots.entry slot).filter fun e => decide (e.floor = f) && e.meets x y w t) = none := by
    cases he : h.table.slots.entry slot with
    | none => rfl
    | some e =>
      rw [he] at hn
      have hmiss : (decide (e.floor = f) && e.meets x y w t) = false := by
        simpa [imp_iff_not_or] using hn
      rw [Option.filter_some, if_neg (by simp [hmiss])]
  simp only [Hub.queryGrant, hv, PlanSlot.service, hnone]

theorem Hub.clearGrant_pass {h : Hub} {f : Floor} {slot removed : Nat} {removing : Bool} {last : Option Nat}
    (hv : h.plan.slot = .inService (.clear f slot removing removed last))
    (hn : (h.table.slots.entry slot).all (fun e => decide (e.floor ≠ f)) = true) :
    h.clearGrant = h.clearNext f (slot + 1) removed last := by
  have hout : ((h.table.slots.entry slot).elim false fun e => decide (e.floor = f)) = false := by
    cases he : h.table.slots.entry slot with
    | none => rfl
    | some e =>
      rw [he] at hn
      simpa using hn
  simp only [Hub.clearGrant, hv, PlanSlot.service, hout]

theorem Hub.clearGrant_belongs {h : Hub} {f : Floor} {slot removed : Nat} {removing : Bool} {last : Option Nat} {e : Entry}
    (hv : h.plan.slot = .inService (.clear f slot removing removed last)) (he : h.table.slots.entry slot = some e)
    (hf : e.floor = f) :
    h.clearGrant = if removing then h.clearRemove f slot removed else h.serve (.clear f slot true removed last) := by
  cases removing <;> simp [Hub.clearGrant, hv, PlanSlot.service, he, hf]

/-- Settles O40: what a read claim finds decides how the query or the clear goes on. -/
theorem mapQueryAndClearClaims : Obligations.MapQueryAndClearClaims := by
  intro s hr hg goesOn answers
  refine ⟨fun f x0 y0 w ht slot found hv => ?_, fun f slot removing removed last hv => ?_⟩
  · have hrun := runs_served (i := .mapQueryRead) rfl hr hg hv
    have hnext (found' : List (Nat × Entry)) := s.hub.queryNext_eq f x0 y0 w ht (slot + 1) found'
    refine ⟨fun e he hf hm => ?_, fun hn => ?_⟩
    · rw [Hub.queryGrant_match hv he hf hm] at hrun
      refine ⟨fun next hl hs => ?_, fun hl hs => ?_, fun hl => ?_⟩
      · rw [if_neg (by omega), (hnext _).1 next hs, Hub.afterGrant_serve] at hrun
        exact hrun
      · rw [if_neg (by omega), (hnext _).2 hs] at hrun
        exact hrun
      · rw [if_pos hl] at hrun
        exact hrun
    · rw [Hub.queryGrant_pass hv hn] at hrun
      refine ⟨fun next hs => ?_, fun hs => ?_⟩
      · rw [(hnext _).1 next hs, Hub.afterGrant_serve] at hrun
        exact hrun
      · rw [(hnext _).2 hs] at hrun
        exact hrun
  · have hrun := runs_served (i := .mapClearClaim) rfl hr hg hv
    intro done
    refine ⟨fun hn => ?_, fun e he hf => ?_⟩
    · rw [Hub.clearGrant_pass hv hn] at hrun
      obtain ⟨hmore, hend⟩ := s.hub.clearNext_eq f (slot + 1) removed last
      refine ⟨fun next hs => ?_, fun hs => ⟨fun g hl => ?_, fun hl => ?_⟩⟩
      · rw [hmore next hs, Hub.afterGrant_serve] at hrun
        exact hrun
      · rw [hend hs, hl, Hub.afterGrant_reply] at hrun
        exact hrun
      · rw [hend hs, hl, Hub.afterGrant_reply] at hrun
        exact hrun
    · intro gen less cleared
      rw [Hub.clearGrant_belongs hv he hf] at hrun
      obtain ⟨hmore, hend⟩ := (s.hub.removeSlot slot).clearNext_eq f (slot + 1) (removed + 1) (some gen)
      have hremove : s.hub.clearRemove f slot removed = (s.hub.removeSlot slot).clearNext f (slot + 1) (removed + 1) (some gen) :=
        rfl
      refine ⟨fun hrm => ?_, fun next hrm hs => ?_, fun hrm hs => ?_⟩
      · rw [if_neg (by simp [hrm]), Hub.afterGrant_serve] at hrun
        exact hrun
      · rw [if_pos hrm, hremove, hmore next hs, Hub.afterGrant_serve] at hrun
        exact hrun
      · rw [if_pos hrm, hremove, hend hs, Hub.afterGrant_reply] at hrun
        exact hrun

end Sys2Proof.Machine
end
section
/-!
Pose, floor and dock (R78 to R80, R142, R149, R150).
-/

namespace Sys2Proof.Machine

section
variable {h : Hub}

/-! ## Contact tracking with nothing noted (R83, R84) -/

/-- No wheel has a noted tile. -/
def Hub.Unnoted (h : Hub) : Prop := h.odo.left.noted = none ∧ h.odo.right.noted = none

theorem Hub.Unnoted.congr {g : Hub} (hu : h.Unnoted) (hl : g.odo.left = h.odo.left) (hr : g.odo.right = h.odo.right) :
    g.Unnoted := by
  unfold Hub.Unnoted
  rwa [hl, hr]

theorem trackWheel_unnoted (hu : h.Unnoted) (side : Side) :
    (h.trackWheel side).1.Unnoted ∧ (h.trackWheel side).2 = [] := by
  obtain ⟨hl, hr⟩ := hu
  unfold Hub.trackWheel
  dsimp only
  split
  · exact ⟨⟨hl, hr⟩, rfl⟩
  · cases side with
    | left => exact ⟨⟨rfl, hr⟩, by simp [Odometry.wheel, hl]⟩
    | right => exact ⟨⟨hl, rfl⟩, by simp [Odometry.wheel, hr]⟩

/-- Tracking a wheel with nothing noted forms no evidence. -/
theorem trackWheels_unnoted (hu : h.Unnoted) : h.trackWheels.Unnoted ∧ h.trackWheels.att = h.att := by
  obtain ⟨hu1, hn1⟩ := trackWheel_unnoted hu .left
  obtain ⟨hu2, hn2⟩ := trackWheel_unnoted hu1 .right
  have htrack : h.trackWheels = ((h.trackWheel .left).1.trackWheel .right).1 := by
    simp only [Hub.trackWheels, hn1, hn2]
    rfl
  rw [htrack]
  exact ⟨hu2, by simp⟩

/-! ## The permit state at rest (R104, R105, R115) -/

/-- Whether the robot is at rest: the permit state is neither MOVING nor PROBING. -/
def Hub.Resting (h : Hub) : Prop := h.permit.state ≠ .moving ∧ h.permit.state ≠ .probing

theorem Hub.resting_of_inMotion (hm : h.inMotion = false) : h.Resting := by
  unfold Hub.inMotion at hm
  constructor <;> intro hs <;> simp [hs] at hm

/-- A hold placed at rest leaves the permit state. -/
theorem placeHold_resting (hr : h.Resting) (k : Hold) : (h.placeHold k).permit.state = h.permit.state := by
  obtain ⟨hm, hp⟩ := hr
  unfold Hub.placeHold
  split
  · rfl
  · unfold Hub.trigger
    cases hs : h.permit.state with
    | moving => exact absurd hs hm
    | probing => exact absurd hs hp
    | still | stopping | inhibited => simp [hs]

/-! ## Arrivals (R127, R128) -/

/-- The queue as an arrival at its head leaves it. -/
theorem noteRouteEmpty_permit (rest : List Waypoint) : (h.noteRouteEmpty rest).permit = h.permit := by
  unfold Hub.noteRouteEmpty
  split <;> simp

theorem arrive_resting (l : List Waypoint) : ∀ {h : Hub}, h.Resting → (Hub.arrive l h).permit.state = h.permit.state := by
  induction l with
  | nil => exact fun _ => rfl
  | cons w rest ih =>
    intro h hr
    unfold Hub.arrive
    split
    · dsimp only
      split
      · rw [noteRouteEmpty_permit]
        exact placeHold_resting (h := h.advanceRoute rest) hr .route
      · have hp : ((h.advanceRoute rest).noteRouteEmpty rest).permit = h.permit := noteRouteEmpty_permit _
        rw [ih (by unfold Hub.Resting; rwa [hp]), hp]
    · rfl

/-- An arrival places no hold but ROUTE. -/
theorem arrive_planHold (l : List Waypoint) :
    ∀ {h : Hub}, (Hub.arrive l h).permit.holds.plan = h.permit.holds.plan := by
  induction l with
  | nil => exact rfl
  | cons w rest ih =>
    intro h
    unfold Hub.arrive
    split
    · dsimp only
      split
      · rw [noteRouteEmpty_permit, Hub.placeHold_holds]
        rfl
      · rw [ih, noteRouteEmpty_permit]
        rfl
    · rfl

/-! ## What a change of floor or a pose update makes of the trail and the return -/

/-- A trail as a change of floor leaves it: in IDLE with one crumb, at the pose held, and else empty. -/
def Hub.ShortTrail (h : Hub) : Prop :=
  h.dock.state ≠ .idle ∧ h.trail.crumbs = []
  ∨ h.dock.state = .idle ∧ ∃ c, h.trail.crumbs = [c] ∧ h.pose.distSq c.point = 0

theorem trailUpdate_short (ht : h.ShortTrail) : h.trailUpdate = h := by
  unfold Hub.trailUpdate
  split
  · next hc =>
    rw [Bool.and_eq_true, decide_eq_true_eq] at hc
    rcases ht with ⟨hs, -⟩ | ⟨-, c, hone, hd⟩
    · exact absurd hc.2 hs
    · have hp : h.prunedTrail = none := by simp [Hub.prunedTrail, hone]
      rw [hp]
      dsimp only
      unfold Hub.pushTest
      rw [if_pos (by simp [hc]), hone]
      dsimp only [List.getLast?_singleton]
      rw [hd]
      exact if_neg (by decide)
  · rfl

/-- A trail that has become empty makes no return IDLE. -/
theorem trailDone_state : h.trailDone.dock.state ≠ .idle := by
  have hd : (h.setReturn .approach).approachTests.dock.state ≠ .idle := by
    rcases (h.setReturn .approach).approachTests_state with he | ⟨-, he⟩ <;> simp [he]
  unfold Hub.trailDone
  split
  · exact hd
  · simp

theorem approachTests_idle : h.approachTests.dock.state = .idle ↔ h.dock.state = .idle := by
  rcases h.approachTests_state with he | ⟨hs, he⟩
  · rw [he]
  · simp [hs, he]

/-- At a change of floor the return is IDLE exactly when it was. -/
theorem dockFloorChange_state :
    (h.dockFloorChange.dock.state = .idle ↔ h.dock.state = .idle) ∧ h.dockFloorChange.trail = h.trail := by
  unfold Hub.dockFloorChange
  cases hs : h.dock.state with
  | trail =>
    have hd := trailDone_state (h := h)
    simp [hd]
  | approach => simp [approachTests_idle, hs]
  | idle | docking | docked | failed => simp [hs]

/-- With an empty trail, or in IDLE, a pose update leaves the trail. -/
theorem dockUpdate_trail (ht : h.dock.state = .idle ∨ h.trail.crumbs = []) : h.dockUpdate.trail = h.trail := by
  unfold Hub.dockUpdate
  cases hs : h.dock.state with
  | trail =>
    have hc : h.trail.crumbs = [] := ht.resolve_left (by simp [hs])
    have hsame : ({ h with trail.crumbs := [] } : Hub) = h := by rw [← hc]
    simp [hc, hsame]
  | approach => simp
  | idle | docking | docked | failed => rfl

theorem trailDone_planHas {f : PlanFlag} (hf : h.planHas f = true) : h.trailDone.planHas f = true := by
  unfold Hub.trailDone
  split
  · exact approachTests_planHas (setReturn_planHas hf _)
  · exact setReturn_planHas hf _

theorem dockFloorChange_planHas {f : PlanFlag} (hf : h.planHas f = true) : h.dockFloorChange.planHas f = true := by
  unfold Hub.dockFloorChange
  split
  · exact trailDone_planHas hf
  · exact approachTests_planHas hf
  all_goals exact hf

theorem dockUpdate_planHas {f : PlanFlag} (hf : h.planHas f = true) : h.dockUpdate.planHas f = true := by
  unfold Hub.dockUpdate
  split
  · dsimp only
    split
    · exact trailDone_planHas (h := { h with trail.crumbs := (h.trail.crumbs.reverse.dropWhile h.nearCrumb).reverse }) hf
    · exact hf
  · exact approachTests_planHas hf
  all_goals exact hf

/-- The crumb that TRACKING and IDLE lay on the trail a change of floor empties. -/
def Hub.floorCrumbs (h : Hub) (f : Floor) : List Crumb :=
  if h.tracking = true ∧ h.dock.state = .idle then
    [⟨worldMm h.odo.x, worldMm h.odo.y, h.odo.heading, f, h.trail.pushCounter⟩]
  else []

/-- A change of the active floor empties route and trail (R79, R99, R151). -/
theorem changeFloor_other {f : Floor} (hf : f ≠ h.floor) :
    (h.changeFloor f).route.waypoints = [] ∧ (h.changeFloor f).planHas .routeEmpty = true
    ∧ (h.changeFloor f).trail.crumbs = h.floorCrumbs f
    ∧ ((h.changeFloor f).dock.state = .idle ↔ h.dock.state = .idle) := by
  have heq : h.changeFloor f = ({ h with odo.floor := f } : Hub).emptyTrail.pushTest.flushRoute.dockFloorChange := by
    simp only [Hub.changeFloor, if_neg hf]
  rw [heq, Hub.emptyTrail_pushTest]
  refine ⟨by simp [Hub.flushRoute], dockFloorChange_planHas (Hub.planHas_setPlan_self ..), ?_, ?_⟩
  · rw [dockFloorChange_state.2]
    simp only [Hub.floorCrumbs, Hub.flushRoute, Hub.setPlan]
    by_cases ht : h.tracking = true ∧ h.dock.state = .idle
    · rw [if_pos (by simpa [Hub.tracking] using ht), if_pos ht]
    · rw [if_neg (by simpa [Hub.tracking] using ht), if_neg ht]
  · rw [dockFloorChange_state.1]
    rfl

/-! ## What a pose update keeps -/

/-- A pose update with nothing noted, at rest. -/
theorem poseUpdated_resting (hr : h.Resting) (hu : h.Unnoted) :
    h.poseUpdated.permit.state = h.permit.state ∧ h.poseUpdated.Unnoted := by
  have harrive : (Hub.arrive h.route.waypoints h).permit.state = h.permit.state := arrive_resting _ hr
  refine ⟨?_, ?_⟩
  · rw [← harrive]
    simp [Hub.poseUpdated]
  · refine (trackWheels_unnoted ?_).1
    exact hu.congr (by simp) (by simp)

/-- A pose update with an empty route and a short trail leaves both. -/
theorem poseUpdated_empty (hw : h.route.waypoints = []) (ht : h.ShortTrail) (hu : h.Unnoted) :
    h.poseUpdated.route.waypoints = [] ∧ h.poseUpdated.trail = h.trail
    ∧ ∀ f, h.planHas f = true → h.poseUpdated.planHas f = true := by
  have heq : h.poseUpdated = h.dockUpdate.startCentreLookup.trackWheels := by
    rw [Hub.poseUpdated, hw]
    exact congrArg (fun g : Hub => g.dockUpdate.startCentreLookup.trackWheels) (trailUpdate_short ht)
  rw [heq]
  refine ⟨by simp [hw], ?_, fun f hf => ?_⟩
  · have hshort : h.dock.state = .idle ∨ h.trail.crumbs = [] := ht.symm.imp And.left And.right
    simp [dockUpdate_trail hshort]
  · have hatt : h.dockUpdate.startCentreLookup.trackWheels.att = h.dockUpdate.att := by
      rw [(trackWheels_unnoted (hu.congr (by simp) (by simp))).2]
      simp
    exact (planHas_congr (by rw [hatt]) f).trans (dockUpdate_planHas hf)

end

/-! ## SET_POSE and SET_FLOOR (R78, R79) -/

/-- The refusals of SET_POSE and SET_FLOOR after their field checks, in their order. -/
theorem placeRefusal_eq (h : Hub) :
    (h.loading = true → h.placeRefusal = some .busy)
    ∧ (h.loading = false → h.inMotion = true → h.placeRefusal = some .inMotion)
    ∧ (h.loading = false → h.inMotion = false → h.odo.pose = .lifted → h.placeRefusal = some .lifted)
    ∧ (h.loading = false → h.inMotion = false → h.odo.pose ≠ .lifted → h.placeRefusal = none) := by
  refine ⟨fun hl => ?_, fun hl hm => ?_, fun hl hm hp => ?_, fun hl hm hp => ?_⟩
  · simp [Hub.placeRefusal, hl]
  · simp [Hub.placeRefusal, hl, hm]
  · simp [Hub.placeRefusal, hl, hm, hp]
  · simp [Hub.placeRefusal, hl, hm, hp]

/-- A position in whole millimetres is read back from its micrometres. -/
theorem roundDiv_mm (x : Int) : roundDiv (1000 * x) 1000 = x := by
  unfold roundDiv
  push_cast
  split <;> omega

theorem worldMm_mm {x : Int} (hx : mmInWorld x = true) : worldMm (1000 * x) = x := by
  have hx' := of_decide_eq_true hx
  rw [worldMm, roundDiv_mm]
  omega

/-- What an accepted SET_POSE leaves. -/
theorem placeAt_parts {h : Hub} {x y : Int} {heading : Nat} {f : Floor} (hr : h.Resting) (hx : mmInWorld x = true)
    (hy : mmInWorld y = true) :
    let t := h.placeAt ⟨1000 * x, 1000 * y, heading⟩ f
    (t.odo.x = 1000 * x ∧ t.odo.y = 1000 * y ∧ t.odo.heading = heading ∧ t.odo.pose = .tracking
      ∧ t.odo.rangeSet = false ∧ t.odo.floor = f)
    ∧ t.scanner.block.posting = false ∧ t.Unnoted ∧ t.permit.state = h.permit.state
    ∧ (f ≠ h.floor → t.route.waypoints = [] ∧ t.planHas .routeEmpty = true
      ∧ t.trail.crumbs = if h.dock.state = .idle then [⟨x, y, heading, f, h.trail.pushCounter⟩] else []) := by
  intro t
  have hunnoted : ((h.place ⟨1000 * x, 1000 * y, heading⟩).changeFloor f).markStale.Unnoted := by
    unfold Hub.Unnoted
    simp only [Hub.markStale_frame, Hub.changeFloor_odo]
    exact ⟨rfl, rfl⟩
  have hstate : ((h.place ⟨1000 * x, 1000 * y, heading⟩).changeFloor f).markStale.permit.state = h.permit.state := by
    obtain ⟨c, hc⟩ := ((h.place ⟨1000 * x, 1000 * y, heading⟩).changeFloor f).markStale_permit
    rw [hc]
    simp
  obtain ⟨hkeep, hnoted⟩ := poseUpdated_resting (by unfold Hub.Resting; rwa [hstate]) hunnoted
  refine ⟨?_, ?_, hnoted, hkeep.trans hstate, fun hf => ?_⟩
  · simp only [t, Hub.placeAt, Hub.poseUpdated_odo, Hub.markStale_frame, Hub.changeFloor_odo]
    exact ⟨rfl, rfl, rfl, rfl, rfl, trivial⟩
  · simp only [t, Hub.placeAt, Hub.poseUpdated_frame, Hub.markStale_frame, Hub.changeFloor_frame]
    rfl
  · obtain ⟨hways, hflag, hcrumbs, hidle⟩ := changeFloor_other (h := h.place ⟨1000 * x, 1000 * y, heading⟩) hf
    have hlaid : (h.place ⟨1000 * x, 1000 * y, heading⟩).floorCrumbs f
        = if h.dock.state = .idle then [⟨x, y, heading, f, h.trail.pushCounter⟩] else [] := by
      have htrack : (h.place ⟨1000 * x, 1000 * y, heading⟩).tracking = true := rfl
      have hcrumb : ((h.place ⟨1000 * x, 1000 * y, heading⟩).odo.x, (h.place ⟨1000 * x, 1000 * y, heading⟩).odo.y)
        = (1000 * x, 1000 * y) := rfl
      obtain ⟨hcx, hcy⟩ := Prod.mk.inj hcrumb
      simp only [Hub.floorCrumbs, htrack, true_and, hcx, hcy, worldMm_mm hx, worldMm_mm hy]
      rfl
    rw [hlaid] at hcrumbs
    have hshort : ((h.place ⟨1000 * x, 1000 * y, heading⟩).changeFloor f).markStale.ShortTrail := by
      by_cases hs : h.dock.state = .idle
      · refine .inr ⟨by simpa using hidle.mpr hs, ⟨x, y, heading, f, h.trail.pushCounter⟩, ?_, ?_⟩
        · simp only [Hub.markStale_frame, hcrumbs, if_pos hs]
        · simp only [Hub.pose, Hub.markStale_frame, Hub.changeFloor_odo, Pose.distSq, Crumb.point, mmPoint]
          simp [Hub.place, Hub.restartTracking, Hub.loadPose, Hub.cancelPassOver]
      · refine .inl ⟨by simpa using mt hidle.mp hs, ?_⟩
        simp only [Hub.markStale_frame, hcrumbs, if_neg hs]
    obtain ⟨hw, ht, hp⟩ := poseUpdated_empty (by simpa using hways) hshort hunnoted
    refine ⟨hw, hp _ ((planHas_congr (Hub.markStale_planFlags _) _).trans hflag), ?_⟩
    exact (congrArg Trail.crumbs ht).trans (by simp only [Hub.markStale_frame, hcrumbs])

theorem setPose_eq {h : Hub} {body : List Byte} :
    ((mmInWorld (s16 body 0) && mmInWorld (s16 body 2)) = false ∨ floorOf (u8 body 6) = none →
      h.setPose body = h.reply .plan ⟨.badField, 0x19#8, []⟩)
    ∧ ∀ f, (mmInWorld (s16 body 0) && mmInWorld (s16 body 2)) = true → floorOf (u8 body 6) = some f →
      (∀ st, h.placeRefusal = some st → h.setPose body = h.reply .plan ⟨st, 0x19#8, []⟩)
      ∧ (h.placeRefusal = none →
        let t := h.placeAt ⟨1000 * s16 body 0, 1000 * s16 body 2, u16 body 4⟩ f
        h.setPose body = t.reply .plan ⟨.done, 0x19#8,
          be16s (roundDiv t.odo.x 1000) ++ be16s (roundDiv t.odo.y 1000) ++ be16 t.odo.heading ++ [byte t.floor.val]⟩) := by
  refine ⟨fun hbad => ?_, fun f hg hf => ⟨fun st hst => ?_, fun hn => ?_⟩⟩
  · have hnone : (if mmInWorld (s16 body 0) && mmInWorld (s16 body 2) then floorOf (u8 body 6) else none) = none := by
      rcases hbad with hg | hf
      · rw [hg]
        rfl
      · rw [hf, ite_self]
    simp only [Hub.setPose, hnone]
    rfl
  · simp only [Hub.setPose, hg, if_true, hf, hst]
    rfl
  · simp only [Hub.setPose, hg, if_true, hf, hn]
    rfl

/-- What an accepted SET_FLOOR of another floor leaves. -/
theorem moveToFloor_other {h : Hub} {f : Floor} (hf : f ≠ h.floor) :
    let t := h.moveToFloor f
    t.odo.floor = f ∧ t.route.waypoints = [] ∧ t.planHas .routeEmpty = true ∧ t.trail.crumbs = h.floorCrumbs f
    ∧ t.Unnoted ∧ t.scanner.block.posting = false ∧ t.odo.x = h.odo.x ∧ t.odo.y = h.odo.y
    ∧ t.odo.heading = h.odo.heading ∧ t.odo.pose = h.odo.pose := by
  obtain ⟨hways, hflag, hcrumbs, -⟩ := changeFloor_other (h := h) hf
  have hunnoted : (({ h.changeFloor f with scanner.block.posting := false } : Hub).restartTracking.markStale).Unnoted := by
    unfold Hub.Unnoted
    simp
  have hkeeps : ({ h.changeFloor f with scanner.block.posting := false } : Hub).restartTracking.markStale.planHas .routeEmpty
      = true := (planHas_congr (by simp) _).trans hflag
  have heq : h.moveToFloor f =
      if ({ h.changeFloor f with scanner.block.posting := false } : Hub).restartTracking.markStale.tracking then
        ({ h.changeFloor f with scanner.block.posting := false } : Hub).restartTracking.markStale.startCentreLookup.trackWheels
      else ({ h.changeFloor f with scanner.block.posting := false } : Hub).restartTracking.markStale := by
    simp only [Hub.moveToFloor, if_neg hf]
  have hbase : ({ h.changeFloor f with scanner.block.posting := false } : Hub).restartTracking.markStale.trail.crumbs
      = h.floorCrumbs f := by simpa using hcrumbs
  intro t
  rw [show t = _ from heq]
  split
  · have hu := hunnoted.congr (g := (({ h.changeFloor f with scanner.block.posting := false } :
      Hub).restartTracking.markStale).startCentreLookup) (by simp) (by simp)
    obtain ⟨hnoted, hatt⟩ := trackWheels_unnoted hu
    refine ⟨by simp, by simp [hways], ?_, ?_, hnoted, by simp, by simp, by simp, by simp, by simp⟩
    · exact (planHas_congr (by rw [hatt]; simp) _).trans hflag
    · simpa using hcrumbs
  · exact ⟨by simp, by simp [hways], hkeeps, hbase, hunnoted, by simp, by simp, by simp, by simp, by simp⟩

theorem setFloor_eq {h : Hub} {b : Byte} :
    (floorOf b.toNat = none → h.setFloor [b] = h.reply .plan ⟨.badField, 0x18#8, []⟩)
    ∧ ∀ f, floorOf b.toNat = some f →
      (∀ st, h.placeRefusal = some st → h.setFloor [b] = h.reply .plan ⟨st, 0x18#8, []⟩)
      ∧ (h.placeRefusal = none →
        h.setFloor [b] = (h.moveToFloor f).reply .plan ⟨.done, 0x18#8, [byte (h.moveToFloor f).floor.val]⟩) := by
  have hb : u8 [b] 0 = b.toNat := rfl
  refine ⟨fun hn => ?_, fun f hf => ⟨fun st hst => ?_, fun hn => ?_⟩⟩
  · simp only [Hub.setFloor, hb, hn]
    rfl
  · simp only [Hub.setFloor, hb, hf, hst]
    rfl
  · simp only [Hub.setFloor, hb, hf, hn]
    rfl

theorem floorOf_none {n : Nat} (hn : 3 < n) : floorOf n = none := by
  simp [floorOf]
  omega

theorem floorOf_some {n : Nat} (hn : n ≤ 3) : ∃ f, floorOf n = some f := by
  refine ⟨⟨n, by omega⟩, ?_⟩
  simp [floorOf]
  omega

/-- The tests of SET_POSE and SET_FLOOR look at what a frame taken on the Plan link leaves. -/
theorem placeRefusal_framed (h : Hub) : (h.framed .plan).placeRefusal = h.placeRefusal := by
  have hl : (h.framed .plan).loading = h.loading := by simp [Hub.loading]
  have hm : (h.framed .plan).inMotion = h.inMotion := by simp [Hub.inMotion]
  have ho : (h.framed .plan).odo = h.odo := by simp
  simp only [Hub.placeRefusal, hl, hm, ho]

/-- Settles O41: a placed pose stands in TRACKING, a new floor empties route and trail. -/
theorem poseAndFloorAreSet : Obligations.PoseAndFloorAreSet := by
  refine ⟨fun s body hr ho hl => ?_, fun s b hr ho => ?_, fun s b f hr ho hf hload hm hp => ?_⟩
  · intro h x y good
    have hrun : Runs (.setPose body) s (h.setPose body) := runs_requested rfl hr (fun _ => ho) hl
    have href : h.placeRefusal = s.hub.placeRefusal := placeRefusal_framed s.hub
    obtain ⟨hbad, hgood⟩ := setPose_eq (h := h) (body := body)
    obtain ⟨hbusy, hmove, hlifted, hfree⟩ := placeRefusal_eq s.hub
    rw [href] at hgood
    refine ⟨fun hn => ?_, fun f hg hf => ?_⟩
    · rw [hbad hn] at hrun
      exact hrun
    obtain ⟨hdeny, htake⟩ := hgood f hg hf
    refine ⟨fun hb => ?_, fun hb hq => ?_, fun hb hq hp => ?_, fun hb hq hp => ?_⟩
    · rw [hdeny _ (hbusy hb)] at hrun
      exact hrun
    · rw [hdeny _ (hmove hb hq)] at hrun
      exact hrun
    · rw [hdeny _ (hlifted hb hq hp)] at hrun
      exact hrun
    · have hrest : h.Resting := Hub.resting_of_inMotion (by simpa [h, Hub.inMotion] using hq)
      obtain ⟨hx, hy⟩ := Bool.and_eq_true_iff.mp hg
      obtain ⟨⟨hpx, hpy, hh, hpose, hrange, hfloor⟩, hblock, ⟨hleft, hright⟩, hstate, hother⟩ :=
        placeAt_parts (heading := u16 body 4) (f := f) hrest hx hy
      have htable : (h.placeAt ⟨1000 * s16 body 0, 1000 * s16 body 2, u16 body 4⟩ f).table = s.hub.table := by simp [h]
      rw [htake (hfree hb hq hp)] at hrun
      generalize h.placeAt ⟨1000 * s16 body 0, 1000 * s16 body 2, u16 body 4⟩ f = t at *
      have hkept : h.permit.state = s.hub.permit.state ∧ h.floor = s.hub.floor ∧ h.dock = s.hub.dock
          ∧ h.trail = s.hub.trail := by simp [h, Hub.floor]
      obtain ⟨hks, hkf, hkd, hkt⟩ := hkept
      rw [hkf, hkd, hkt] at hother
      simp only [hpx, hpy, roundDiv_mm, hh, show t.floor = f from hfloor] at hrun
      refine ⟨_, hrun, ?_⟩
      simp only [Hub.reply_frame]
      exact ⟨hpx, hpy, hh, hpose, hrange, hfloor, hblock, hleft, hright,
        fun hf => ⟨(hother hf).1, planHas_reply (hother hf).2.1 _ _, (hother hf).2.2⟩, rfl, htable, hstate.trans hks⟩
  · intro no
    have hrun : Runs (.setFloor [b]) s ((s.hub.framed .plan).setFloor [b]) := runs_requested rfl hr (fun _ => ho) rfl
    have href := placeRefusal_framed s.hub
    obtain ⟨hbad, hgood⟩ := setFloor_eq (h := s.hub.framed .plan) (b := b)
    obtain ⟨hbusy, hmove, hlifted, -⟩ := placeRefusal_eq s.hub
    rw [href] at hgood
    have hdeny (hb : b.toNat ≤ 3) {st : Status} (hst : s.hub.placeRefusal = some st) : Runs (.setFloor [b]) s (no st) := by
      obtain ⟨f, hf⟩ := floorOf_some hb
      rw [(hgood f hf).1 st hst] at hrun
      exact hrun
    refine ⟨fun hb => ?_, fun hb hl => hdeny hb (hbusy hl), fun hb hl hm => hdeny hb (hmove hl hm),
      fun hb hl hm hp => hdeny hb (hlifted hl hm hp)⟩
    rw [hbad (floorOf_none hb)] at hrun
    exact hrun
  · intro h
    have hrun : Runs (.setFloor [b]) s (h.setFloor [b]) := runs_requested rfl hr (fun _ => ho) rfl
    rw [(setFloor_eq.2 f hf).2 ((placeRefusal_framed s.hub).trans ((placeRefusal_eq s.hub).2.2.2 hload hm hp))] at hrun
    have hkept : h.floor = s.hub.floor ∧ h.dock = s.hub.dock ∧ h.trail = s.hub.trail ∧ h.odo = s.hub.odo := by
      simp [h, Hub.floor]
    obtain ⟨hkf, hkd, hkt, hko⟩ := hkept
    refine ⟨fun he => ?_, fun hne => ?_⟩
    · have hstay : h.moveToFloor f = h := if_pos (by rw [hkf]; exact he)
      rw [hstay, hkf, ← he] at hrun
      exact hrun
    · obtain ⟨hfloor, hways, hflag, hcrumbs, ⟨hleft, hright⟩, hblock, hpx, hpy, hh, hpose⟩ :=
        moveToFloor_other (h := h) (f := f) (by rw [hkf]; exact hne)
      have htable : (h.moveToFloor f).table = s.hub.table := by simp [h]
      have hlaid : h.floorCrumbs f = s.hub.floorCrumbs f := by
        have htrack : h.tracking = s.hub.tracking := by simp [h, Hub.tracking]
        rw [Hub.floorCrumbs, htrack, hkd, hkt, hko]
        rfl
      generalize h.moveToFloor f = t at *
      rw [hko] at hpx hpy hh hpose
      rw [show t.floor = f from hfloor] at hrun
      refine ⟨_, hrun, ?_⟩
      simp only [Hub.reply_frame]
      exact ⟨hfloor, hways, planHas_reply hflag _ _, hcrumbs.trans hlaid, hleft, hright, hblock, hpx, hpy, hh, hpose,
        htable, rfl⟩

end Sys2Proof.Machine
end
section
/-!
The dock's record and reports, and the return's requests (R142 to R144, R149, R150, R153).
-/

namespace Sys2Proof.Machine

section
variable {h : Hub}

/-! ## The dock (R142, R149, R150) -/

theorem writeDock_parts (d : DockRecord) :
    (h.writeDock d).dock.record = d ∧ (h.dock.state ≠ .approach → h.writeDock d = { h with dock.record := d })
    ∧ (d.valid = false → h.dock.state = .approach → (h.writeDock d).dock.state = .docking) := by
  refine ⟨by simp [Hub.writeDock], fun hs => Hub.approachTests_stays _ (.inl hs), fun hv hs => ?_⟩
  have hleave (g : Hub) (hg : g.dock.state = .approach) (hu : g.dockUsable = false) :
      g.approachTests.dock.state = .docking := by
    rw [g.approachTests_ends hg (.inl hu)]
    exact g.setReturn_state .docking
  exact hleave { h with dock.record := d } hs (by simp [Hub.dockUsable, hv])

theorem setDock_eq {body : List Byte} :
    (bitAt body 0 0 = true → (mmInWorld (s16 body 1) && mmInWorld (s16 body 3)) = false ∨ floorOf (u8 body 7) = none →
      h.setDock body = h.reply .plan ⟨.badField, 0x1A#8, []⟩)
    ∧ (∀ f, bitAt body 0 0 = true → (mmInWorld (s16 body 1) && mmInWorld (s16 body 3)) = true →
      floorOf (u8 body 7) = some f → ∀ d : DockRecord, d = ⟨true, s16 body 1, s16 body 3, u16 body 5, f⟩ →
      h.setDock body = (h.writeDock d).reply .plan ⟨.done, 0x1A#8, d.encode⟩)
    ∧ (bitAt body 0 0 = false → ∀ d, d = { h.dock.record with valid := false } →
      h.setDock body = (h.writeDock d).reply .plan ⟨.done, 0x1A#8, d.encode⟩) := by
  refine ⟨fun hv hbad => ?_, fun f hv hg hf d hd => ?_, fun hv d hd => ?_⟩
  · have hnone : (if mmInWorld (s16 body 1) && mmInWorld (s16 body 3) then floorOf (u8 body 7) else none) = none := by
      rcases hbad with hg | hf
      · rw [hg]
        rfl
      · rw [hf, ite_self]
    simp only [Hub.setDock, hv, if_true, hnone]
    rfl
  · simp only [Hub.setDock, hv, if_true, hg, hf, hd]
    rfl
  · simp only [Hub.setDock, hv, Bool.false_eq_true, if_false, hd]
    rfl

/-- In DOCKED a pose update leaves the trail, the dock and the Plan hold. -/
theorem poseUpdated_docked (hs : h.dock.state = .docked) :
    h.poseUpdated.dock = h.dock ∧ h.poseUpdated.trail = h.trail
    ∧ h.poseUpdated.permit.holds.plan = h.permit.holds.plan := by
  have htrail (g : Hub) (hg : g.dock.state = .docked) : g.trailUpdate.dockUpdate = g := by
    have ht : g.trailUpdate = g := if_neg (by simp [hg])
    rw [ht]
    simp [Hub.dockUpdate, hg]
  have heq : h.poseUpdated = (Hub.arrive h.route.waypoints h).startCentreLookup.trackWheels := by
    rw [Hub.poseUpdated, htrail _ (by simpa using hs)]
  rw [heq]
  refine ⟨by simp, by simp, ?_⟩
  simpa using arrive_planHold (h := h) h.route.waypoints

/-- The DOCKED correction in the dock's own state. -/
theorem dockedCorrection_docked (hs : h.dock.state = .docked) (hp : h.odo.pose ≠ .lifted) :
    h.dockedCorrection.dock = h.dock ∧ h.dockedCorrection.trail = h.trail
    ∧ h.dockedCorrection.permit.holds.plan = h.permit.holds.plan ∧ h.dockedCorrection.odo.pose = .tracking
    ∧ h.dockedCorrection.odo.x = 1000 * h.dock.record.x ∧ h.dockedCorrection.odo.y = 1000 * h.dock.record.y
    ∧ h.dockedCorrection.odo.heading = h.dock.record.heading := by
  have heq : h.dockedCorrection =
      (h.place ⟨1000 * h.dock.record.x, 1000 * h.dock.record.y, h.dock.record.heading⟩).markStale.recheckAsked.poseUpdated :=
    if_neg hp
  rw [heq]
  obtain ⟨hd, ht, hh⟩ := poseUpdated_docked
    (h := (h.place ⟨1000 * h.dock.record.x, 1000 * h.dock.record.y, h.dock.record.heading⟩).markStale.recheckAsked)
    (by simpa using hs)
  refine ⟨by simpa using hd, by simpa using ht, by simpa using hh, ?_, ?_, ?_, ?_⟩ <;>
    simp only [Hub.poseUpdated_odo, Hub.recheckAsked_frame, Hub.markStale_frame] <;> rfl

/-- The hub as DOCKED has it before the pose is corrected or the record written (R149). -/
def Hub.atDock (h : Hub) : Hub := ({ h.setReturn .docked with dock.timer := none, dock.fallbacks := 0 } : Hub).emptyTrail

theorem Hub.atDock_dock : h.atDock.dock = { h.dock with state := .docked, timer := none, fallbacks := 0 } := by
  have heq : h.atDock.dock = { (h.setReturn .docked).dock with timer := none, fallbacks := 0 } := rfl
  rw [heq]
  simp

theorem Hub.docked_eq :
    (h.dockUsable = true → h.docked = h.atDock.dockedCorrection)
    ∧ (h.dockUsable = false → h.tracking = true → h.docked = h.atDock.writeDock h.dockFromPose)
    ∧ (h.dockUsable = false → h.tracking = false → h.docked = h.atDock) := by
  have hu : h.atDock.dockUsable = h.dockUsable := by
    simp [Hub.dockUsable, Hub.floor, Hub.atDock, Hub.emptyTrail]
  have ht : h.atDock.tracking = h.tracking := by simp [Hub.tracking, Hub.atDock, Hub.emptyTrail]
  have hp : h.atDock.dockFromPose = h.dockFromPose := by simp [Hub.dockFromPose, Hub.floor, Hub.atDock, Hub.emptyTrail]
  have heq : h.docked = if h.atDock.dockUsable then h.atDock.dockedCorrection
      else if h.atDock.tracking then h.atDock.writeDock h.atDock.dockFromPose else h.atDock := rfl
  rw [hu, ht, hp] at heq
  refine ⟨fun hu => ?_, fun hu ht => ?_, fun hu ht => ?_⟩
  · rw [heq, if_pos hu]
  · rw [heq, if_neg (by simp [hu]), if_pos ht]
  · rw [heq, if_neg (by simp [hu]), if_neg (by simp [ht])]

theorem Hub.undocked_dock : h.undocked.dock = { h.dock with state := .idle, timer := none } := by
  have heq : h.undocked.dock = { (h.setReturn .idle).dock with timer := none } := by
    simp only [Hub.undocked, Hub.pushTest_frame]
    rfl
  rw [heq]
  simp

/-- What a LIFTED pose, a usable record or a TRACKING pose makes of DOCKED. -/
theorem Hub.docked_parts :
    (h.docked.dock.state = .docked ∧ h.docked.dock.timer = none ∧ h.docked.dock.fallbacks = 0)
    ∧ h.docked.trail = { h.trail with crumbs := [] }
    ∧ (h.dockUsable = true → h.odo.pose ≠ .lifted →
      h.docked.odo.pose = .tracking ∧ h.docked.odo.x = 1000 * h.dock.record.x
      ∧ h.docked.odo.y = 1000 * h.dock.record.y ∧ h.docked.odo.heading = h.dock.record.heading
      ∧ h.docked.dock.record = h.dock.record)
    ∧ (h.odo.pose = .lifted → h.docked.odo = h.odo ∧ h.docked.dock.record = h.dock.record)
    ∧ (h.dockUsable = false → h.tracking = true → h.docked.odo = h.odo ∧ h.docked.dock.record = h.dockFromPose)
    ∧ h.docked.permit.holds.plan = h.permit.holds.plan := by
  obtain ⟨husable, htracking, hneither⟩ := h.docked_eq
  have hd := h.atDock_dock
  have hodo : h.atDock.odo = h.odo := by simp [Hub.atDock, Hub.emptyTrail]
  have htrail : h.atDock.trail = { h.trail with crumbs := [] } := by simp [Hub.atDock, Hub.emptyTrail]
  have hpermit : h.atDock.permit = h.permit := by simp [Hub.atDock, Hub.emptyTrail]
  cases hu : h.dockUsable with
  | true =>
    rw [husable hu]
    by_cases hl : h.odo.pose = .lifted
    · have hstay : h.atDock.dockedCorrection = h.atDock := if_pos (by rw [hodo]; exact hl)
      rw [hstay, hd, hodo, htrail, hpermit]
      simp [hl]
    · obtain ⟨hdk, ht, hh, hp, hx, hy, hhd⟩ := dockedCorrection_docked (h := h.atDock) (by rw [hd]) (by rwa [hodo])
      rw [hdk, ht, hh, hd, htrail, hpermit]
      rw [hd] at hx hy hhd
      simp [hl, hp, hx, hy, hhd]
  | false =>
    cases ht : h.tracking with
    | true =>
      have hl : h.odo.pose ≠ .lifted := by
        intro hl
        simp [Hub.tracking, hl] at ht
      rw [htracking hu ht, (writeDock_parts _).2.1 (by rw [hd]; exact nofun)]
      simp [hd, hodo, htrail, hpermit, hl]
    | false =>
      rw [hneither hu ht, hd, hodo, htrail, hpermit]
      simp

end

/-- Settles O42: the record written, and the return after DOCKED and UNDOCKED. -/
theorem dockRecordAndDockReports : Obligations.DockRecordAndDockReports := by
  intro s hr
  refine ⟨fun body ho hl => ?_, ?_, ?_⟩
  · intro h good
    have hrun : Runs (.setDock body) s (h.setDock body) := runs_requested rfl hr (fun _ => ho) hl
    have hdock : h.dock = s.hub.dock := by simp [h]
    obtain ⟨hbad, hgood, hinvalid⟩ := setDock_eq (h := h) (body := body)
    refine ⟨fun hv hb => ?_, fun f hv hg hf => ?_, fun hv => ?_⟩
    · rw [hbad hv hb] at hrun
      exact hrun
    · rw [hgood f hv hg hf _ rfl] at hrun
      obtain ⟨hrec, hkeep, -⟩ := writeDock_parts (h := h) ⟨true, s16 body 1, s16 body 3, u16 body 5, f⟩
      refine ⟨_, hrun, by simpa using hrec, ?_, fun hs => ?_⟩
      · rw [(Hub.reply_plan ..).1]
        simp [hrec]
      · rw [← hdock] at hs ⊢
        rw [hkeep hs]
        rfl
    · rw [hinvalid hv _ rfl] at hrun
      obtain ⟨hrec, hkeep, hleave⟩ := writeDock_parts (h := h) { h.dock.record with valid := false }
      refine ⟨_, hrun, ?_, ?_, ?_⟩
      · rw [← hdock]
        simpa using hrec
      · rw [(Hub.reply_plan ..).1]
        simp [hrec]
      · rw [← hdock]
        split
        · next hs => simpa using hleave rfl hs
        · next hs =>
          rw [hkeep hs]
          rfl
  · have hrun : Runs (.docked []) s
        (s.hub.docked.reply .power ⟨.done, 0x4A#8, byte s.hub.docked.dock.state.ctorIdx :: s.hub.docked.dock.record.encode⟩) :=
      runs_requested (p := .power) rfl hr nofun rfl
    obtain ⟨⟨hs, ht, hf⟩, htrail, husable, hlifted, hpose, hplan⟩ := Hub.docked_parts (h := s.hub)
    have htable : s.hub.docked.table = s.hub.table := by simp
    generalize s.hub.docked = t at *
    refine ⟨_, hrun, ?_⟩
    simp only [Hub.reply_frame, (Hub.reply_power _).1]
    refine ⟨hs, ht, hf, htrail, by rw [hs]; rfl, husable, hlifted, hpose, hplan, htable⟩
  · have hrun : Runs (.undocked []) s
        (s.hub.undocked.reply .power ⟨.done, 0x4B#8, [byte s.hub.undocked.dock.state.ctorIdx]⟩) :=
      runs_requested (p := .power) rfl hr nofun rfl
    have hd := s.hub.undocked_dock
    have htrail : s.hub.undocked.trail.crumbs =
        if s.hub.tracking then
          [⟨worldMm s.hub.odo.x, worldMm s.hub.odo.y, s.hub.odo.heading, s.hub.floor, s.hub.trail.pushCounter⟩]
        else [] := by
      rw [Hub.undocked, Hub.emptyTrail_pushTest]
      cases ht : s.hub.tracking <;> simp_all [Hub.tracking, Hub.floor]
    have hodo : s.hub.undocked.odo = s.hub.odo := by simp
    have hpermit : s.hub.undocked.permit = s.hub.permit := by simp
    generalize s.hub.undocked = t at *
    refine ⟨_, hrun, ?_⟩
    simp only [Hub.reply_frame, (Hub.reply_power _).1]
    exact ⟨hd, htrail, by rw [hd]; rfl, hodo, hpermit⟩

/-! ## The return's requests (R144, R153) -/

/-- An accepted return start begins in TRAIL when there are crumbs, and else at the dock (R144). -/
theorem returnStart_state {h : Hub} (hd : h.returnStatus = .done) (hs : h.dock.state = .idle ∨ h.dock.state = .failed) :
    (h.trail.crumbs ≠ [] → h.returnStart.dock.state = .trail)
    ∧ (h.trail.crumbs = [] → h.returnStart.dock.state = .approach ∨ h.returnStart.dock.state = .docking) := by
  have heq : h.returnStart =
      if h.trail.crumbs.isEmpty then (({ h.flushRoute with dock.fallbacks := 0 } : Hub).setReturn .approach).approachTests
      else ({ h.flushRoute with dock.fallbacks := 0 } : Hub).setReturn .trail := by
    rw [Hub.returnStart, if_pos ⟨hd, hs⟩]
    rfl
  rw [heq]
  refine ⟨fun hc => ?_, fun hc => ?_⟩
  · rw [if_neg (by simp [hc])]
    exact Hub.setReturn_state ..
  · rw [if_pos (by simp [hc])]
    rcases (({ h.flushRoute with dock.fallbacks := 0 } : Hub).setReturn .approach).approachTests_state with hs | ⟨-, hs⟩
    · exact .inl (hs.trans (Hub.setReturn_state ..))
    · exact .inr hs

/-- The tests of a return start look at what a frame taken leaves. -/
theorem returnStatus_framed (h : Hub) (p : Port) : (h.framed p).returnStatus = h.returnStatus := by
  have hd : (h.framed p).dock = h.dock := by simp
  have ht : (h.framed p).tracking = h.tracking := by simp [Hub.tracking]
  have hf : (h.framed p).floor = h.floor := by simp [Hub.floor]
  have hc : (h.framed p).trail = h.trail := by simp
  simp only [Hub.returnStatus, hd, ht, hf, hc]

/-- The tests of a return start in IDLE and FAILED, in their order. -/
theorem returnStatus_free {h : Hub} (hs : h.dock.state = .idle ∨ h.dock.state = .failed) :
    (h.odo.pose ≠ .tracking → h.returnStatus = .noPose)
    ∧ (h.odo.pose = .tracking →
      (h.dock.record.valid = true → h.dock.record.floor ≠ h.floor → h.returnStatus = .wrongFloor)
      ∧ (h.dock.record.valid = false → h.trail.crumbs = [] → h.returnStatus = .noDock)
      ∧ (h.dock.record.valid = true ∧ h.dock.record.floor = h.floor
          ∨ h.dock.record.valid = false ∧ h.trail.crumbs ≠ [] → h.returnStatus = .done)) := by
  have heq : h.returnStatus =
      if !h.tracking then .noPose
      else if h.dock.record.valid && decide (h.dock.record.floor ≠ h.floor) then .wrongFloor
      else if !h.dock.record.valid && h.trail.crumbs.isEmpty then .noDock else .done := by
    rcases hs with hs | hs <;> simp only [Hub.returnStatus, hs]
  rw [heq]
  refine ⟨fun hp => ?_, fun hp => ⟨fun hv hf => ?_, fun hv hc => ?_, fun hok => ?_⟩⟩
  · simp [Hub.tracking, hp]
  · simp [Hub.tracking, hp, hv, hf]
  · simp [Hub.tracking, hp, hv, hc]
  · rcases hok with ⟨hv, hf⟩ | ⟨hv, hc⟩
    · simp [Hub.tracking, hp, hv, hf]
    · simp [Hub.tracking, hp, hv, hc]

theorem requestReturn_eq (h : Hub) (p : Port) :
    (h.returnStatus = .done →
      h.requestReturn p = h.returnStart.reply p ⟨.done, 0x32#8, [byte h.returnStart.dock.state.ctorIdx]⟩)
    ∧ (h.returnStatus ≠ .done → h.requestReturn p = h.reply p ⟨h.returnStatus, 0x32#8, []⟩) := by
  refine ⟨fun hd => ?_, fun hd => ?_⟩
  · rw [Hub.requestReturn, if_pos hd]
    rfl
  · rw [Hub.requestReturn, if_neg hd]
    rfl

theorem powerHas_reply {h : Hub} {f : PowerFlag} (hf : h.powerHas f = true) (p : Port) (r : Reply) :
    (h.reply p r).powerHas f = true := by
  cases p with
  | plan => exact hf
  | power => exact powerHas_setPower_of (h := { h with power.slot := some r }) hf .replyReady

/-- Settles O46: the tests of a return start, and a cancelled return. -/
theorem returnRequestsTestInOrder : Obligations.ReturnRequestsTestInOrder := by
  intro s p hr ho h answer free
  have hrun : Runs (.returnStart p []) s (h.requestReturn p) := runs_requested rfl hr ho rfl
  have hcancel : Runs (.returnCancel p []) s
      (h.cancelReturn.reply p ⟨.done, 0x33#8, [byte h.cancelReturn.dock.state.ctorIdx]⟩) := runs_requested rfl hr ho rfl
  obtain ⟨hdone, hdeny⟩ := requestReturn_eq h p
  have hstatus : h.returnStatus = s.hub.returnStatus := returnStatus_framed s.hub p
  have hdock : h.dock = s.hub.dock := by simp [h]
  have htrail : h.trail = s.hub.trail := by simp [h]
  have hpermit : h.permit = s.hub.permit := by simp [h]
  have htable : h.table = s.hub.table := by simp [h]
  have hodo : h.odo = s.hub.odo := by simp [h]
  have hways : h.route.waypoints = s.hub.route.waypoints := by simp [h]
  have hdenied {st : Status} (hst : s.hub.returnStatus = st) (hne : st ≠ .done) : Runs (.returnStart p []) s (answer st) := by
    rw [hdeny (by rw [hstatus, hst]; exact hne), hstatus, hst] at hrun
    exact hrun
  refine ⟨fun hs => hdenied (by simp [Hub.returnStatus, hs]) nofun, fun hs => ?_,
    fun hf hp => hdenied ((returnStatus_free hf).1 hp) nofun,
    fun hf hp => ⟨fun hv hw => hdenied (((returnStatus_free hf).2 hp).1 hv hw) nofun,
      fun hv hc => hdenied (((returnStatus_free hf).2 hp).2.1 hv hc) nofun, fun hok => ?_⟩, fun hs => ?_, fun hs => ?_⟩
  · have hst : s.hub.returnStatus = .done := by rcases hs with hs | hs | hs <;> simp [Hub.returnStatus, hs]
    have hstay : h.returnStart = h := if_neg (by rw [hdock]; rintro ⟨-, hi⟩; rcases hs with hs | hs | hs <;> simp [hs] at hi)
    rw [hdone (by rw [hstatus, hst]), hstay, hdock] at hrun
    exact hrun
  · have hst : h.returnStatus = .done := hstatus.trans (((returnStatus_free hf).2 hp).2.2 hok)
    have hfree : h.dock.state = .idle ∨ h.dock.state = .failed := by rwa [hdock]
    obtain ⟨hw, hflag, hfb, -, hplan, hpower, -⟩ := returnStart_accepted hst hfree
    obtain ⟨hcrumbs, hnone⟩ := returnStart_state hst hfree
    have hkeeps : h.returnStart.trail = h.trail ∧ h.returnStart.permit = h.permit ∧ h.returnStart.table = h.table := by simp
    obtain ⟨hkt, hkp, hkb⟩ := hkeeps
    rw [hdone hst] at hrun
    rw [htrail] at hcrumbs hnone hkt
    generalize h.returnStart = t at *
    refine ⟨_, hrun, ?_⟩
    simp only [Hub.reply_frame]
    exact ⟨hw, planHas_reply hflag _ _, hfb, planHas_reply hplan _ _, powerHas_reply hpower _ _, hcrumbs, hnone, hkt,
      hkp.trans hpermit, hkb.trans htable⟩
  · have hstay : h.cancelReturn = h := if_pos (by rw [hdock]; exact hs)
    rw [hstay, hdock, hs] at hcancel
    exact hcancel
  · have hne : h.dock.state ≠ .idle := by rwa [hdock]
    have heq : h.cancelReturn = (h.setReturn .idle).pushTest := if_neg hne
    obtain ⟨hplan, hpower⟩ := Hub.setReturn_flags h .idle hne.symm
    have hd : h.cancelReturn.dock = { s.hub.dock with state := .idle, timer := none } := by
      simp only [heq, Hub.pushTest_frame]
      rw [Hub.setReturn_dock h .idle hne.symm, hdock]
      simp
    have hatt : h.cancelReturn.att = (h.setReturn .idle).att := by simp only [heq, Hub.pushTest_frame]
    have hkeeps : h.cancelReturn.permit = h.permit ∧ h.cancelReturn.odo = h.odo ∧ h.cancelReturn.route = h.route := by simp
    obtain ⟨hkp, hko, hkr⟩ := hkeeps
    have hplan' : h.cancelReturn.planHas .returnChanged = true := (planHas_congr (by rw [hatt]) _).trans hplan
    have hpower' : h.cancelReturn.powerHas .returnChanged = true := (powerHas_congr (by rw [hatt]) _).trans hpower
    generalize h.cancelReturn = t at *
    refine ⟨_, hcancel, ?_⟩
    simp only [Hub.reply_frame]
    exact ⟨hd, planHas_reply hplan' _ _, powerHas_reply hpower' _ _, hkp.trans hpermit, hko.trans hodo, by rw [hkr, hways]⟩

end Sys2Proof.Machine
end
section
/-!
Reset and cold start, beacon slots, load mode and the Map Store's requests (R159, R162, R167, R172, R175, R182).
-/

namespace Sys2Proof.Machine

/-! ## Reset and cold start (R167, R179) -/

/-- Settles O60: reset is the start-up load's beginning. -/
theorem resetMeetsTheLaws : Obligations.ResetMeetsTheLaws := by
  refine ⟨(Hub.permitLaw_iff (Hub.started [] 0)).mpr started_law, ?_, ?_, cold_time_law, rfl, rfl, rfl, rfl, rfl⟩
  · exact ⟨⟨.nil, fun p hp => absurd hp List.not_mem_nil⟩, fun p hp => absurd hp List.not_mem_nil,
      fun p hp => absurd hp List.not_mem_nil, rfl, rfl,
      ⟨fun p hp => absurd hp List.not_mem_nil, fun p hp => absurd hp (Option.not_mem_none p), rfl, rfl, rfl, rfl⟩, Nat.zero_le _⟩
  · decide

/-- In cold-start reset no command but the reset's end acts. -/
theorem exec_in_reset {s : State} {c : Instr} (hr : s.hub.inReset = true)
    (hc : ∀ vdd nrst, c ≠ .coldStartResetEnd vdd nrst) : exec c s = .next s := by
  cases c with
  | coldStart v n =>
    have hstay : s.hub.coldStart v n = s.hub := if_neg (by simp [hr])
    exact congrArg (fun h => Host.Outcome.next { s with hub := h }) hstay
  | coldStartResetEnd v n => exact absurd rfl (hc v n)
  | millisecondEnd | ask _ | stopDone | brushLoad _ | climb | driveBadFrame _ | beaconFrame _ _ | beaconShadowFrame _ _
  | flagPeek _ | planOtherCommand _ _ | unknownRequest _ _ _ | liftTimerExpiry | setDownTimerExpiry | permitExpiry
  | stopTimerExpiry | leaseTimerExpiry | sagClearExpiry | dockingTimerExpiry | sightingFreshnessExpiry _ =>
    simp only [exec, execLiftTimerExpiry, execSetDownTimerExpiry, execPermitExpiry, execStopTimerExpiry,
      execLeaseTimerExpiry, execSagClearExpiry, execDockingTimerExpiry, execSightingFreshnessExpiry, execMillisecondEnd, execAsk, execStopDone, execBrushLoad, execClimb, execDriveBadFrame,
      execBeaconFrame, execBeaconShadowFrame, execFlagPeek, execPlanOtherCommand, execUnknownRequest, run_in_reset s _ hr]
  | _ => exact run_in_reset s _ hr

/-- Settles O3: the hub falls into cold-start reset and leaves it for the start-up load. -/
theorem coldStartHoldsAndReleasesTheHub : Obligations.ColdStartHoldsAndReleasesTheHub := by
  refine ⟨fun s vdd nrst hr hlow => ?_, fun s vdd hr hv => ?_, fun s c hr hc => exec_in_reset hr hc⟩
  · have hcold : s.hub.coldStart vdd nrst =
        { Hub.cold s.hub.fallenFlash (s.hub.freeDraws + s.hub.store.underWay.isSome.toNat) with inReset := true } :=
      if_pos ⟨hlow, hr⟩
    have hrun : Runs (.coldStart vdd nrst) s (s.hub.coldStart vdd nrst) := rfl
    rw [hcold] at hrun
    refine ⟨_, hrun, rfl, rfl, rfl, rfl, fun hn => ?_, fun c hc => ⟨?_, fun a ha => ?_, ?_⟩⟩
    · simp [Hub.cold, hn, Hub.fallenFlash]
    · simp [Hub.cold, hc]
    · exact Hub.fallenFlash_outside hc ha
    · rintro rfl hm
      exact Hub.fallenFlash_noMarker hc hm
  · have hend : s.hub.resetEnd vdd true = Hub.started s.hub.flash s.hub.freeDraws := if_pos ⟨hr, hv, rfl⟩
    have hrun : Runs (.coldStartResetEnd vdd true) s (s.hub.resetEnd vdd true) := rfl
    rw [hend] at hrun
    exact ⟨_, hrun, rfl, rfl, rfl, rfl⟩

/-! ## Beacon slots and load mode (R159, R162) -/

theorem beaconSlot_eq (h : Hub) (a b c d e f : Byte) :
    h.beaconSlot [a, b, c, d, e, f] =
      if a.toNat ≤ 2 then
        let m : MatchSlot :=
          ⟨BitVec.ofNat 16 (256 * b.toNat + c.toNat), BitVec.ofNat 16 (256 * d.toNat + e.toNat), f.getLsbD 0⟩
        { h with beacon := h.beacon.setSlot a.toNat m }.reply .plan
          ⟨.done, 0x38#8, byte a.toNat :: be16 m.pattern.toNat ++ be16 m.mask.toNat ++ [flagByte m.enabled]⟩
      else h.reply .plan ⟨.badField, 0x38#8, []⟩ := rfl

theorem loadMode_eq (h : Hub) (a : Byte) :
    h.loadMode [a] =
      if a.toNat ≤ 1 then
        let l : LoadSup := { h.load with power := decide (a.toNat = 1) }
        (h.setCauses l).reply .power ⟨.done, 0x48#8, [byte (h.setCauses l).load.bits, flagByte (h.setCauses l).load.heavy]⟩
      else h.reply .power ⟨.badField, 0x48#8, []⟩ := rfl

/-- Settles O48: one slot's fields are replaced; the load's causes follow the setting. -/
theorem beaconSlotAndLoadMode : Obligations.BeaconSlotAndLoadMode := by
  intro s a b c d e f hr
  have hmode : Runs (.loadMode [a]) s (s.hub.loadMode [a]) := runs_requested (p := .power) rfl hr nofun rfl
  rw [loadMode_eq] at hmode
  refine ⟨fun ho => ?_, fun ha => ?_, fun ha => ?_⟩
  · intro h m body
    have hrun : Runs (.beaconSlot [a, b, c, d, e, f]) s (h.beaconSlot [a, b, c, d, e, f]) :=
      runs_requested rfl hr (fun _ => ho) rfl
    rw [beaconSlot_eq, byte_toNat] at hrun
    refine ⟨fun ha => ?_, fun ha => ?_, fun ha => ?_, fun ha => ?_⟩
    · rw [if_neg (by omega)] at hrun
      exact hrun
    all_goals
      rw [if_pos (by omega), ha] at hrun
      exact hrun
  · rw [if_neg (by omega)] at hmode
    exact hmode
  · intro l answer
    rw [if_pos ha] at hmode
    dsimp only at hmode
    rw [Hub.setCauses_load] at hmode
    exact hmode

/-! ## The Map Store's requests (R172, R175, R182) -/

theorem mapSave_eq (h : Hub) (a b : Byte) :
    (BitVec.ofNat 4 a.toNat = 0 ∨ 3 < b.toNat → h.mapSave [a, b] = h.reply .plan ⟨.badField, 0x40#8, []⟩)
    ∧ ∀ home, BitVec.ofNat 4 a.toNat ≠ 0 → floorOf b.toNat = some home →
      h.mapSave [a, b] =
        if h.store.phase = .idle then
          { h with
            store.phase := .save (.begin (BitVec.ofNat 4 a.toNat) home), store.linkOut := [[0x05#8]] }.reply .plan
            ⟨.started, 0x40#8, []⟩
        else h.reply .plan ⟨.busy, 0x40#8, []⟩ := by
  have ha : u8 [a, b] 0 = a.toNat := rfl
  have hb : u8 [a, b] 1 = b.toNat := rfl
  refine ⟨fun hbad => ?_, fun home hm hf => ?_⟩
  · have hnone : (if BitVec.ofNat 4 a.toNat = 0 then none else floorOf b.toNat) = none := by
      rcases hbad with hz | hf
      · rw [if_pos hz]
      · rw [floorOf_none hf, ite_self]
    simp only [Hub.mapSave, ha, hb, hnone]
    rfl
  · simp only [Hub.mapSave, ha, hb, if_neg hm, hf]
    rfl

/-- The hub with a map load begun, before the check in flight is answered (R175). -/
def Hub.loadBegun (h : Hub) (mask : BitVec 4) : Hub :=
  { h with
    store.phase := .load { LoadOp.startUpLoad with mask := mask, startUp := false }
    store.linkOut := [[0x05#8]] }

theorem mapLoad_eq (h : Hub) (a : Byte) :
    h.mapLoad [a] =
      if BitVec.ofNat 4 a.toNat = 0 then h.reply .plan ⟨.badField, 0x41#8, []⟩
      else if h.store.phase ≠ .idle then h.reply .plan ⟨.busy, 0x41#8, []⟩
      else if h.inMotion then h.reply .plan ⟨.inMotion, 0x41#8, []⟩
      else
        ((h.loadBegun (BitVec.ofNat 4 a.toNat)).abandonCheck .loading).reply .plan ⟨.started, 0x41#8, []⟩ := rfl

/-- A check in flight is abandoned with a refusal, counted, as the hub before it would give it (R101). -/
theorem abandonCheck_refuses {h g : Hub} {c : Check} (r : Reason) (hc : g.permit.check = some c)
    (hd : g.drive = h.drive) (hh : g.permit.holds = h.permit.holds) (ho : g.odo = h.odo) (hk : g.dock = h.dock)
    (hw : g.route.waypoints = h.route.waypoints) (ht : g.trail = h.trail) (hb : g.beacon = h.beacon) :
    (g.abandonCheck r).drive = (h.refuse c.ask.seq r false).drive
    ∧ (g.abandonCheck r).att.refusals = g.att.refusals.modify r.ctorIdx sat8 := by
  rw [Hub.abandonCheck_some g r c hc]
  exact ⟨Hub.refuse_drive h { g with permit.check := none } _ _ _ hd hh ho hk hw ht hb, by simp⟩

theorem renewLease_clearSlot_refusals (h : Hub) : (h.framed .plan).att.refusals = h.att.refusals := by
  unfold Hub.framed Hub.clearSlot Hub.renewLease
  dsimp only
  split <;> split <;> rfl

/-- Settles O49: the tests of a save and a load, what they begin, and the status bytes. -/
theorem storeRequestsStartOperations : Obligations.StoreRequestsStartOperations := by
  intro s a b hr ho h mask no
  have hstore : h.store = s.hub.store := by simp [h]
  have hpermit : h.permit = s.hub.permit := by simp [h]
  have htable : h.table = s.hub.table := by simp [h]
  have hmotion : h.inMotion = s.hub.inMotion := by simp [Hub.inMotion, hpermit]
  have hsave : Runs (.mapSave [a, b]) s (h.mapSave [a, b]) := runs_requested rfl hr (fun _ => ho) rfl
  have hload : Runs (.mapLoad [a]) s (h.mapLoad [a]) := runs_requested rfl hr (fun _ => ho) rfl
  rw [mapLoad_eq, hstore, hmotion] at hload
  refine ⟨fun hb => ?_, fun home hm hf => ⟨fun hi => ?_, fun hi => ?_⟩, fun hm => ?_, fun hm hi => ?_,
    fun hm hi hq => ?_, fun hm hi hq => ?_, ?_⟩
  · rw [(mapSave_eq h a b).1 hb] at hsave
    exact hsave
  · rw [(mapSave_eq h a b).2 home hm hf, hstore, if_neg hi] at hsave
    exact hsave
  · rw [(mapSave_eq h a b).2 home hm hf, hstore, if_pos hi, ← hstore] at hsave
    exact hsave
  · rw [if_pos hm] at hload
    exact hload
  · rw [if_neg hm, if_pos hi] at hload
    exact hload
  · rw [if_neg hm, if_neg (by simp [hi]), if_pos hq] at hload
    exact hload
  · rw [if_neg hm, if_neg (by simp [hi]), if_neg (by simp [hq])] at hload
    have hparts : (h.loadBegun mask).permit = s.hub.permit ∧ (h.loadBegun mask).drive = s.hub.drive
        ∧ (h.loadBegun mask).odo = s.hub.odo ∧ (h.loadBegun mask).dock = s.hub.dock
        ∧ (h.loadBegun mask).route.waypoints = s.hub.route.waypoints ∧ (h.loadBegun mask).trail = s.hub.trail
        ∧ (h.loadBegun mask).beacon = s.hub.beacon ∧ (h.loadBegun mask).table = s.hub.table := by
      simp [Hub.loadBegun, h]
    have hrefusals : (h.loadBegun mask).att.refusals = s.hub.att.refusals := renewLease_clearSlot_refusals s.hub
    have hbegun : (h.loadBegun mask).store = { s.hub.store with
        phase := .load { LoadOp.startUpLoad with mask := mask, startUp := false }, linkOut := [[0x05#8]] } := by
      rw [← hstore]
      rfl
    change Runs (.mapLoad [a]) s (((h.loadBegun mask).abandonCheck .loading).reply .plan ⟨.started, 0x41#8, []⟩) at hload
    generalize h.loadBegun mask = g at hload hparts hrefusals hbegun
    obtain ⟨hp, hd, hodo, hk, hw, ht, hb, htab⟩ := hparts
    refine ⟨_, hload, ?_, ?_, fun hn => ?_, fun c hc => ?_, ?_, rfl, ?_, ?_⟩
    · simp [Hub.loading, hbegun]
    · simp [hp]
    · rw [Hub.abandonCheck_none g .loading (by rw [hp]; exact hn)]
      simp [hd, hrefusals]
    · obtain ⟨hdrive, hcount⟩ := abandonCheck_refuses (h := s.hub) (g := g) (c := c) .loading (by rw [hp]; exact hc) hd
        (by rw [hp]) hodo hk hw ht hb
      simp only [Hub.reply_frame, Hub.reply_refusals, hdrive, hcount, hrefusals]
      exact ⟨trivial, rfl⟩
    · simp [hbegun]
    · simp [htab]
    · simp [hodo]
  · intro code position operation result
    have hrun : Runs (.storeStatus []) s (h.reply .plan ⟨.done, 0x42#8, h.storeBytes⟩) :=
      runs_requested rfl hr (fun _ => ho) rfl
    have hcode : s.hub.store.stateCode = code := by
      simp only [code, Store.stateCode]
      cases s.hub.store.phase with
      | idle => rfl
      | load op => rfl
      | save op => cases op.step <;> rfl
    have hposition : s.hub.store.slotPosition = position := by
      simp only [position, ← hcode, Store.slotPosition]
      cases s.hub.store.phase <;> rfl
    have hoperation : byte ((s.hub.store.lastOp.map (·.ctorIdx)).getD 2) = operation := by
      simp only [operation]
      rcases s.hub.store.lastOp with _ | _ | _ <;> rfl
    have hresult : byte (codeOf s.hub.store.lastResult (·.ctorIdx)) = result := by
      simp only [result]
      rcases s.hub.store.lastResult with _ | _ | _ | _ | _ | _ | _ <;> rfl
    rw [← hcode, ← hposition, ← hoperation, ← hresult]
    rw [Hub.storeBytes, hstore, htable] at hrun
    exact hrun

end Sys2Proof.Machine
end
section
/-!
The Map Store's busy waits, the save, and what an operation's end leaves (R169 to R174, R179, R182).
-/

namespace Sys2Proof.Machine

section
variable {h : Hub}

/-! ## The end of an operation (R171, R179, R182) -/

theorem endStore_save {op : SaveOp} (hp : h.store.phase = .save op) (r : StoreResult) (passed : Bool) :
    h.endStore r passed =
      Hub.setPlan .storeDone
        { h with
          store.phase := .idle, store.lastOp := some .save, store.lastResult := some r, store.entryCount := op.written } := by
  simp only [Hub.endStore, hp]

/-- What the end of a load with a result leaves; `home` is the floor a start-up load makes active. -/
structure Hub.LoadEnded (g h : Hub) (op : LoadOp) (r : StoreResult) (home : Floor) : Prop where
  store : h.store = { g.store with
    phase := .idle, lastOp := some .load, lastResult := some r, entryCount := op.inserted
    dropped := op.dropped, skipped := op.skipped }
  flag : h.planHas .storeDone = true
  table : h.table = g.table
  record : h.dock.record = g.dock.record
  startUp : op.startUp = true → h.permit.startUpEnded = true ∧ h.odo.floor = home
  later : op.startUp = false → h.permit.startUpEnded = g.permit.startUpEnded ∧ h.odo.floor = g.odo.floor

theorem dockFloorChange_record : h.dockFloorChange.dock.record = h.dock.record := by
  unfold Hub.dockFloorChange Hub.trailDone
  split
  · split <;> simp
  all_goals simp

theorem changeFloor_record (f : Floor) : (h.changeFloor f).dock.record = h.dock.record := by
  unfold Hub.changeFloor
  split
  · rfl
  · dsimp only
    rw [dockFloorChange_record]
    simp

theorem changeFloor_planHas {f : PlanFlag} (hf : h.planHas f = true) (home : Floor) : (h.changeFloor home).planHas f = true := by
  unfold Hub.changeFloor
  split
  · exact hf
  · have hpush : (({ h with odo.floor := home } : Hub).emptyTrail.pushTest).planHas f = true := by
      rw [Hub.emptyTrail_pushTest]
      exact hf
    exact dockFloorChange_planHas
      (planHas_setPlan_of (h := { ({ h with odo.floor := home } : Hub).emptyTrail.pushTest with route.waypoints := [] })
        hpush .routeEmpty)

theorem kickUpdater_planHas {f : PlanFlag} (hf : h.planHas f = true) : h.kickUpdater.planHas f = true := by
  unfold Hub.kickUpdater
  split
  · exact hf
  · exact (Hub.takeRecords_worked ..).flags f hf

theorem endStore_load {op : LoadOp} (hp : h.store.phase = .load op) (r : StoreResult) (passed : Bool) :
    h.LoadEnded (h.endStore r passed) op r (op.homeFloor passed) := by
  have heq : h.endStore r passed =
      (if op.startUp then
        (Hub.setPlan .storeDone { h with store := { h.store with
          phase := .idle, lastOp := some .load, lastResult := some r, entryCount := op.inserted
          dropped := op.dropped, skipped := op.skipped } }).endStartUp (op.homeFloor passed)
      else
        Hub.setPlan .storeDone { h with store := { h.store with
          phase := .idle, lastOp := some .load, lastResult := some r, entryCount := op.inserted
          dropped := op.dropped, skipped := op.skipped } }).kickUpdater := by
    simp only [Hub.endStore, hp]
  have hflag : (Hub.setPlan .storeDone { h with store := { h.store with
      phase := .idle, lastOp := some .load, lastResult := some r, entryCount := op.inserted
      dropped := op.dropped, skipped := op.skipped } }).planHas .storeDone = true := Hub.planHas_setPlan_self ..
  rw [heq]
  cases hs : op.startUp with
  | true =>
    rw [if_pos rfl]
    refine ⟨by simp, kickUpdater_planHas ?_, by simp, ?_, fun _ => ?_, fun hn => ?_⟩
    · exact changeFloor_planHas hflag _
    · simp [Hub.endStartUp, changeFloor_record]
    · simp [Hub.endStartUp]
    · rw [hs] at hn
      cases hn
  | false =>
    rw [if_neg (by simp)]
    refine ⟨by simp, kickUpdater_planHas hflag, by simp, by simp, fun hn => ?_, fun _ => by simp⟩
    rw [hs] at hn
    cases hn

/-! ## The busy wait (R169) -/

/-- How long ago the first status read of a wait came. -/
def Hub.waited (h : Hub) (first : Nat) : Nat := (h.time.ms + 4294967296 - first) % 4294967296

theorem flashSend_status : h.flashSend [.readStatus] = { h with store.linkOut := [[0x05#8]] } := rfl

theorem busyWait_busy (w : Option Nat) (ready : Hub → Hub) (again : Nat → Hub → Hub) :
    h.busyWait w true ready again =
      if 500 < h.waited (w.getD h.time.ms) then h.cutMarker.endStore .flashTimeout false
      else { again (w.getD h.time.ms) h with store.linkOut := [[0x05#8]] } := by
  unfold Hub.busyWait
  rw [if_pos rfl]
  by_cases hn : 500 < h.waited (w.getD h.time.ms)
  · rw [if_pos hn]
    exact if_pos hn
  · rw [if_neg hn]
    exact if_neg hn

theorem busyWait_clear (w : Option Nat) (ready : Hub → Hub) (again : Nat → Hub → Hub) :
    h.busyWait w false ready again = ready h.flashDone := by
  unfold Hub.busyWait
  rw [if_neg Bool.false_ne_true]

theorem busyWait_again {w : Option Nat} {first : Nat} (hw : w.getD h.time.ms = first) (hn : h.waited first ≤ 500)
    (ready : Hub → Hub) (again : Nat → Hub → Hub) :
    h.busyWait w true ready again = { again first h with store.linkOut := [[0x05#8]] } := by
  rw [busyWait_busy, hw, if_neg (Nat.not_lt.mpr hn)]

theorem busyWait_late {w : Option Nat} {first : Nat} (hw : w = some first) (hn : 500 < h.waited first)
    (ready : Hub → Hub) (again : Nat → Hub → Hub) :
    h.busyWait w true ready again = h.cutMarker.endStore .flashTimeout false := by
  rw [busyWait_busy, hw, Option.getD_some, if_pos hn]

theorem flashStatus_save {op : SaveOp} (hp : h.store.phase = .save op) (hw : op.step.waits = true) (busy : Bool) :
    h.flashStatus busy =
      h.busyWait op.waitFrom busy (Hub.saveReady { op with waitFrom := none })
        fun first => Hub.setSave { op with waitFrom := some first } := by
  simp only [Hub.flashStatus, hp, hw, if_true]

theorem flashStatus_load {op : LoadOp} (hp : h.store.phase = .load op) (hs : op.step = .opening) (busy : Bool) :
    h.flashStatus busy =
      h.busyWait op.waitFrom busy
        (fun h => Hub.flashSend [.read 0] (h.setLoad { op with step := .header, waitFrom := none }))
        fun first => Hub.setLoad { op with waitFrom := some first } := by
  simp only [Hub.flashStatus, hp, hs, if_true]

/-- Outside a busy wait a status read does nothing. -/
theorem flashStatus_outside (busy : Bool)
    (ho : h.store.phase = .idle ∨ (∃ op k, h.store.phase = .save op ∧ op.step = .reading k)
      ∨ ∃ op, h.store.phase = .load op ∧ op.step ≠ .opening) : h.flashStatus busy = h := by
  rcases ho with hp | ⟨op, k, hp, hs⟩ | ⟨op, hp, hs⟩
  · simp only [Hub.flashStatus, hp]
  · simp [Hub.flashStatus, hp, hs, SaveStep.waits]
  · simp only [Hub.flashStatus, hp, if_neg hs]

theorem runs_flashStatus {s : State} (b : Byte) (hr : s.hub.inReset = false) {busy : Bool} (hb : b.getLsbD 0 = busy) :
    Runs (.flashStatusRead b) s (s.hub.flashStatus busy) := by
  rw [← hb]
  exact runs_of_run rfl hr

/-- An operation cut short elsewhere than in its marker's program leaves the flash. -/
theorem cutMarker_other (hc : h.store.underWay ≠ some (.pageProgram 0 imageMarker)) : h.cutMarker = h := if_neg hc

theorem cutMarker_marker (hc : h.store.underWay = some (.pageProgram 0 imageMarker)) :
    h.cutMarker.flash = h.fallenFlash ∧ h.cutMarker.store.underWay = none := by
  unfold Hub.cutMarker
  rw [if_pos hc]
  exact ⟨rfl, rfl⟩

end

/-- A busy wait of a save that reads busy. -/
theorem save_reads_busy {s : State} {b : Byte} {op : SaveOp} (hr : s.hub.inReset = false) (hb : b.getLsbD 0 = true)
    (hp : s.hub.store.phase = .save op) (hw : op.step.waits = true) :
    (∀ first, op.waitFrom.getD s.hub.time.ms = first → s.hub.waited first ≤ 500 →
      Runs (.flashStatusRead b) s
        { s.hub with store.phase := .save { op with waitFrom := some first }, store.linkOut := [[0x05#8]] })
    ∧ (∀ first, op.waitFrom = some first → 500 < s.hub.waited first →
      Runs (.flashStatusRead b) s (s.hub.cutMarker.endStore .flashTimeout false)) := by
  have hrun := runs_flashStatus b hr hb
  rw [flashStatus_save hp hw] at hrun
  refine ⟨fun first hf hn => ?_, fun first hf hn => ?_⟩
  · rw [busyWait_again hf hn] at hrun
    exact hrun
  · rw [busyWait_late hf hn] at hrun
    exact hrun

/-- The opening wait of a load that reads busy. -/
theorem load_reads_busy {s : State} {b : Byte} {op : LoadOp} (hr : s.hub.inReset = false) (hb : b.getLsbD 0 = true)
    (hp : s.hub.store.phase = .load op) (hs : op.step = .opening) :
    (∀ first, op.waitFrom.getD s.hub.time.ms = first → s.hub.waited first ≤ 500 →
      Runs (.flashStatusRead b) s
        { s.hub with store.phase := .load { op with waitFrom := some first }, store.linkOut := [[0x05#8]] })
    ∧ (∀ first, op.waitFrom = some first → 500 < s.hub.waited first →
      Runs (.flashStatusRead b) s (s.hub.cutMarker.endStore .flashTimeout false)) := by
  have hrun := runs_flashStatus b hr hb
  rw [flashStatus_load hp hs] at hrun
  refine ⟨fun first hf hn => ?_, fun first hf hn => ?_⟩
  · rw [busyWait_again hf hn] at hrun
    exact hrun
  · rw [busyWait_late hf hn] at hrun
    exact hrun

/-- Busy clear in a wait of a save: what was under way is complete, and the save goes on. -/
theorem save_reads_ready {s : State} {b : Byte} {op : SaveOp} (hr : s.hub.inReset = false) (hb : b.getLsbD 0 = false)
    (hp : s.hub.store.phase = .save op) (hw : op.step.waits = true) :
    Runs (.flashStatusRead b) s (s.hub.flashDone.saveReady { op with waitFrom := none }) := by
  have hrun := runs_flashStatus b hr hb
  rwa [flashStatus_save hp hw, busyWait_clear] at hrun

/-! ## The save goes on (R172 to R174) -/

section
variable {h : Hub} {op : SaveOp}

theorem saveNext_eq :
    (∀ slot, h.table.slots.nextOccupied op.position = some slot →
      h.saveNext op = h.setSave { op with step := .reading slot, waitFrom := none })
    ∧ (h.table.slots.nextOccupied op.position = none → op.buffer = [] → h.saveNext op = h.programHeader op)
    ∧ (h.table.slots.nextOccupied op.position = none → op.buffer ≠ [] → h.saveNext op = h.programPage none op) := by
  refine ⟨fun slot hn => ?_, fun hn hb => ?_, fun hn hb => ?_⟩
  · simp only [Hub.saveNext, hn]
  · simp only [Hub.saveNext, hn, hb, List.isEmpty_nil, if_true]
  · simp [Hub.saveNext, hn, hb]

/-- A grant of a slot read takes the entry of a masked floor into the page buffer. -/
theorem saveGrant_eq {slot : Nat} (hp : h.store.phase = .save op) (hs : op.step = .reading slot) {op' : SaveOp}
    (ho : op' = { op with buffer := op.buffer ++ ((h.table.slots.entry slot).filter fun e => masks op.mask e.floor).toList }) :
    h.saveGrant =
      if op'.buffer.length = 16 then h.programPage (some slot) op' else h.saveNext { op' with position := slot + 1 } := by
  subst ho
  simp only [Hub.saveGrant, hp, hs]

end

end Sys2Proof.Machine
end
section
/-!
Saves wait, read and program (R169 to R174).
-/

namespace Sys2Proof.Machine

section
variable {h : Hub}

/-- What a busy wait that has ended leaves of the flash: a program under way is carried out (R169, R174). -/
theorem flashDone_eq {flash : Memory}
    (hpage : ∀ a data, h.store.underWay = some (.pageProgram a data) → flash = h.flash.writeAll a data)
    (hother : (∀ a data, h.store.underWay ≠ some (.pageProgram a data)) → flash = h.flash) :
    h.flashDone = { h with flash := flash, store := { h.store with underWay := none } } := by
  have hprogrammed : h.store.programmed h.flash = flash := by
    unfold Store.programmed
    split
    · next a data hu => exact (hpage a data hu).symm
    · next hu => exact (hother fun a data hc => hu a data hc).symm
  rw [Hub.flashDone, hprogrammed]

theorem programPage_eq (k : Option Nat) (op : SaveOp) :
    h.programPage k op =
      { h with
        store := { h.store with
          underWay := some (.pageProgram (4096 + 16 * op.written) (op.buffer.flatMap (·.encode)))
          phase := .save { op with step := .programmed k, waitFrom := none }
          linkOut :=
            [[0x06#8], 0x02#8 :: be24 (4096 + 16 * op.written) ++ op.buffer.flatMap (·.encode), [0x05#8]] } } := rfl

theorem programHeader_eq (op : SaveOp) {tail : List Byte}
    (ht : headerTail op.mask op.home h.dock.record op.written op.crc = tail) :
    h.programHeader op =
      { h with
        store := { h.store with
          underWay := some (.pageProgram 4 tail), phase := .save { op with step := .headerSent, waitFrom := none }
          linkOut := [[0x06#8], 0x02#8 :: be24 4 ++ tail, [0x05#8]] } } := by
  subst ht
  rfl

/-- A Map Store with a claim to make rests before it; one without does not. -/
theorem afterGrant_store :
    (h.store.claims = true → h.afterGrant .store = { h with table.resting := some .store })
    ∧ (h.store.claims = false → h.afterGrant .store = { h with table.resting := none }) :=
  ⟨fun hc => Hub.afterGrant_more h hc, fun hc => Hub.afterGrant_last h hc⟩

end

/-- A read claim of a save that is granted. -/
theorem runs_saveSlotRead {s : State} {op : SaveOp} (hr : s.hub.inReset = false) (hg : s.hub.grants .store = true)
    (hp : s.hub.store.phase = .save op) : Runs .saveSlotRead s (s.hub.saveGrant.afterGrant .store) :=
  runs_of_grant rfl hr hg (by simp [Hub.saving, hp])

/-- Settles O50: each step of a save by where it stands, busy or not, and each slot it reads. -/
theorem savesWaitReadAndProgram : Obligations.SavesWaitReadAndProgram := by
  refine ⟨fun s b hr hb => ⟨fun op hp hw => ?_, fun op hp hs => ?_⟩, fun s b hr hb => ?_, fun s b hr ho => ?_,
    fun s op slot hr hg hp hs => ?_⟩
  · obtain ⟨hagain, hlate⟩ := save_reads_busy hr hb hp hw
    refine ⟨hagain, fun first hf hn => ?_⟩
    have hrun := hlate first hf hn
    refine ⟨fun hc => ?_, fun hc hm => ?_⟩
    · rw [cutMarker_other hc, endStore_save hp] at hrun
      exact hrun
    · obtain ⟨hflash, hunder⟩ := cutMarker_marker hc
      have hcut : s.hub.cutMarker.store.phase = .save op := by simpa using hp
      rw [endStore_save hcut] at hrun
      refine ⟨_, hrun, ?_, hunder, rfl, rfl, rfl, rfl, Hub.planHas_setPlan_self .., by simp, fun a ha => ?_⟩
      · exact hflash ▸ Hub.fallenFlash_noMarker hc hm
      · exact hflash ▸ Hub.fallenFlash_outside hc (.inr ha)
  · obtain ⟨hagain, hlate⟩ := load_reads_busy hr hb hp hs
    refine ⟨hagain, fun first hf hn => ?_⟩
    have hrun := hlate first hf hn
    have hend := endStore_load (h := s.hub.cutMarker) (op := op) (by simpa using hp) .flashTimeout false
    refine ⟨_, hrun, ?_, ?_, ?_, hend.flag, ?_, ?_, hend.startUp, fun hn => ?_⟩
    · rw [hend.store]
    · rw [hend.store]
    · rw [hend.store]
    · rw [hend.table]
      simp
    · rw [hend.record]
      simp
    · simpa using hend.later hn
  · intro flash ready header
    have hdone : s.hub.flashDone = { s.hub with flash := flash, store := { s.hub.store with underWay := none } } := by
      refine flashDone_eq (fun a data hu => ?_) fun hu => ?_
      · simp only [flash, hu]
      · simp only [flash]
    have hready {op : SaveOp} (hp : s.hub.store.phase = .save op) (hw : op.step.waits = true) :
        Runs (.flashStatusRead b) s (Hub.saveReady { op with waitFrom := none }
          { s.hub with flash := flash, store := { s.hub.store with underWay := none } }) := by
      rw [← hdone]
      exact save_reads_ready hr hb hp hw
    clear_value flash
    refine ⟨fun op sector hp hs => ?_, fun op hp hs => ⟨fun slot hn => ?_, fun hn hbuf => ?_⟩, fun op k hp hs => ?_,
      fun op hp hs => ?_, fun op hp hs => ?_, fun op hp hs => ?_⟩
    · rcases hs with ⟨hs, rfl⟩ | ⟨k, hs, hk, rfl⟩
      · have hrun := hready hp (by rw [hs]; rfl)
        simp only [Hub.saveReady, hs] at hrun
        exact hrun
      · have hrun := hready hp (by rw [hs]; rfl)
        simp only [Hub.saveReady, hs, if_pos hk] at hrun
        exact hrun
    · have hrun := hready hp (by rw [hs]; rfl)
      simp only [Hub.saveReady, hs] at hrun
      rw [if_neg (by decide), saveNext_eq.1 slot hn] at hrun
      exact hrun
    · have hrun := hready hp (by rw [hs]; rfl)
      simp only [Hub.saveReady, hs] at hrun
      rw [if_neg (by decide), saveNext_eq.2.1] at hrun
      · exact hrun
      · exact hn
      · exact hbuf
    · intro done
      have hrun := hready hp (by rw [hs]; rfl)
      simp only [Hub.saveReady, hs] at hrun
      refine ⟨fun slot next hk hn => ?_, fun slot hk hn => ?_, fun hk => ?_⟩
      · subst hk
        simp only [Hub.pageDone] at hrun
        rw [saveNext_eq.1 next hn] at hrun
        exact hrun
      · subst hk
        simp only [Hub.pageDone] at hrun
        rw [saveNext_eq.2.1 hn rfl] at hrun
        exact hrun
      · subst hk
        exact hrun
    · have hrun := hready hp (by rw [hs]; rfl)
      simp only [Hub.saveReady, hs] at hrun
      exact hrun
    · have hrun := hready hp (by rw [hs]; rfl)
      simp only [Hub.saveReady, hs] at hrun
      rw [endStore_save (op := op) (by exact hp)] at hrun
      exact hrun
    · have hrun := runs_flashStatus b hr hb
      rw [flashStatus_load hp hs, busyWait_clear, hdone] at hrun
      exact hrun
  · have hrun := runs_flashStatus (s := s) b hr rfl
    rwa [flashStatus_outside _ ho] at hrun
  · intro read op' sent page
    have hrun := runs_saveSlotRead hr hg hp
    rw [saveGrant_eq (op' := { op with buffer := op.buffer ++ read }) hp hs rfl] at hrun
    refine ⟨fun next hl hn => ?_, fun hl => ?_, fun hl hn hb => ?_, fun hn hb => ?_⟩
    · rw [if_neg hl, saveNext_eq.1 next hn] at hrun
      exact hrun
    · rw [if_pos hl, programPage_eq, afterGrant_store.2 rfl] at hrun
      exact hrun
    · rw [if_neg hl, (saveNext_eq (op := { op with buffer := op.buffer ++ read, position := slot + 1 })).2.2 hn hb,
        programPage_eq, afterGrant_store.2 rfl] at hrun
      exact hrun
    · have hl : op'.buffer.length ≠ 16 := by simp [hb]
      rw [if_neg hl, (saveNext_eq (op := { op with buffer := op.buffer ++ read, position := slot + 1 })).2.1 hn hb,
        programHeader_eq _ rfl, afterGrant_store.2 rfl] at hrun
      exact hrun

end Sys2Proof.Machine
end
section
/-!
Loads judge and rewrite (R176 to R179).
-/

namespace Sys2Proof.Machine

section
variable {h : Hub} {op : LoadOp}

/-! ## Where a load goes on -/

theorem fetchEntry_more {i : Nat} (hi : i < op.count) :
    h.fetchEntry op i =
      { h with
        store.phase := .load { op with step := .fetch i }, store.linkOut := [0x03#8 :: be24 (4096 + 16 * i)] } := if_pos hi

theorem fetchEntry_end {i : Nat} (hi : op.count ≤ i) : h.fetchEntry op i = h.loadEnd op := if_neg (Nat.not_lt.mpr hi)

theorem removeNext_some {lo slot : Nat} (hn : h.table.slots.nextOccupied lo = some slot) :
    h.removeNext op lo = { h with store.phase := .load { op with step := .removeRead slot } } := by
  simp only [Hub.removeNext, hn]
  rfl

theorem removeNext_none {lo : Nat} (hn : h.table.slots.nextOccupied lo = none) : h.removeNext op lo = h.fetchEntry op 0 := by
  simp only [Hub.removeNext, hn]

theorem LoadOp.count_of {k : ImageHeader} (hk : op.header = some k) : op.count = k.count := by
  simp only [LoadOp.count, hk]

/-- The first pass at its entry `i`: a further read, a failure, or the removal. -/
theorem judgeEntry_eq {k : ImageHeader} (hk : op.header = some k) (i : Nat) :
    (i < k.count → h.judgeEntry op i =
      { h with
        store.phase := .load { op with step := .judge i }, store.linkOut := [0x03#8 :: be24 (4096 + 16 * i)] })
    ∧ (k.count ≤ i → op.bad = true ∨ op.crc ≠ k.crc → h.judgeEntry op i = (h.setLoad op).endStore .badCheck false)
    ∧ (k.count ≤ i → op.bad = false → op.crc = k.crc → h.judgeEntry op i = h.removeNext op 0) := by
  have hc := LoadOp.count_of hk
  refine ⟨fun hi => if_pos (by omega), fun hi hb => ?_, fun hi hb he => ?_⟩
  · rw [Hub.judgeEntry, if_neg (by omega), if_pos]
    rcases hb with hb | hb
    · simp [hb]
    · simp [hk, Ne.symm hb]
  · rw [Hub.judgeEntry, if_neg (by omega), if_neg]
    simp [hb, hk, he]

/-! ## The end of a load (R178, R179) -/

/-- What the end of a load after its last image entry leaves. -/
structure Hub.LoadDone (g h : Hub) (op : LoadOp) (k : ImageHeader) (home dockFloor : Floor) : Prop where
  store : h.store = { g.store with
    phase := .idle, lastOp := some .load, lastResult := some (if op.dropped = 0 then .done else .tooMany)
    entryCount := op.inserted, dropped := op.dropped, skipped := op.skipped }
  flag : h.planHas .storeDone = true
  slots : h.table.slots = g.table.slots
  generation : h.table.generation = g.table.generation
  record : h.dock.record =
    if masks op.floors dockFloor then ⟨k.dockValid, k.dockX, k.dockY, k.dockHeading, dockFloor⟩ else g.dock.record
  startUp : op.startUp = true → h.permit.startUpEnded = true ∧ h.odo.floor = home
  later : op.startUp = false → h.permit.startUpEnded = g.permit.startUpEnded ∧ h.odo.floor = g.odo.floor

theorem loadEnd_done {k : ImageHeader} {home dockFloor : Floor} (hk : op.header = some k)
    (hh : floorOf k.home = some home) (hd : floorOf k.dockFloor = some dockFloor) :
    h.LoadDone (h.loadEnd op) op k home dockFloor := by
  have heq : h.loadEnd op =
      (if masks op.floors dockFloor then
        (h.setLoad op).writeDock ⟨k.dockValid, k.dockX, k.dockY, k.dockHeading, dockFloor⟩ else h.setLoad op).endStore
        (if op.dropped = 0 then .done else .tooMany) true := by
    simp only [Hub.loadEnd, hk, hd]
  have hhome : op.homeFloor true = home := by simp [LoadOp.homeFloor, hk, hh]
  rw [heq]
  by_cases hm : masks op.floors dockFloor = true
  · rw [if_pos hm]
    have hend := endStore_load (h := (h.setLoad op).writeDock ⟨k.dockValid, k.dockX, k.dockY, k.dockHeading, dockFloor⟩)
      (op := op) (by simp [Hub.setLoad]) (if op.dropped = 0 then .done else .tooMany) true
    rw [hhome] at hend
    refine ⟨?_, hend.flag, ?_, ?_, ?_, hend.startUp, fun hl => ?_⟩
    · rw [hend.store]
      simp [Hub.setLoad]
    · rw [hend.table]
      simp
    · rw [hend.table]
      simp
    · rw [hend.record, (writeDock_parts _).1, if_pos hm]
    · simpa using hend.later hl
  · rw [if_neg hm]
    have hend := endStore_load (h := h.setLoad op) (op := op) rfl (if op.dropped = 0 then .done else .tooMany) true
    rw [hhome] at hend
    refine ⟨?_, hend.flag, ?_, ?_, ?_, hend.startUp, fun hl => ?_⟩
    · rw [hend.store]
      rfl
    · rw [hend.table]
      rfl
    · rw [hend.table]
      rfl
    · rw [hend.record, if_neg hm]
      rfl
    · exact hend.later hl

/-- The arbiter notes that an ended load makes no further claim. -/
theorem Hub.LoadDone.noted {t : Hub} {k : ImageHeader} {home dockFloor : Floor} (hd : h.LoadDone t op k home dockFloor) :
    h.LoadDone (t.afterGrant .store) op k home dockFloor :=
  ⟨hd.store, hd.flag, hd.slots, hd.generation, hd.record, hd.startUp, hd.later⟩

/-! ## The reads of a load (R176, R177) -/

theorem runs_flashRead {s : State} (answer : FlashAnswer) (hr : s.hub.inReset = false)
    (hp : s.hub.store.phase = .load op) : Runs (.flashReadDone answer) s (s.hub.loadRead op answer) := by
  have hrun : Runs (.flashReadDone answer) s (s.hub.flashRead answer) := runs_of_run rfl hr
  simpa only [Hub.flashRead, hp] using hrun

theorem loadRead_header (hs : op.step = .header) (answer : FlashAnswer) :
    (ImageHeader.decode (h.flashBytes 0 64 answer) = none → h.loadRead op answer = h.endStore .noImage false)
    ∧ (∀ k, ImageHeader.decode (h.flashBytes 0 64 answer) = some k → k.legal = false →
      h.loadRead op answer = h.endStore .badCheck false)
    ∧ ∀ k, ImageHeader.decode (h.flashBytes 0 64 answer) = some k → k.legal = true →
      h.loadRead op answer = h.judgeEntry { op with header := some k } 0 := by
  refine ⟨fun hd => ?_, fun k hd hl => ?_, fun k hd hl => ?_⟩
  · simp only [Hub.loadRead, hs, hd]
  · simp only [Hub.loadRead, hs, hd, hl, Bool.false_eq_true, if_false]
  · simp only [Hub.loadRead, hs, hd, hl, if_true]

theorem loadRead_judge {i : Nat} {k : ImageHeader} (hs : op.step = .judge i) (hk : op.header = some k)
    (answer : FlashAnswer) :
    h.loadRead op answer =
      h.judgeEntry
        { op with
          crc := crc16 op.crc (h.flashBytes (4096 + 16 * i) 16 answer)
          bad := op.bad || !(Entry.decode (h.flashBytes (4096 + 16 * i) 16 answer)).elim false fun e => masks k.mask e.floor }
        (i + 1) := by
  simp only [Hub.loadRead, hs, hk]
  rfl

theorem loadRead_fetch {i : Nat} {e : Entry} (hs : op.step = .fetch i) {answer : FlashAnswer}
    (hd : Entry.decode (h.flashBytes (4096 + 16 * i) 16 answer) = some e) :
    (masks op.floors e.floor = true →
      h.loadRead op answer = { h with store.phase := .load { op with step := .insert i e } })
    ∧ (masks op.floors e.floor = false → h.loadRead op answer = h.fetchEntry op (i + 1)) := by
  have hd' : Entry.decode (h.flashBytes (entryAddress i) 16 answer) = some e := hd
  refine ⟨fun hm => ?_, fun hm => ?_⟩
  · simp only [Hub.loadRead, hs, hd', hm, if_true]
    rfl
  · simp only [Hub.loadRead, hs, hd', hm, Bool.false_eq_true, if_false]

/-! ## The claims of a load (R177) -/

theorem runs_removal {s : State} {slot : Nat} (hr : s.hub.inReset = false) (hg : s.hub.grants .store = true)
    (hp : s.hub.store.phase = .load op) (hs : op.step = .removeRead slot ∨ op.step = .removeWrite slot) :
    Runs .loadRemovalClaim s (s.hub.removalGrant.afterGrant .store) := by
  refine runs_of_grant rfl hr hg ?_
  rcases hs with hs | hs <;> simp [Hub.inLoadStep, hp, hs, LoadStep.isRemoval]

theorem runs_insert {s : State} {i : Nat} {e : Entry} (hr : s.hub.inReset = false) (hg : s.hub.grants .store = true)
    (hp : s.hub.store.phase = .load op) (hs : op.step = .insert i e) :
    Runs .loadInsertWrite s (s.hub.insertGrant.afterGrant .store) :=
  runs_of_grant rfl hr hg (by simp [Hub.inLoadStep, hp, hs, LoadStep.isInsert])

theorem removalGrant_pass {slot : Nat} (hp : h.store.phase = .load op)
    (hs : op.step = .removeRead slot ∨ op.step = .removeWrite slot)
    (hn : (h.table.slots.entry slot).all (fun e => !masks op.floors e.floor) = true) :
    h.removalGrant = h.removeNext op (slot + 1) := by
  have hout : ((h.table.slots.entry slot).elim false fun e => masks op.floors e.floor) = false := by
    cases he : h.table.slots.entry slot with
    | none => rfl
    | some e =>
      rw [he] at hn
      simpa using hn
  rcases hs with hs | hs <;> simp only [Hub.removalGrant, hp, hs, hout, Bool.false_eq_true, if_false]

theorem removalGrant_found {slot : Nat} {e : Entry} (hp : h.store.phase = .load op)
    (he : h.table.slots.entry slot = some e) (hm : masks op.floors e.floor = true) :
    (op.step = .removeRead slot → h.removalGrant = { h with store.phase := .load { op with step := .removeWrite slot } })
    ∧ (op.step = .removeWrite slot → h.removalGrant = (h.removeSlot slot).removeNext op (slot + 1)) := by
  refine ⟨fun hs => ?_, fun hs => ?_⟩
  · simp only [Hub.removalGrant, hp, hs, he, Option.elim_some, hm, if_true]
    rfl
  · simp only [Hub.removalGrant, hp, hs, he, Option.elim_some, hm, if_true]

theorem insertGrant_eq {i : Nat} {e : Entry} (hp : h.store.phase = .load op) (hs : op.step = .insert i e) :
    (e.origin = .sensed → (h.table.sensedAt e.floor ⟨e.x0, e.y0⟩).isSome = true →
      h.insertGrant = h.fetchEntry { op with skipped := op.skipped + 1 } (i + 1))
    ∧ (∀ slot, e.origin = .planned ∨ h.table.sensedAt e.floor ⟨e.x0, e.y0⟩ = none → h.table.slots.free = some slot →
      h.insertGrant = (h.createIn slot e).fetchEntry { op with inserted := op.inserted + 1 } (i + 1))
    ∧ (e.origin = .planned ∨ h.table.sensedAt e.floor ⟨e.x0, e.y0⟩ = none → h.table.slots.free = none →
      h.insertGrant = h.fetchEntry { op with dropped := op.dropped + 1 } (i + 1)) := by
  have hnew (hn : e.origin = .planned ∨ h.table.sensedAt e.floor ⟨e.x0, e.y0⟩ = none) :
      ¬ (decide (e.origin = .sensed) && (h.table.sensedAt e.floor ⟨e.x0, e.y0⟩).isSome) = true := by
    rcases hn with hn | hn <;> simp [hn]
  refine ⟨fun ho ht => ?_, fun slot hn hf => ?_, fun hn hf => ?_⟩
  · simp only [Hub.insertGrant, hp, hs]
    rw [if_pos (by simp [ho, ht])]
  · simp only [Hub.insertGrant, hp, hs]
    rw [if_neg (hnew hn), hf]
  · simp only [Hub.insertGrant, hp, hs]
    rw [if_neg (hnew hn), hf]

end

end Sys2Proof.Machine
end
section
/-!
The loads' claims and ends put together (R176 to R179).
-/

namespace Sys2Proof.Machine

/-- A load that ends with a failure leaves table and dock record. -/
structure Hub.LoadFailed (g h : Hub) (op : LoadOp) (r : StoreResult) : Prop where
  phase : h.store.phase = .idle
  operation : h.store.lastOp = some .load
  result : h.store.lastResult = some r
  flag : h.planHas .storeDone = true
  slots : h.table.slots = g.table.slots
  generation : h.table.generation = g.table.generation
  record : h.dock.record = g.dock.record
  startUp : op.startUp = true → h.permit.startUpEnded = true ∧ h.odo.floor = 0

section
variable {h : Hub} {op : LoadOp}

theorem endStore_failed (hp : h.store.phase = .load op) (r : StoreResult) : h.LoadFailed (h.endStore r false) op r := by
  have hend := endStore_load hp r false
  have hstore := hend.store
  generalize h.endStore r false = t at hend hstore
  exact ⟨by rw [hstore], by rw [hstore], by rw [hstore], hend.flag, by rw [hend.table], by rw [hend.table], hend.record,
    hend.startUp⟩

/-- The failure of an operation that has gone on from the one of the hub. -/
theorem setLoad_failed {op' : LoadOp} (hs : op'.startUp = op.startUp) (r : StoreResult) :
    h.LoadFailed ((h.setLoad op').endStore r false) op r := by
  have hf := endStore_failed (h := h.setLoad op') (op := op') rfl r
  exact ⟨hf.phase, hf.operation, hf.result, hf.flag, hf.slots, hf.generation, hf.record, fun h => hf.startUp (hs.trans h)⟩

end

/-- The first pass and the second pass's reads (R176, R177). -/
theorem loads_judge {s : State} {op : LoadOp} (hr : s.hub.inReset = false) (hp : s.hub.store.phase = .load op)
    (answer : FlashAnswer) :
    (op.step = .header →
      let bytes := s.hub.flashBytes 0 64 answer
      (ImageHeader.decode bytes = none →
        ∃ h : Hub, Runs (.flashReadDone answer) s h ∧ s.hub.LoadFailed h op .noImage)
      ∧ (∀ k, ImageHeader.decode bytes = some k → k.legal = false →
        ∃ h : Hub, Runs (.flashReadDone answer) s h ∧ s.hub.LoadFailed h op .badCheck)
      ∧ (∀ k, ImageHeader.decode bytes = some k → k.legal = true →
        Runs (.flashReadDone answer) s (s.hub.judgeEntry { op with header := some k } 0)))
    ∧ (∀ i k, op.step = .judge i → op.header = some k → ∀ op', op' =
        { op with
          crc := crc16 op.crc (s.hub.flashBytes (4096 + 16 * i) 16 answer)
          bad := op.bad
            || !(Entry.decode (s.hub.flashBytes (4096 + 16 * i) 16 answer)).elim false fun e => masks k.mask e.floor } →
      Runs (.flashReadDone answer) s (s.hub.judgeEntry op' (i + 1))) := by
  have hrun := runs_flashRead answer hr hp
  refine ⟨fun hs => ⟨fun hd => ?_, fun k hd hl => ?_, fun k hd hl => ?_⟩, fun i k hs hk op' ho => ?_⟩
  · rw [(loadRead_header hs answer).1 hd] at hrun
    exact ⟨_, hrun, endStore_failed hp .noImage⟩
  · rw [(loadRead_header hs answer).2.1 k hd hl] at hrun
    exact ⟨_, hrun, endStore_failed hp .badCheck⟩
  · rw [(loadRead_header hs answer).2.2 k hd hl] at hrun
    exact hrun
  · rw [loadRead_judge hs hk, ← ho] at hrun
    exact hrun

/-- Settles O51: the first pass by its reads, the removal and the insertion by their claims, and the end. -/
theorem loadsJudgeAndRewrite : Obligations.LoadsJudgeAndRewrite := by
  refine ⟨fun s op answer hr hp => ?_, fun s op hr hg hp => ?_, fun s op k home dockFloor i hr hp hk hh hd hi => ?_⟩
  · intro failed
    have hfailed {t : Hub} {r : StoreResult} (hf : s.hub.LoadFailed t op r) : failed r t :=
      ⟨hf.phase, hf.operation, hf.result, hf.flag, hf.slots, hf.generation, hf.record, hf.startUp⟩
    obtain ⟨hheader, hjudge⟩ := loads_judge hr hp answer
    refine ⟨fun hs => ?_, fun i k hs hk => ?_, fun i e hs hd => ?_⟩
    · intro bytes
      obtain ⟨hnone, hillegal, hlegal⟩ := hheader hs
      refine ⟨fun hd => ?_, fun k hd hl => ?_, fun k hd hl hc => ?_, fun k hd hl hc => ?_⟩
      · obtain ⟨t, hrun, hf⟩ := hnone hd
        exact ⟨t, hrun, hfailed hf⟩
      · obtain ⟨t, hrun, hf⟩ := hillegal k hd hl
        exact ⟨t, hrun, hfailed hf⟩
      · have hrun := hlegal k hd hl
        rw [(judgeEntry_eq (op := { op with header := some k }) rfl 0).1 hc] at hrun
        exact hrun
      · intro op'
        have hrun := hlegal k hd hl
        obtain ⟨-, hbad, hgood⟩ := judgeEntry_eq (h := s.hub) (op := op') (k := k) rfl 0
        refine ⟨fun hb => ?_, fun slot hb he hn => ?_, fun home dockFloor hb he hn hh hd => ?_⟩
        · rw [hbad (by omega) hb] at hrun
          exact ⟨_, hrun, hfailed (setLoad_failed (op := op) (op' := op') rfl .badCheck)⟩
        · rw [hgood (by omega) hb he, removeNext_some hn] at hrun
          exact hrun
        · rw [hgood (by omega) hb he, removeNext_none hn, fetchEntry_end (by rw [LoadOp.count_of (k := k) rfl]; omega)] at hrun
          have hdone := loadEnd_done (h := s.hub) (op := op') (k := k) rfl hh hd
          have hstore := hdone.store
          generalize s.hub.loadEnd op' = t at hrun hdone hstore
          exact ⟨t, hrun, by rw [hstore], by rw [hstore], by rw [hstore], hdone.flag, by rw [hstore], hdone.slots,
            hdone.record, hdone.startUp⟩
    · intro bytes good op'
      have hgood : good = (Entry.decode bytes).elim false fun e => masks k.mask e.floor := by
        simp only [good]
        cases Entry.decode bytes <;> rfl
      have hrun := hjudge i k hs hk op' (by rw [← hgood])
      obtain ⟨hmore, hbad, hpass⟩ := judgeEntry_eq (h := s.hub) (op := op') (k := k) hk (i + 1)
      refine ⟨fun hc => ?_, fun hc hb => ?_, fun slot hc hb he hn => ?_, fun hc hz hb he hn => ?_⟩
      · rw [hmore hc] at hrun
        exact hrun
      · rw [hbad hc hb] at hrun
        exact ⟨_, hrun, hfailed (setLoad_failed (op := op) (op' := op') rfl .badCheck)⟩
      · rw [hpass hc hb he, removeNext_some hn] at hrun
        exact hrun
      · rw [hpass hc hb he, removeNext_none hn, fetchEntry_more (by rw [LoadOp.count_of (op := op') hk]; omega)] at hrun
        exact hrun
    · have hrun := runs_flashRead answer hr hp
      refine ⟨fun hm => ?_, fun hm hc => ?_⟩
      · rw [(loadRead_fetch hs hd).1 hm] at hrun
        exact hrun
      · rw [(loadRead_fetch hs hd).2 hm, fetchEntry_more hc] at hrun
        exact hrun
  · intro removes inserts less
    refine ⟨fun slot e hs he hm => ?_, fun slot e hs he hm => ⟨fun next hn => ?_, fun hn hc => ?_⟩,
      fun slot hs ha => ⟨fun next hn => ?_, fun hn hc => ?_⟩, fun i e hs hc => ?_⟩
    · have hrun := runs_removal hr hg hp (.inl hs)
      rw [(removalGrant_found hp he hm).1 hs] at hrun
      exact hrun
    · have hrun := runs_removal hr hg hp (.inr hs)
      rw [(removalGrant_found hp he hm).2 hs, removeNext_some (by simpa using hn)] at hrun
      exact hrun
    · have hrun := runs_removal hr hg hp (.inr hs)
      rw [(removalGrant_found hp he hm).2 hs, removeNext_none (by simpa using hn), fetchEntry_more hc] at hrun
      exact hrun
    · have hrun := runs_removal hr hg hp hs
      rw [removalGrant_pass hp hs ha, removeNext_some hn] at hrun
      exact hrun
    · have hrun := runs_removal hr hg hp hs
      rw [removalGrant_pass hp hs ha, removeNext_none hn, fetchEntry_more hc] at hrun
      exact hrun
    · intro go
      have hrun := runs_insert hr hg hp hs
      obtain ⟨hskip, hcreate, hdrop⟩ := insertGrant_eq hp hs
      refine ⟨fun ho ht => ?_, fun slot hn hf => ?_, fun hn hf => ?_⟩
      · rw [hskip ho ht, fetchEntry_more (by exact hc)] at hrun
        exact hrun
      · rw [hcreate slot hn hf, fetchEntry_more (by exact hc)] at hrun
        exact hrun
      · rw [hdrop hn hf, fetchEntry_more (by exact hc)] at hrun
        exact hrun
  · intro ended
    have hended {o : LoadOp} {g t : Hub} (hf : o.floors = op.floors) (hu : o.startUp = op.startUp)
        (hdk : g.dock = s.hub.dock) (hpm : g.permit = s.hub.permit) (hod : g.odo = s.hub.odo)
        (hdone : g.LoadDone t o k home dockFloor) : ended o t := by
      have hstore := hdone.store
      refine ⟨by rw [hstore], by rw [hstore], by rw [hstore], by rw [hstore], by rw [hstore], by rw [hstore], hdone.flag,
        ?_, fun h => hdone.startUp (hu.trans h), fun h => ?_⟩
      · rw [hdone.record, hf, hdk]
      · rw [← hpm, ← hod]
        exact hdone.later (hu.trans h)
    have hend (g : Hub) (o : LoadOp) (ho : o.header = some k) : g.LoadDone (g.loadEnd o) o k home dockFloor :=
      loadEnd_done ho hh hd
    refine ⟨fun answer e hs he hm => ?_, fun e hs hg => ?_, fun slot hc hs hg => ⟨fun ha hn => ?_, fun e hw he hm hn => ?_⟩⟩
    · have hrun := runs_flashRead answer hr hp
      rw [(loadRead_fetch hs he).2 hm, fetchEntry_end hi] at hrun
      exact ⟨_, hrun, hended rfl rfl rfl rfl rfl (hend _ _ hk), (hend _ _ hk).slots⟩
    · have hrun := runs_insert hr hg hp hs
      obtain ⟨hskip, hcreate, hdrop⟩ := insertGrant_eq hp hs
      refine ⟨fun ho ht => ?_, fun slot hn hf => ?_, fun hn hf => ?_⟩
      · rw [hskip ho ht, fetchEntry_end (by exact hi)] at hrun
        have hdone := (hend s.hub { op with skipped := op.skipped + 1 } hk).noted
        exact ⟨_, hrun, hended rfl rfl rfl rfl rfl hdone, hdone.slots⟩
      · rw [hcreate slot hn hf, fetchEntry_end (by exact hi)] at hrun
        have hdone := (hend (s.hub.createIn slot e) { op with inserted := op.inserted + 1 } hk).noted
        exact ⟨_, hrun, hended (g := s.hub.createIn slot e) rfl rfl rfl rfl rfl hdone, hdone.slots, hdone.generation⟩
      · rw [hdrop hn hf, fetchEntry_end (by exact hi)] at hrun
        have hdone := (hend s.hub { op with dropped := op.dropped + 1 } hk).noted
        exact ⟨_, hrun, hended rfl rfl rfl rfl rfl hdone, hdone.slots⟩
    · have hrun := runs_removal hr hg hp hs
      rw [removalGrant_pass hp hs ha, removeNext_none hn, fetchEntry_end (Nat.le_of_eq hc)] at hrun
      have hdone := (hend s.hub op hk).noted
      exact ⟨_, hrun, hended rfl rfl rfl rfl rfl hdone, hdone.slots⟩
    · have hrun := runs_removal hr hg hp hs
      rw [(removalGrant_found hp he hm).2 hw, removeNext_none (by simpa using hn), fetchEntry_end (Nat.le_of_eq hc)] at hrun
      have hdone := (hend (s.hub.removeSlot slot) op hk).noted
      exact ⟨_, hrun, hended (g := s.hub.removeSlot slot) rfl rfl rfl rfl rfl hdone, hdone.slots, hdone.generation⟩

end Sys2Proof.Machine
end
section
/-!
The warm restart (R196).
-/

namespace Sys2Proof.Machine

section
variable {h : Hub}

/-! ## The refusal counters beside the Permit Controller -/

theorem setReturn_refusals (st : ReturnState) : (h.setReturn st).att.refusals = h.att.refusals := by
  unfold Hub.setReturn
  split
  · rfl
  · dsimp only
    split <;> rfl

theorem approachTests_refusals : h.approachTests.att.refusals = h.att.refusals := by
  unfold Hub.approachTests
  split
  · exact setReturn_refusals _
  · rfl

theorem dockFloorChange_refusals : h.dockFloorChange.att.refusals = h.att.refusals := by
  unfold Hub.dockFloorChange Hub.trailDone
  split
  · split
    · rw [approachTests_refusals, setReturn_refusals]
    · rw [setReturn_refusals]
  · exact approachTests_refusals
  all_goals rfl

theorem cancelReturn_refusals : h.cancelReturn.att.refusals = h.att.refusals := by
  unfold Hub.cancelReturn
  split
  · rfl
  · simp only [Hub.pushTest_frame]
    exact setReturn_refusals _

/-! ## A store operation cut short (R180) -/

/-- What an operation's end leaves of a hub with no evidence and no waypoint. -/
structure Hub.CutShort (g h : Hub) : Prop where
  permit : ∃ b, h.permit = { g.permit with startUpEnded := b }
  queue : h.queue = g.queue
  updater : h.updater = g.updater
  waypoints : h.route.waypoints = []
  advances : h.route.advances = g.route.advances
  record : h.dock.record = g.dock.record
  odo : h.odo = { g.odo with floor := h.odo.floor }
  refusals : h.att.refusals = g.att.refusals

theorem Hub.CutShort.of_same {g : Hub} (hp : h.permit = g.permit) (hq : h.queue = g.queue) (hu : h.updater = g.updater)
    (hw : h.route.waypoints = []) (ha : h.route.advances = g.route.advances) (hd : h.dock.record = g.dock.record)
    (ho : h.odo = g.odo) (hr : h.att.refusals = g.att.refusals) : g.CutShort h :=
  ⟨⟨_, hp⟩, hq, hu, hw, ha, hd, by rw [ho], hr⟩

theorem kickUpdater_empty (hq : h.queue.records = []) (hw : h.updater.work = none) : h.kickUpdater = h := by
  have hnone : { h with updater.work := none } = h := by rw [← hw]
  unfold Hub.kickUpdater
  split
  · rfl
  · rw [hq]
    exact hnone

/-- The start-up load's end makes a floor active. -/
theorem endStartUp_cutShort (hw : h.route.waypoints = []) (home : Floor) : h.CutShort (h.endStartUp home) := by
  unfold Hub.endStartUp
  by_cases hf : home = h.floor
  · have hstay : h.changeFloor home = h := if_pos hf
    rw [hstay]
    exact ⟨⟨true, rfl⟩, rfl, rfl, hw, rfl, rfl, rfl, rfl⟩
  · have hmove : h.changeFloor home = ({ h with odo.floor := home } : Hub).emptyTrail.pushTest.flushRoute.dockFloorChange :=
      if_neg hf
    refine ⟨⟨true, by simp⟩, by simp, by simp, (changeFloor_other hf).1, ?_, changeFloor_record home, by simp, ?_⟩
    · rw [hmove]
      simp [Hub.flushRoute]
    · rw [hmove]
      exact dockFloorChange_refusals.trans (by rw [Hub.emptyTrail_pushTest]; rfl)

theorem endStore_cutShort (hw : h.route.waypoints = []) (hq : h.queue.records = []) (hu : h.updater.work = none)
    (r : StoreResult) (passed : Bool) : h.CutShort (h.endStore r passed) := by
  cases hp : h.store.phase with
  | idle =>
    have hstay : h.endStore r passed = h := by simp only [Hub.endStore, hp]
    rw [hstay]
    exact .of_same rfl rfl rfl hw rfl rfl rfl rfl
  | save op =>
    rw [endStore_save hp]
    exact .of_same rfl rfl rfl hw rfl rfl rfl rfl
  | load op =>
    simp only [Hub.endStore, hp]
    cases hs : op.startUp with
    | true =>
      rw [if_pos rfl]
      have hend := endStartUp_cutShort (h := Hub.setPlan .storeDone { h with store := { h.store with
          phase := .idle, lastOp := some .load, lastResult := some r, entryCount := op.inserted
          dropped := op.dropped, skipped := op.skipped } }) hw (op.homeFloor passed)
      rw [kickUpdater_empty (by rw [hend.queue]; exact hq) (by rw [hend.updater]; exact hu)]
      exact ⟨hend.permit, hend.queue, hend.updater, hend.waypoints, hend.advances, hend.record, hend.odo, hend.refusals⟩
    | false =>
      rw [if_neg (by simp), kickUpdater_empty (by exact hq) (by exact hu)]
      exact .of_same rfl rfl rfl hw rfl rfl rfl rfl

/-- The operation a warm restart cuts (R180). -/
theorem abortStore_cutShort (hw : h.route.waypoints = []) (hq : h.queue.records = []) (hu : h.updater.work = none) :
    h.CutShort h.abortStore := by
  have hcut (r : StoreResult) (passed : Bool) : h.CutShort (h.cutMarker.endStore r passed) := by
    have hend := endStore_cutShort (h := h.cutMarker) (by simpa using hw) (by simpa using hq) (by simpa using hu) r passed
    generalize h.cutMarker.endStore r passed = t at hend
    obtain ⟨hp, hqq, huu, hww, ha, hd, ho, hr⟩ := hend
    simp only [Hub.cutMarker_frame] at hp hqq huu ha hd ho hr
    exact ⟨hp, hqq, huu, hww, ha, hd, ho, hr⟩
  unfold Hub.abortStore
  split
  · exact hcut _ _
  · exact hcut _ _
  · exact .of_same rfl rfl rfl hw rfl rfl rfl rfl

/-- Where the Map Store stands after a warm restart has cut its operation. -/
theorem abortStore_store :
    h.abortStore.store.phase = .idle
    ∧ (h.store.phase ≠ .idle → h.abortStore.store.lastResult = some .aborted ∧ h.abortStore.flash = h.cutMarker.flash)
    ∧ (h.store.phase = .idle → h.abortStore.flash = h.flash)
    ∧ ((∀ op, h.store.phase = .load op → op.startUp = false) → h.abortStore.odo.floor = h.odo.floor) := by
  cases hp : h.store.phase with
  | idle =>
    have hstay : h.abortStore = h := by simp only [Hub.abortStore, hp]
    rw [hstay]
    exact ⟨hp, fun hn => absurd rfl hn, fun _ => rfl, fun _ => rfl⟩
  | save op =>
    have hcut : h.cutMarker.store.phase = .save op := by simpa using hp
    have heq : h.abortStore = h.cutMarker.endStore .aborted false := by simp only [Hub.abortStore, hp]
    rw [heq, endStore_save hcut]
    exact ⟨rfl, fun _ => ⟨rfl, rfl⟩, nofun, fun _ => by simp⟩
  | load op =>
    have hcut : h.cutMarker.store.phase = .load op := by simpa using hp
    have heq : h.abortStore = h.cutMarker.endStore .aborted op.step.secondPass := by simp only [Hub.abortStore, hp]
    have hend := endStore_load hcut .aborted op.step.secondPass
    have hflash : (h.cutMarker.endStore .aborted op.step.secondPass).flash = h.cutMarker.flash := by simp
    rw [heq]
    refine ⟨by rw [hend.store], fun _ => ⟨by rw [hend.store], hflash⟩, nofun, fun hl => ?_⟩
    simpa using (hend.later (hl op rfl)).2

/-! ## The blocks after the operation is cut -/

theorem cutLookups_odo :
    h.cutLookups.odo.x = h.odo.x ∧ h.cutLookups.odo.y = h.odo.y ∧ h.cutLookups.odo.heading = h.odo.heading
    ∧ h.cutLookups.odo.pose = h.odo.pose ∧ h.cutLookups.odo.floor = h.odo.floor := by
  unfold Hub.cutLookups
  dsimp only
  split <;> simp

theorem cancelReturn_dock :
    h.cancelReturn.dock.state = .idle ∧ h.cancelReturn.dock.record = h.dock.record := by
  unfold Hub.cancelReturn
  split
  · next hs => exact ⟨hs, rfl⟩
  · simp

theorem restartLease_route :
    h.restartLease.route.waypoints = h.route.waypoints ∧ h.restartLease.route.advances = h.route.advances
    ∧ (h.limits.leasePeriod = 0 → h.restartLease.route.lease = .off ∧ h.restartLease.route.leaseTimer = none)
    ∧ (h.limits.leasePeriod ≠ 0 →
      h.restartLease.route.lease = .running
      ∧ h.restartLease.route.leaseTimer = some ⟨h.time.ms, h.limits.leasePeriod⟩) := by
  unfold Hub.restartLease Hub.renewLease
  by_cases hz : h.limits.leasePeriod = 0
  · simp [hz]
  · simp [hz, Hub.timer]

/-- The hub in the trigger RESTART, the permit ended and a check in flight refused. -/
def Hub.restartEnded (h : Hub) : Hub :=
  ({ h with permit.holds := { plan := true, power := false, lease := false, route := false } } : Hub).endPermit.abandonCheck
    .held

theorem restartTrigger_link :
    h.restartTrigger.drive.errors = h.restartEnded.drive.errors ∧ h.restartTrigger.att = h.restartEnded.att := by
  have heq : h.restartTrigger = match h.restartEnded.permit.state with
      | .moving | .probing | .stopping => { (h.restartEnded.sendStop .restart).inhibit with permit.stopTimer := none }
      | .still | .inhibited => h.restartEnded := rfl
  rw [heq]
  split <;> simp [Hub.inhibit, Hub.sendStop]

/-- The link's error counter and the refusals after the trigger RESTART (R120). -/
theorem restartTrigger_counters :
    h.restartTrigger.drive.errors = h.drive.errors
    ∧ (h.permit.check = none → h.restartTrigger.att.refusals = h.att.refusals)
    ∧ (h.permit.check.isSome = true → h.restartTrigger.att.refusals = h.att.refusals.modify 0 sat8) := by
  obtain ⟨he, ha⟩ := restartTrigger_link (h := h)
  rw [he, ha]
  refine ⟨by simp [Hub.restartEnded, Hub.endPermit], fun hc => ?_, fun hc => ?_⟩
  · rw [Hub.restartEnded, Hub.abandonCheck_none _ _ (by exact hc)]
    rfl
  · obtain ⟨c, hc⟩ := Option.isSome_iff_exists.mp hc
    rw [Hub.restartEnded, Hub.abandonCheck_some _ _ c (by exact hc), Hub.refuse_att]
    rfl

/-! ## The restart as a whole (R196; log 14) -/

/-- The hub with the trigger RESTART taken, the queue and the route empty. -/
def Hub.restartStopped (h : Hub) : Hub :=
  { ({ h with plan.slot := .empty } : Hub).restartTrigger.emptyQueue with route.waypoints := [] }

/-- The hub with the store's operation and the lookups cut. -/
def Hub.restartCut (h : Hub) : Hub := h.restartStopped.abortStore.cutLookups

theorem warmRestart_eq :
    h.warmRestart =
      (({ h.restartCut.cancelReturn with dock.fallbacks := 0 } : Hub).restartBlock.restartLease.resetAttention).reply .plan
        ⟨.done, 0x7F#8, []⟩ := rfl

theorem restartStopped_cut : h.restartStopped.CutShort h.restartStopped.abortStore :=
  abortStore_cutShort rfl rfl rfl

theorem restartStopped_parts :
    h.restartStopped.permit = h.restartTrigger.permit
    ∧ h.restartStopped.queue = { h.queue with records := [], backlog := false }
    ∧ h.restartStopped.updater = { h.updater with work := none } ∧ h.restartStopped.route.advances = h.route.advances
    ∧ h.restartStopped.dock.record = h.dock.record ∧ h.restartStopped.odo = h.odo
    ∧ h.restartStopped.drive.errors = h.drive.errors
    ∧ (h.permit.check = none → h.restartStopped.att.refusals = h.att.refusals)
    ∧ (h.permit.check.isSome = true → h.restartStopped.att.refusals = h.att.refusals.modify 0 sat8) := by
  obtain ⟨he, hnone, hsome⟩ := restartTrigger_counters (h := { h with plan.slot := .empty })
  refine ⟨?_, ?_, ?_, ?_, ?_, ?_, he, hnone, hsome⟩
  · have hp : h.restartStopped.permit = ({ h with plan.slot := .empty } : Hub).restartTrigger.permit := rfl
    rw [hp, Hub.restartTrigger_permit, Hub.restartTrigger_permit]
  all_goals simp [Hub.restartStopped, Hub.emptyQueue]

/-- The Plan flags after a restart: REPLY_READY alone. -/
theorem restartFlags : (0 : BitVec 17) ||| PlanFlag.replyReady.bit = 1 := by decide

/-- What the cut operation and the cut lookups leave. -/
theorem restartCut_parts :
    (∃ b, h.restartCut.permit = { h.restartTrigger.permit with startUpEnded := b })
    ∧ h.restartCut.queue = { h.queue with records := [], backlog := false }
    ∧ h.restartCut.updater = { h.updater with work := none }
    ∧ h.restartCut.route.waypoints = [] ∧ h.restartCut.route.advances = h.route.advances
    ∧ h.restartCut.dock.record = h.dock.record
    ∧ (h.restartCut.odo.x = h.odo.x ∧ h.restartCut.odo.y = h.odo.y ∧ h.restartCut.odo.heading = h.odo.heading
      ∧ h.restartCut.odo.pose = h.odo.pose)
    ∧ ((∀ op, h.store.phase = .load op → op.startUp = false) → h.restartCut.odo.floor = h.odo.floor)
    ∧ h.restartCut.drive.errors = h.drive.errors
    ∧ (h.permit.check = none → h.restartCut.att.refusals = h.att.refusals)
    ∧ (h.permit.check.isSome = true → h.restartCut.att.refusals = h.att.refusals.modify 0 sat8) := by
  obtain ⟨hp, hq, hu, ha, hd, ho, he, hnone, hsome⟩ := restartStopped_parts (h := h)
  have hcut := restartStopped_cut (h := h)
  have hfloor := (abortStore_store (h := h.restartStopped)).2.2.2
  have hstore : h.restartStopped.store = h.store := by simp [Hub.restartStopped]
  obtain ⟨hx, hy, hh, hpose, hfl⟩ := cutLookups_odo (h := h.restartStopped.abortStore)
  have hlookups : h.restartCut = h.restartStopped.abortStore.cutLookups := rfl
  have hodo := hcut.odo
  obtain ⟨b, hb⟩ := hcut.permit
  rw [hlookups]
  refine ⟨⟨b, ?_⟩, ?_, ?_, ?_, ?_, ?_, ⟨?_, ?_, ?_, ?_⟩, fun hl => ?_, ?_, fun hc => ?_, fun hc => ?_⟩
  · simp [hb, hp]
  · simp [hcut.queue, hq]
  · simp [hcut.updater, hu]
  · simp [hcut.waypoints]
  · simp [hcut.advances, ha]
  · simp [hcut.record, hd]
  · rw [hx, hodo, ho]
  · rw [hy, hodo, ho]
  · rw [hh, hodo, ho]
  · rw [hpose, hodo, ho]
  · rw [hfl, hfloor (by rwa [hstore]), ho]
  · simp [he]
  · simp [hcut.refusals, hnone hc]
  · simp [hcut.refusals, hsome hc]

/-- What the cut operation leaves of the store and the flash. -/
theorem restartCut_store :
    h.restartCut.store.phase = .idle ∧ (h.store.phase ≠ .idle → h.restartCut.store.lastResult = some .aborted)
    ∧ (∀ op, h.store.phase = .save op → h.store.underWay = some (.pageProgram 0 imageMarker) → h.flash.wf = true →
      h.restartCut.flash.bytes 0 4 ≠ imageMarker)
    ∧ (h.store.phase = .idle ∨ h.store.underWay ≠ some (.pageProgram 0 imageMarker) → h.restartCut.flash = h.flash) := by
  have hstore : h.restartStopped.store = h.store := by simp [Hub.restartStopped]
  have hflash : h.restartStopped.flash = h.flash := by simp [Hub.restartStopped]
  obtain ⟨hidle, habort, hkept, -⟩ := abortStore_store (h := h.restartStopped)
  have hs : h.restartCut.store = h.restartStopped.abortStore.store := by simp [Hub.restartCut]
  have hf : h.restartCut.flash = h.restartStopped.abortStore.flash := by simp [Hub.restartCut]
  rw [hs, hf]
  rw [hstore] at habort hkept
  refine ⟨hidle, fun hn => (habort hn).1, fun op hp hc hw => ?_, fun ho => ?_⟩
  · rw [(habort (by rw [hp]; exact nofun)).2, (cutMarker_marker (by rwa [hstore])).1]
    exact Hub.fallenFlash_noMarker (by rwa [hstore]) (by rwa [hflash])
  · by_cases hi : h.store.phase = .idle
    · rw [hkept hi, hflash]
    · rw [(habort hi).2, cutMarker_other (by rw [hstore]; exact ho.resolve_left hi), hflash]

end

/-- Settles O52: each block's state after the restart, in the order of its actions. -/
theorem warmRestartLeavesItsState : Obligations.WarmRestartLeavesItsState := by
  intro s hr
  have hrun : Runs (.warmRestart []) s s.hub.warmRestart := runs_of_run rfl hr
  obtain ⟨⟨b, hp⟩, hq, hu, hw, ha, hd, ⟨hx, hy, hh, hpose⟩, hfloor, he, hnone, hsome⟩ := restartCut_parts (h := s.hub)
  obtain ⟨hidle, hresult, hmarker, hflash⟩ := restartCut_store (h := s.hub)
  have hkept : s.hub.restartCut.table = s.hub.table ∧ s.hub.restartCut.beacon = s.hub.beacon
      ∧ s.hub.restartCut.limits = s.hub.limits ∧ s.hub.restartCut.sensors = s.hub.sensors
      ∧ s.hub.restartCut.load = s.hub.load ∧ s.hub.restartCut.time = s.hub.time := by
    simp [Hub.restartCut, Hub.restartStopped]
  obtain ⟨hkt, hkb, hkl, hks, hkld, hktime⟩ := hkept
  rw [warmRestart_eq] at hrun
  generalize s.hub.restartCut = c at *
  obtain ⟨hstate, hrecord⟩ := cancelReturn_dock (h := c)
  obtain ⟨hways, hadv, hoff, hon⟩ := restartLease_route
    (h := ({ c.cancelReturn with dock.fallbacks := 0 } : Hub).restartBlock)
  have hframe : ∀ t, t = (({ c.cancelReturn with dock.fallbacks := 0 } : Hub).restartBlock.restartLease.resetAttention).reply
        .plan ⟨.done, 0x7F#8, []⟩ →
      t.permit = c.permit ∧ t.queue = c.queue ∧ t.updater = c.updater ∧ t.odo = c.odo ∧ t.store = c.store
      ∧ t.flash = c.flash ∧ t.table = c.table ∧ t.drive = c.drive ∧ t.beacon = c.beacon ∧ t.limits = c.limits
      ∧ t.sensors = c.sensors ∧ t.load = c.load ∧ t.dock.state = .idle ∧ t.dock.fallbacks = 0
      ∧ t.dock.record = c.dock.record ∧ t.att.refusals = c.att.refusals
      ∧ t.route = (({ c.cancelReturn with dock.fallbacks := 0 } : Hub).restartBlock.restartLease).route
      ∧ (t.att.planFlags = 1 ∧ t.att.powerFlags = 0 ∧ t.att.planMask = 1 ∧ t.att.powerMask = 1)
      ∧ t.plan.slot = .ready ⟨.done, 0x7F#8, []⟩ ∧ t.power.slot = none := by
    rintro t rfl
    refine ⟨?_, ?_, ?_, ?_, ?_, ?_, ?_, ?_, ?_, ?_, ?_, ?_, ?_, ?_, ?_, ?_, ?_, ⟨restartFlags, rfl, rfl, rfl⟩, rfl, rfl⟩
    all_goals simp [hstate, hrecord, Hub.resetAttention, cancelReturn_refusals]
  have hparts := hframe _ rfl
  generalize (({ c.cancelReturn with dock.fallbacks := 0 } : Hub).restartBlock.restartLease.resetAttention).reply .plan
    ⟨.done, 0x7F#8, []⟩ = t at hrun hparts
  obtain ⟨htp, htq, htu, hto, hts, htf, htt, htd, htb, htl, htsn, htld, hdstate, hfall, hdrec, htr, hroute, hatt, hslot,
    hpower⟩ := hparts
  have hlease : ({ c.cancelReturn with dock.fallbacks := 0 } : Hub).restartBlock.limits = s.hub.limits
      ∧ ({ c.cancelReturn with dock.fallbacks := 0 } : Hub).restartBlock.time = s.hub.time
      ∧ ({ c.cancelReturn with dock.fallbacks := 0 } : Hub).restartBlock.route = c.route := by simp [hkl, hktime]
  obtain ⟨hll, hlt, hlr⟩ := hlease
  rw [hll] at hoff hon
  rw [hlt] at hon
  rw [hlr, ← hroute] at hways hadv
  rw [← hroute] at hoff hon
  have hpermit : t.permit.state = (match s.hub.permit.state with
        | .still => .still
        | .moving => .inhibited
        | .probing => .inhibited
        | .stopping => .inhibited
        | .inhibited => .inhibited)
      ∧ t.permit.holds = { plan := true, power := false, lease := false, route := false }
      ∧ t.permit.check = none ∧ t.permit.recheck = none ∧ t.permit.active = none ∧ t.permit.expiry = none
      ∧ t.permit.stopTimeouts = s.hub.permit.stopTimeouts := by
    rw [htp, hp, Hub.restartTrigger_permit]
    cases hs : s.hub.permit.state <;> simp [hs]
  obtain ⟨hst, hholds, hcheck, hrecheck, hactive, hexpiry, htimeouts⟩ := hpermit
  refine ⟨t, hrun, ?_, hholds, hcheck, hrecheck, hactive, hexpiry, htq.trans hq, htu.trans hu, hways.trans hw, hadv.trans ha,
    hoff, hon, hdstate, hfall, hdrec.trans hd, ?_, ?_, ?_, ?_, hatt.1, hatt.2.1, hatt.2.2.1, hatt.2.2.2, hslot, hpower,
    htt.trans hkt, ?_, ?_, ?_, ?_, ?_, ?_, ?_, ?_, ?_, ?_, htl.trans hkl, htsn.trans hks, htld.trans hkld, htimeouts⟩
  · exact hst
  · rw [hts, hidle]
  · rw [hts]
    exact hresult
  · rw [htf]
    exact hmarker
  · rw [htf]
    exact hflash
  · rw [hto, hx]
  · rw [hto, hy]
  · rw [hto, hh]
  · rw [hto, hpose]
  · rw [hto]
    exact hfloor
  · rw [htr]
    exact hnone
  · rw [htr]
    exact hsome
  · rw [htd, he]
  · rw [htb, hkb]
  · rw [htb, hkb]

end Sys2Proof.Machine
end
section
/-!
Records posted while the Map Updater waits, and the end of a block of scans (R29 to R36, R49 to R58).
-/

namespace Sys2Proof.Machine

section
variable {h : Hub}

/-! ## Posting while the Map Updater waits (R49, R55, R58) -/

/-- The Map Updater takes no record now: it applies one, or the Map Store is in LOAD. -/
def Hub.UpdaterWaits (h : Hub) : Prop := h.updater.work.isSome = true ∨ h.loading = true

theorem Hub.UpdaterWaits.congr {g : Hub} (hw : h.UpdaterWaits) (hu : g.updater = h.updater) (hs : g.store = h.store) :
    g.UpdaterWaits := by
  unfold Hub.UpdaterWaits Hub.loading
  rw [hu, hs]
  exact hw

/-- A record offered while the Map Updater waits joins the tail, or changes no record. -/
theorem offer_waits (hw : h.UpdaterWaits) (r : Record) :
    (h.offer r).updater = h.updater ∧ (∃ rest, (h.offer r).queue.records = h.queue.records ++ rest)
    ∧ (h.odo.pose ≠ .lifted → h.queue.count + 1 ≤ 40 → h.queue.bytes + r.size ≤ 640 →
      (h.offer r).queue.records = h.queue.records ++ [r]) := by
  have hkick : ({ h with queue.records := h.queue.records ++ [r] }.testBacklog).kickUpdater
      = { h with queue.records := h.queue.records ++ [r] }.testBacklog :=
    kickUpdater_waits (by simpa [Hub.UpdaterWaits, Hub.loading] using hw)
  have hjoin : (({ h with queue.records := h.queue.records ++ [r] }.testBacklog).kickUpdater).updater = h.updater
      ∧ (({ h with queue.records := h.queue.records ++ [r] }.testBacklog).kickUpdater).queue.records
        = h.queue.records ++ [r] := by
    rw [hkick, Hub.testBacklog_queue]
    exact ⟨by simp, rfl⟩
  unfold Hub.offer
  split
  · next hl => exact ⟨rfl, ⟨[], by simp⟩, fun hn => absurd hl.1 hn⟩
  · split
    · exact ⟨hjoin.1, ⟨_, hjoin.2⟩, fun _ _ _ => hjoin.2⟩
    · next hf => exact ⟨rfl, ⟨[], by simp⟩, fun _ hc hb => absurd ⟨hc, hb⟩ hf⟩

/-- The record a post makes, none of no items. -/
def Hub.posted (h : Hub) (kind : EvidenceKind) (source : Source) (items : List Item) : List Record :=
  if items.isEmpty then [] else [⟨kind, h.floor, h.time.ms, source, items⟩]

theorem post_waits (hw : h.UpdaterWaits) (kind : EvidenceKind) (source : Source) (items : List Item) :
    (h.post kind source items).UpdaterWaits
    ∧ (∃ rest, (h.post kind source items).queue.records = h.queue.records ++ rest)
    ∧ (h.odo.pose ≠ .lifted → h.queue.count + 1 ≤ 40 → h.queue.bytes + (8 + 6 * items.length) ≤ 640 →
      (h.post kind source items).queue.records = h.queue.records ++ h.posted kind source items) := by
  unfold Hub.post Hub.posted
  cases he : items.isEmpty with
  | true => exact ⟨hw, ⟨[], by simp⟩, fun _ _ _ => by simp⟩
  | false =>
    simp only [Bool.false_eq_true, if_false]
    obtain ⟨hu, hrest, hfits⟩ := offer_waits hw ⟨kind, h.floor, h.time.ms, source, items⟩
    exact ⟨hw.congr hu (by simp), hrest, hfits⟩

theorem post_none (kind : EvidenceKind) (source : Source) : h.post kind source [] = h := rfl

/-! ## The items of a block by their kinds (R33) -/

theorem itemsOf_filterMap {α : Type} (f : α → Option (EvidenceKind × Item)) (kind : EvidenceKind) (l : List α) :
    itemsOf kind (l.filterMap f) = l.filterMap fun c => (f c).bind fun p => if p.1 = kind then some p.2 else none := by
  induction l with
  | nil => rfl
  | cons c l ih =>
    cases hf : f c with
    | none => simpa [hf] using ih
    | some p =>
      by_cases hk : p.1 = kind
      · simpa [hf, hk, itemsOf] using ih
      · simpa [hf, hk, itemsOf] using ih

theorem itemsOf_length (l : List (EvidenceKind × Item)) :
    (itemsOf .noReturn l).length + (itemsOf .lowReflect l).length + (itemsOf .floorClear l).length ≤ l.length := by
  induction l with
  | nil => simp [itemsOf]
  | cons p l ih =>
    obtain ⟨k, i⟩ := p
    simp only [itemsOf, List.length_map] at ih
    cases k <;> simp [itemsOf] <;> omega

theorem blockItems_length : h.blockItems.length ≤ 4 := by
  unfold Hub.blockItems
  split
  · exact List.length_filterMap_le ..
  · simp

/-- What the FLOOR_CLEAR items of some channels leave of a channel's last clear tile. -/
theorem noteClear_fold (fl : Floor) (c : Channel) {item : Channel → Option Item}
    (hitem : ∀ c', item c' = none ∨ ∃ t, item c' = some (.floorClear c' t)) (l : List Channel) :
    ∀ old : Option (Floor × Tile),
      let last := (l.filterMap item).foldl
        (fun last i => match i with
          | .floorClear c' t => if c' = c then some (fl, t) else last
          | _ => last) old
      (∀ t, c ∈ l → item c = some (.floorClear c t) → last = some (fl, t)) ∧ (c ∉ l ∨ item c = none → last = old) := by
  induction l with
  | nil => exact fun old => ⟨fun t hc => absurd hc List.not_mem_nil, fun _ => rfl⟩
  | cons c' l ih =>
    intro old
    rcases hitem c' with hn | ⟨t', ht'⟩
    · rw [List.filterMap_cons_none hn]
      obtain ⟨hin, hout⟩ := ih old
      refine ⟨fun t hc ht => ?_, fun hc => hout ?_⟩
      · refine hin t ((List.mem_cons.mp hc).resolve_left ?_) ht
        rintro rfl
        rw [hn] at ht
        cases ht
      · exact hc.imp (fun hc hm => hc (List.mem_cons_of_mem _ hm)) id
    · rw [List.filterMap_cons_some ht', List.foldl_cons]
      obtain ⟨hin, hout⟩ := ih (if c' = c then some (fl, t') else old)
      refine ⟨fun t hc ht => ?_, fun hc => ?_⟩
      · by_cases hm : c ∈ l
        · exact hin t hm ht
        · have he : c = c' := (List.mem_cons.mp hc).resolve_right hm
          subst he
          rw [ht'] at ht
          cases ht
          exact (hout (.inl hm)).trans (if_pos rfl)
      · have hne : c' ≠ c := by
          rintro rfl
          rcases hc with hc | hc
          · exact hc (List.mem_cons_self ..)
          · rw [ht'] at hc
            cases hc
        refine (hout ?_).trans (if_neg hne)
        exact hc.imp (fun hc hm => hc (List.mem_cons_of_mem _ hm)) id

/-- The item of a kind a channel makes at a block's end. -/
def Hub.itemOf (h : Hub) (kind : EvidenceKind) (c : Channel) : Option Item :=
  (h.channelItem c).bind fun p => if p.1 = kind then some p.2 else none

theorem itemOf_clear (c : Channel) : h.itemOf .floorClear c = none ∨ ∃ t, h.itemOf .floorClear c = some (.floorClear c t) := by
  unfold Hub.itemOf Hub.channelItem
  dsimp only
  cases h.pose.channelTile (h.scanner.block.offsets.get c) with
  | none => exact .inl rfl
  | some t =>
    dsimp only
    cases h.scanner.block.reading c with
    | noReturn => exact .inl rfl
    | lowReflect => exact .inl rfl
    | clear =>
      dsimp only
      split
      · exact .inl rfl
      · exact .inr ⟨t, rfl⟩

theorem itemsOf_blockItems (kind : EvidenceKind) :
    (h.scanner.block.posting = true → itemsOf kind h.blockItems = [Channel.fl, .fr, .sl, .sr].filterMap (h.itemOf kind))
    ∧ (h.scanner.block.posting = false → itemsOf kind h.blockItems = []) := by
  refine ⟨fun hp => ?_, fun hp => ?_⟩
  · rw [Hub.blockItems, if_pos hp, itemsOf_filterMap]
    rfl
  · rw [Hub.blockItems, if_neg (by simp [hp])]
    rfl

/-- The last clear tiles after a posting block's end. -/
theorem noteClear_lastClear (hp : h.scanner.block.posting = true) {g : Hub} (hf : g.floor = h.floor) (c : Channel) :
    (∀ t, h.itemOf .floorClear c = some (.floorClear c t) →
      (g.noteClear (itemsOf .floorClear h.blockItems)).scanner.lastClear.get c = some (h.floor, t))
    ∧ (h.itemOf .floorClear c = none →
      (g.noteClear (itemsOf .floorClear h.blockItems)).scanner.lastClear.get c = g.scanner.lastClear.get c) := by
  have hmem : c ∈ [Channel.fl, .fr, .sl, .sr] := by cases c <;> simp
  have hfold := noteClear_fold g.floor c (item := h.itemOf .floorClear) itemOf_clear [Channel.fl, .fr, .sl, .sr]
    (g.scanner.lastClear.get c)
  have hget : (g.noteClear (itemsOf .floorClear h.blockItems)).scanner.lastClear.get c
      = ([Channel.fl, .fr, .sl, .sr].filterMap (h.itemOf .floorClear)).foldl
        (fun last i => match i with
          | .floorClear c' t => if c' = c then some (g.floor, t) else last
          | _ => last) (g.scanner.lastClear.get c) := by
    rw [(itemsOf_blockItems .floorClear).1 hp]
    cases c <;> rfl
  rw [hget]
  rw [hf] at hfold ⊢
  exact ⟨fun t ht => hfold.1 t hmem ht, fun hn => hfold.2 (.inr hn)⟩

/-! ## The end of a block (R32 to R36) -/

/-- The hub with a block's records offered. -/
def Hub.blockPosted (h : Hub) : Hub :=
  let items := h.blockItems
  (((h.post .noReturn .floorScanner (itemsOf .noReturn items)).post .lowReflect .floorScanner
    (itemsOf .lowReflect items)).noteClear (itemsOf .floorClear items)).post .floorClear .floorScanner
    (itemsOf .floorClear items)

/-- The hub with a block's records offered and its sag reported. -/
def Hub.blockReported (h : Hub) : Hub :=
  if fireThreshold h.scanner.block.k ≤ h.scanner.block.nSag then h.blockPosted.reportSag else h.blockPosted

theorem blockEnd_eq :
    h.blockEnd =
      (if h.blockReported.cliffSeen h.scanner.block then h.blockReported.trigger .cliffSeen else h.blockReported).boundary :=
  rfl

theorem blockReported_permit : h.blockReported.permit = h.permit := by
  unfold Hub.blockReported Hub.blockPosted
  split <;> simp

/-- Whether a block end raises CLIFF_SEEN is a matter of the permit and the block. -/
theorem cliffSeen_congr {g : Hub} (hp : g.permit = h.permit) (b : Block) : g.cliffSeen b = h.cliffSeen b := by
  simp only [Hub.cliffSeen, Hub.forward, hp]

/-- CLIFF_SEEN at a block's end, or nothing, for the permit (R35). -/
theorem blockEnd_permit :
    (h.cliffSeen h.scanner.block = true → h.blockEnd.permit.state = .stopping ∧ h.blockEnd.permit.active = none
      ∧ h.blockEnd.permit.lastStop = some .cliffSeen ∧ h.blockEnd.planHas .stopIssued = true)
    ∧ (h.cliffSeen h.scanner.block = false → h.blockEnd.permit = h.permit) := by
  have hp := blockReported_permit (h := h)
  have hc := cliffSeen_congr hp h.scanner.block
  rw [blockEnd_eq, hc]
  refine ⟨fun hs => ?_, fun hs => ?_⟩
  · have hm : h.blockReported.permit.state = .moving ∨ h.blockReported.permit.state = .probing := by
      rw [hp]
      unfold Hub.cliffSeen at hs
      cases hst : h.permit.state <;> simp [hst] at hs ⊢
    rw [if_pos hs, Hub.trigger_in_motion _ .cliffSeen hm nofun nofun]
    refine ⟨by simp, by simp, by simp, ?_⟩
    exact (planHas_congr (h := h.blockReported.stopSequence .cliffSeen) (by simp) _).trans (Hub.stopSequence_issued ..)
  · rw [if_neg (by simp [hs])]
    simpa using hp

end

end Sys2Proof.Machine
end
section
/-!
A scan joins its block, and the eighth ends it (R30 to R36).
-/

namespace Sys2Proof.Machine

section
variable {h : Hub}

theorem blockPosted_queue (hw : h.UpdaterWaits) :
    ∃ rest, h.blockPosted.queue.records = h.queue.records ++ rest := by
  obtain ⟨hw1, ⟨r1, h1⟩, -⟩ := post_waits hw .noReturn .floorScanner (itemsOf .noReturn h.blockItems)
  obtain ⟨hw2, ⟨r2, h2⟩, -⟩ := post_waits hw1 .lowReflect .floorScanner (itemsOf .lowReflect h.blockItems)
  have hw3 := hw2.congr (g := (((h.post .noReturn .floorScanner (itemsOf .noReturn h.blockItems)).post .lowReflect
    .floorScanner (itemsOf .lowReflect h.blockItems)).noteClear (itemsOf .floorClear h.blockItems))) (by simp) (by simp)
  obtain ⟨-, ⟨r3, h3⟩, -⟩ := post_waits hw3 .floorClear .floorScanner (itemsOf .floorClear h.blockItems)
  refine ⟨r1 ++ r2 ++ r3, h3.trans ?_⟩
  simp only [Hub.noteClear_frame, h2, h1, List.append_assoc]

/-- What a post that fits takes of the queue's room. -/
theorem posted_room {g k : Hub} {kind : EvidenceKind} {src : Source} {items : List Item}
    (hq : g.queue.records = h.queue.records ++ k.posted kind src items) :
    g.queue.count ≤ h.queue.count + 1 ∧ g.queue.bytes ≤ h.queue.bytes + (8 + 6 * items.length) := by
  simp only [EvidenceQueue.count, EvidenceQueue.bytes, hq, Hub.posted]
  split <;> simp [Record.size]

/-- The three records of a block fit where three records and 48 bytes are free. -/
theorem blockPosted_fits (hw : h.UpdaterWaits) (hl : h.odo.pose ≠ .lifted) (hc : h.queue.count + 3 ≤ 40)
    (hb : h.queue.bytes + 48 ≤ 640) :
    h.blockPosted.queue.records =
      h.queue.records
      ++ ([EvidenceKind.noReturn, .lowReflect, .floorClear].filter fun k => !(itemsOf k h.blockItems).isEmpty).map
        fun k => ⟨k, h.floor, h.time.ms, .floorScanner, itemsOf k h.blockItems⟩ := by
  have hlen := itemsOf_length h.blockItems
  have hfour := blockItems_length (h := h)
  obtain ⟨g1, hg1⟩ : ∃ g, g = h.post .noReturn .floorScanner (itemsOf .noReturn h.blockItems) := ⟨_, rfl⟩
  obtain ⟨g2, hg2⟩ : ∃ g, g = (g1.post .lowReflect .floorScanner (itemsOf .lowReflect h.blockItems)).noteClear
    (itemsOf .floorClear h.blockItems) := ⟨_, rfl⟩
  have hposted : h.blockPosted = g2.post .floorClear .floorScanner (itemsOf .floorClear h.blockItems) := by
    rw [hg2, hg1]
    rfl
  obtain ⟨hw1, -, h1⟩ := post_waits hw .noReturn .floorScanner (itemsOf .noReturn h.blockItems)
  have hq1 := h1 hl (by omega) (by omega)
  have hkeep1 : g1.odo = h.odo ∧ g1.time = h.time := by simp [hg1]
  rw [← hg1] at hw1 hq1
  obtain ⟨hc1, hb1⟩ := posted_room hq1
  obtain ⟨hw2, -, h2⟩ := post_waits hw1 .lowReflect .floorScanner (itemsOf .lowReflect h.blockItems)
  have hq2 := h2 (by rwa [hkeep1.1]) (by omega) (by omega)
  have hkeep2 : g2.odo = h.odo ∧ g2.time = h.time := by simp [hg2, hkeep1]
  have hw2' : g2.UpdaterWaits := hw2.congr (by simp [hg2]) (by simp [hg2])
  have hq2' : g2.queue.records = g1.queue.records ++ g1.posted .lowReflect .floorScanner (itemsOf .lowReflect h.blockItems) := by
    rw [← hq2, hg2]
    simp
  obtain ⟨hc2, hb2⟩ := posted_room hq2'
  obtain ⟨-, -, h3⟩ := post_waits hw2' .floorClear .floorScanner (itemsOf .floorClear h.blockItems)
  have hq3 := h3 (by rwa [hkeep2.1]) (by omega) (by omega)
  rw [hposted, hq3, hq2', hq1]
  simp only [Hub.posted, Hub.floor, hkeep1, hkeep2, List.filter_cons, List.filter_nil]
  cases (itemsOf .noReturn h.blockItems).isEmpty <;> cases (itemsOf .lowReflect h.blockItems).isEmpty
    <;> cases (itemsOf .floorClear h.blockItems).isEmpty <;> simp

/-- The sag report of a block end (R36, R164). -/
theorem blockEnd_load :
    (fireThreshold h.scanner.block.k ≤ h.scanner.block.nSag →
      h.blockEnd.load = { h.load with sag := true, sagTimer := some ⟨h.time.ms, 2000⟩ })
    ∧ (h.scanner.block.nSag < fireThreshold h.scanner.block.k → h.blockEnd.load = h.load) := by
  have hposted : h.blockPosted.load = h.load ∧ h.blockPosted.time = h.time := by simp [Hub.blockPosted]
  have hend : h.blockEnd.load = h.blockReported.load := by
    rw [blockEnd_eq]
    split <;> simp
  rw [hend]
  refine ⟨fun hs => ?_, fun hs => ?_⟩
  · rw [Hub.blockReported, if_pos hs, Hub.reportSag, Hub.setCauses_load, hposted.1]
    simp [Hub.timer, hposted.2]
  · rw [Hub.blockReported, if_neg (by omega)]
    exact hposted.1

/-- The scanner after a block end: a fresh block in the mode compared, and the clear tiles noted. -/
theorem blockEnd_scanner :
    h.blockEnd.scanner.block = h.freshBlock ∧ h.blockEnd.scanner.averaged = h.blockEnd.scanner.pendingAveraged
    ∧ h.blockEnd.scanner.lastClear = (h.noteClear (itemsOf .floorClear h.blockItems)).scanner.lastClear := by
  have hfresh {g : Hub} (hs : g.sensors = h.sensors) (ho : g.odo = h.odo) : g.boundary.scanner.block = h.freshBlock := by
    unfold Hub.boundary
    dsimp only
    split <;> simp [Hub.freshBlock, Hub.tracking, hs, ho]
  have hmode (g : Hub) : g.boundary.scanner.averaged = g.boundary.scanner.pendingAveraged
      ∧ g.boundary.scanner.lastClear = g.scanner.lastClear := by
    unfold Hub.boundary
    dsimp only
    split
    · next he => exact ⟨he.symm, rfl⟩
    · exact ⟨rfl, rfl⟩
  have hreported : h.blockReported.scanner.lastClear = (h.noteClear (itemsOf .floorClear h.blockItems)).scanner.lastClear := by
    unfold Hub.blockReported Hub.blockPosted Hub.noteClear
    split <;> simp [Hub.reportSag, Hub.floor]
  have hkeep : h.blockReported.sensors = h.sensors ∧ h.blockReported.odo = h.odo := by
    unfold Hub.blockReported Hub.blockPosted
    split <;> simp
  rw [blockEnd_eq]
  split
  · exact ⟨hfresh (by simp [hkeep.1]) (by simp [hkeep.2]), (hmode _).1, by rw [(hmode _).2, ← hreported]; simp⟩
  · exact ⟨hfresh hkeep.1 hkeep.2, (hmode _).1, by rw [(hmode _).2, ← hreported]⟩

theorem blockEnd_queue : h.blockEnd.queue = h.blockPosted.queue := by
  rw [blockEnd_eq]
  unfold Hub.blockReported
  split <;> split <;> simp

end

end Sys2Proof.Machine
end
section
/-!
A scan joins its block, and the eighth ends it.
-/

namespace Sys2Proof.Machine

theorem reading_noReturn (b : Block) (c : Channel) :
    b.reading c = .noReturn ↔ fireThreshold b.k ≤ (b.counts.get c).nNone := by
  unfold Block.reading ChannelCount.reading
  split
  · next hn => exact iff_of_true rfl hn
  · next hn =>
    refine iff_of_false ?_ hn
    split <;> nofun

/-- An edge in front, as a block end sees it (R35). -/
theorem cliffSeen_iff (h : Hub) (b : Block) :
    h.cliffSeen b = true ↔
      (h.permit.state = .moving ∧ (∃ r, h.permit.active = some r ∧ 0 < r.speed)
        ∧ (fireThreshold b.k ≤ b.counts.fl.nNone ∨ fireThreshold b.k ≤ b.counts.fr.nNone))
      ∨ (h.permit.state = .probing ∧ fireThreshold b.k ≤ b.counts.fl.nNone ∧ fireThreshold b.k ≤ b.counts.fr.nNone) := by
  have hfl := reading_noReturn b .fl
  have hfr := reading_noReturn b .fr
  simp only [PerChannel.get] at hfl hfr
  unfold Hub.cliffSeen Hub.forward
  cases hst : h.permit.state with
  | moving =>
    simp only [hfl, hfr]
    cases h.permit.active with
    | none => simp
    | some r => simp
  | probing => simp [hfl, hfr]
  | still => simp
  | stopping => simp
  | inhibited => simp

/-- The item of a channel, with the classification written out (R33). -/
theorem itemOf_eq (h : Hub) (kind : EvidenceKind) (c : Channel) :
    h.itemOf kind c =
      (h.pose.channelTile (h.scanner.block.offsets.get c)).bind fun t =>
        let n := h.scanner.block.counts.get c
        if fireThreshold h.scanner.block.k ≤ n.nNone then if kind = .noReturn then some (.noReturn c t n.least n.nNone) else none
        else if fireThreshold h.scanner.block.k ≤ n.nLow then
          if kind = .lowReflect then some (.lowReflect c t n.least n.nLow) else none
        else if kind = .floorClear ∧ h.scanner.lastClear.get c ≠ some (h.floor, t) then some (.floorClear c t)
        else none := by
  unfold Hub.itemOf Hub.channelItem Block.reading ChannelCount.reading
  dsimp only
  cases h.pose.channelTile (h.scanner.block.offsets.get c) with
  | none => rfl
  | some t =>
    simp only [Option.bind_some]
    by_cases hn : fireThreshold h.scanner.block.k ≤ (h.scanner.block.counts.get c).nNone
    · simp [hn, eq_comm]
    · by_cases hlow : fireThreshold h.scanner.block.k ≤ (h.scanner.block.counts.get c).nLow
      · simp [hn, hlow, eq_comm]
      · by_cases hlast : h.scanner.lastClear.get c = some (h.floor, t)
        · simp [hn, hlow, hlast]
        · simp [hn, hlow, hlast, eq_comm]

/-- The hub a scan leaves before a block end. -/
def Hub.scanned (h : Hub) (reading : ScanReading) : Hub :=
  { h with scanner.timer := h.scanner.timer.reload, scanner.block := h.scanner.block.scan reading h.scanner.averaged }

theorem scan_due {h : Hub} (hd : h.scanner.timer.due h.time.ms = true) (reading : ScanReading) :
    h.scan reading =
      if (h.scanner.block.scan reading h.scanner.averaged).k = 8 then (h.scanned reading).blockEnd
      else h.scanned reading := by
  rw [Hub.scan, if_pos hd]
  rfl

/-- What a block that does not post leaves of the queue and the last clear tiles. -/
theorem blockEnd_unposted {h : Hub} (hp : h.scanner.block.posting = false) :
    h.blockEnd.queue = h.queue ∧ h.blockEnd.scanner.lastClear = h.scanner.lastClear := by
  have hnone (kind : EvidenceKind) : itemsOf kind h.blockItems = [] := (itemsOf_blockItems kind).2 hp
  refine ⟨?_, ?_⟩
  · rw [blockEnd_queue, Hub.blockPosted]
    simp only [hnone, post_none, Hub.noteClear_frame]
  · rw [blockEnd_scanner.2.2, hnone]
    rfl

/-- The permit after the end of a block of eight, by the kind of motion (R35). -/
theorem blockEnd_state {h : Hub} (hk : h.scanner.block.k = 8) :
    let b := h.scanner.block
    (h.permit.state = .probing →
      h.blockEnd.permit.state = if 3 ≤ b.counts.fl.nNone ∧ 3 ≤ b.counts.fr.nNone then .stopping else .probing)
    ∧ (∀ p, h.permit.state = .moving → h.permit.active = some p → h.blockEnd.permit.state =
        if 0 < p.speed ∧ (3 ≤ b.counts.fl.nNone ∨ 3 ≤ b.counts.fr.nNone) then .stopping else .moving)
    ∧ (h.permit.state ≠ .moving → h.permit.state ≠ .probing → h.blockEnd.permit = h.permit) := by
  have hfire : fireThreshold h.scanner.block.k = 3 := by rw [hk]; rfl
  have hiff := cliffSeen_iff h h.scanner.block
  rw [hfire] at hiff
  obtain ⟨hseen, hnot⟩ := blockEnd_permit (h := h)
  refine ⟨fun hs => ?_, fun p hs ha => ?_, fun hm hp => hnot ?_⟩
  · split
    · next hedge => exact (hseen (hiff.mpr (.inr ⟨hs, hedge⟩))).1
    · next hedge => rw [hnot (by rw [Bool.eq_false_iff, ne_eq, hiff]; simp [hs, hedge]), hs]
  · split
    · next hedge => exact (hseen (hiff.mpr (.inl ⟨hs, ⟨p, ha, hedge.1⟩, hedge.2⟩))).1
    · next hedge => rw [hnot (by rw [Bool.eq_false_iff, ne_eq, hiff]; simpa [hs, ha] using hedge), hs]
  · rw [Bool.eq_false_iff, ne_eq, hiff]
    simp [hm, hp]

/-- Settles O53: a scan joins its block, and the eighth ends it with its records, its tests and a fresh block. -/
theorem scanFillsTheBlock : Obligations.ScanFillsTheBlock := by
  intro s reading hr hd block
  have hrun := runs_of_run (i := .scan reading) (s := s) (f := Hub.scan reading) rfl hr
  rw [scan_due hd reading] at hrun
  obtain ⟨h0, hh0⟩ : ∃ h0, h0 = s.hub.scanned reading := ⟨_, rfl⟩
  have hblock : h0.scanner.block = block := by rw [hh0]; rfl
  refine ⟨fun hk => by rwa [if_neg hk] at hrun, fun hk => ?_⟩
  rw [if_pos hk, ← hh0] at hrun
  have hk0 : h0.scanner.block.k = 8 := by rw [hblock, hk]
  have hfire : fireThreshold h0.scanner.block.k = 3 := by rw [hk0]; rfl
  obtain ⟨hsag, hnosag⟩ := blockEnd_load (h := h0)
  obtain ⟨hprobing, hmoving, hrest⟩ := blockEnd_state hk0
  obtain ⟨hfresh, hmode, hclear⟩ := blockEnd_scanner (h := h0)
  have hunposted := blockEnd_unposted (h := h0)
  rw [hfire] at hsag hnosag
  rw [hblock] at hsag hnosag hprobing hmoving hunposted
  refine ⟨h0.blockEnd, hrun, hfresh.trans ?_, hmode, fun hs => ?_, fun hs => (hnosag hs).trans ?_, ?_, ?_, ?_, ?_, ?_, ?_, ?_⟩
  · rw [hh0]; rfl
  · rw [hsag hs, hh0]
    exact ⟨rfl, rfl⟩
  · rw [hh0]; rfl
  · rw [hh0] at hprobing ⊢; exact hprobing
  · rw [hh0] at hmoving ⊢; exact hmoving
  · rw [hh0] at hrest ⊢; exact hrest
  · intro hp item items
    have hp0 : h0.scanner.block.posting = true := by rw [hblock, hp]
    have hitem (kind : EvidenceKind) (c : Channel) : item kind c = h0.itemOf kind c := by
      rw [itemOf_eq, hfire, hh0]
      rfl
    have hitems (kind : EvidenceKind) : itemsOf kind h0.blockItems = items kind := by
      rw [(itemsOf_blockItems kind).1 hp0]
      exact List.filterMap_congr fun c _ => (hitem kind c).symm
    have hlast := noteClear_lastClear (h := h0) (g := h0) hp0 rfl
    refine ⟨fun c t ht => ?_, fun c hn => ?_, fun hl hw hc hb => ?_⟩
    · rw [hclear, (hlast c).1 t ((hitem _ c).symm.trans ht), hh0]
      rfl
    · rw [hclear, (hlast c).2 ((hitem _ c).symm.trans hn), hh0]
      rfl
    · have hfits := blockPosted_fits (h := h0) (by rw [hh0]; exact hw) (by rw [hh0]; exact hl) (by rw [hh0]; exact hc)
        (by rw [hh0]; exact hb)
      rw [blockEnd_queue, hfits]
      simp only [hitems]
      rw [hh0]
      rfl
  · intro hp
    rw [(hunposted hp).1, (hunposted hp).2, hh0]
    exact ⟨rfl, rfl⟩
  · simp [hh0, Hub.scanned]
  · simp [hh0, Hub.scanned]

end Sys2Proof.Machine
end
section
/-!
The samples of the four lines, and what a line's change does (R37 to R42).
-/

namespace Sys2Proof.Machine

/-! ## The things of the lines -/

theorem perLine_get_set {α : Type} (p : PerLine α) (l k : Line) (a : α) :
    (p.set l a).get k = if k = l then a else p.get k := by
  cases l <;> cases k <;> rfl

theorem perLine_ext {α : Type} {p q : PerLine α} (he : ∀ l, p.get l = q.get l) : p = q := by
  obtain ⟨a, b, c, d⟩ := p
  obtain ⟨a', b', c', d'⟩ := q
  have h1 : a = a' := he .bmpL
  have h2 : b = b' := he .bmpR
  have h3 : c = c' := he .wdpL
  have h4 : d = d' := he .wdpR
  rw [h1, h2, h3, h4]

/-- The samples of levels, by the polarities in force (R37). -/
def Hub.samples (h : Hub) (levels : PerLine Bool) : PerLine Bool where
  bmpL := levels.bmpL == h.sensors.activeHigh.bmpL
  bmpR := levels.bmpR == h.sensors.activeHigh.bmpR
  wdpL := levels.wdpL == h.sensors.activeHigh.wdpL
  wdpR := levels.wdpR == h.sensors.activeHigh.wdpR

theorem samples_get (h : Hub) (levels : PerLine Bool) (l : Line) :
    (h.samples levels).get l = (levels.get l == h.sensors.activeHigh.get l) := by cases l <;> rfl

/-- A line keeps its state at a sample: the sample or the one before it agrees with it. -/
def Hub.lineStays (h : Hub) (levels : PerLine Bool) (l : Line) : Prop :=
  (h.samples levels).get l = h.lines.asserted.get l ∨ h.lines.lastSample.get l = h.lines.asserted.get l

/-! ## One line's sample (R37) -/

theorem sampleLine_stays {h : Hub} {levels : PerLine Bool} {l : Line} (hs : h.lineStays levels l) :
    h.sampleLine levels l =
      { h with lines.lastSample := h.lines.lastSample.set l ((h.samples levels).get l) } := by
  unfold Hub.sampleLine
  dsimp only
  rw [← samples_get, if_neg]
  rintro ⟨hnow, hbefore⟩
  exact hs.elim hnow hbefore

theorem sampleLine_changes {h : Hub} {levels : PerLine Bool} {l : Line} (hs : ¬ h.lineStays levels l) :
    h.sampleLine levels l =
      Hub.lineChanged l ((h.samples levels).get l)
        { h with
          lines.lastSample := h.lines.lastSample.set l ((h.samples levels).get l)
          lines.asserted := h.lines.asserted.set l ((h.samples levels).get l) } := by
  have hboth : (h.samples levels).get l ≠ h.lines.asserted.get l ∧ h.lines.lastSample.get l ≠ h.lines.asserted.get l := by
    simpa [Hub.lineStays] using hs
  unfold Hub.sampleLine
  dsimp only
  rw [← samples_get, if_pos hboth]

/-- A line's change leaves the samples, the states, the line timer and the pose. -/
theorem lineChanged_lines (h : Hub) (l : Line) (b : Bool) :
    (h.lineChanged l b).lines.asserted = h.lines.asserted ∧ (h.lineChanged l b).lines.lastSample = h.lines.lastSample
    ∧ (h.lineChanged l b).lines.timer = h.lines.timer ∧ (h.lineChanged l b).odo.pose = h.odo.pose := by
  have hassert (g : Hub) : g.timingAssert.lines.asserted = g.lines.asserted
      ∧ g.timingAssert.lines.lastSample = g.lines.lastSample ∧ g.timingAssert.lines.timer = g.lines.timer := by
    unfold Hub.timingAssert
    repeat' split
    all_goals exact ⟨rfl, rfl, rfl⟩
  have hrelease (g : Hub) : g.timingRelease.lines.asserted = g.lines.asserted
      ∧ g.timingRelease.lines.lastSample = g.lines.lastSample ∧ g.timingRelease.lines.timer = g.lines.timer := by
    unfold Hub.timingRelease
    repeat' split
    all_goals exact ⟨rfl, rfl, rfl⟩
  have hdrop (side : Side) : (h.dropAssert side).lines.asserted = h.lines.asserted
      ∧ (h.dropAssert side).lines.lastSample = h.lines.lastSample ∧ (h.dropAssert side).lines.timer = h.lines.timer
      ∧ (h.dropAssert side).odo.pose = h.odo.pose := by
    unfold Hub.dropAssert
    simp [hassert, Hub.cancelPassOver]
  cases l <;> cases b
  case wdpL.true => exact hdrop .left
  case wdpR.true => exact hdrop .right
  case wdpL.false | wdpR.false => exact ⟨(hrelease h).1, (hrelease h).2.1, (hrelease h).2.2, by simp [Hub.lineChanged]⟩
  all_goals simp [Hub.lineChanged]

/-- What a line's sample leaves of the lines and of the pose. -/
theorem sampleLine_lines (h : Hub) (levels : PerLine Bool) (l : Line) :
    (h.sampleLine levels l).lines.lastSample = h.lines.lastSample.set l ((h.samples levels).get l)
    ∧ (h.lineStays levels l → (h.sampleLine levels l).lines.asserted = h.lines.asserted)
    ∧ (¬ h.lineStays levels l →
      (h.sampleLine levels l).lines.asserted = h.lines.asserted.set l ((h.samples levels).get l))
    ∧ (h.sampleLine levels l).lines.timer = h.lines.timer ∧ (h.sampleLine levels l).odo.pose = h.odo.pose := by
  by_cases hs : h.lineStays levels l
  · rw [sampleLine_stays hs]
    exact ⟨rfl, fun _ => rfl, fun hn => absurd hs hn, rfl, rfl⟩
  · rw [sampleLine_changes hs]
    obtain ⟨ha, hlast, ht, hp⟩ := lineChanged_lines { h with
      lines.lastSample := h.lines.lastSample.set l ((h.samples levels).get l)
      lines.asserted := h.lines.asserted.set l ((h.samples levels).get l) } l ((h.samples levels).get l)
    exact ⟨hlast, fun hy => absurd hy hs, fun _ => ha, ht, hp⟩

/-- What decides whether a line stays is its own sample, state and last sample. -/
theorem lineStays_congr {g h : Hub} {levels : PerLine Bool} {l : Line} (hs : g.sensors = h.sensors)
    (ha : g.lines.asserted.get l = h.lines.asserted.get l)
    (hlast : g.lines.lastSample.get l = h.lines.lastSample.get l) : g.lineStays levels l ↔ h.lineStays levels l := by
  rw [Hub.lineStays, Hub.lineStays, samples_get, samples_get, hs, ha, hlast]

/-- Another line's sample does not touch a line. -/
theorem sampleLine_other (h : Hub) (levels : PerLine Bool) {l k : Line} (hk : k ≠ l) :
    (h.sampleLine levels l).lines.asserted.get k = h.lines.asserted.get k
    ∧ (h.sampleLine levels l).lines.lastSample.get k = h.lines.lastSample.get k
    ∧ ((h.sampleLine levels l).lineStays levels k ↔ h.lineStays levels k) := by
  obtain ⟨hlast, hstay, hchange, -, -⟩ := sampleLine_lines h levels l
  have ha : (h.sampleLine levels l).lines.asserted.get k = h.lines.asserted.get k := by
    by_cases hs : h.lineStays levels l
    · rw [hstay hs]
    · rw [hchange hs, perLine_get_set, if_neg hk]
  have hl : (h.sampleLine levels l).lines.lastSample.get k = h.lines.lastSample.get k := by
    rw [hlast, perLine_get_set, if_neg hk]
  exact ⟨ha, hl, lineStays_congr (by simp) ha hl⟩

/-! ## The samples of several lines -/

theorem sampleLines_lines (levels : PerLine Bool) (ls : List Line) :
    ∀ h : Hub, ls.Nodup →
      let g := ls.foldl (Hub.sampleLine levels) h
      g.lines.timer = h.lines.timer ∧ g.odo.pose = h.odo.pose
      ∧ ∀ l, (l ∉ ls → g.lines.lastSample.get l = h.lines.lastSample.get l
          ∧ g.lines.asserted.get l = h.lines.asserted.get l)
        ∧ (l ∈ ls → g.lines.lastSample.get l = (h.samples levels).get l
          ∧ (h.lineStays levels l → g.lines.asserted.get l = h.lines.asserted.get l)
          ∧ (¬ h.lineStays levels l → g.lines.asserted.get l = (h.samples levels).get l)) := by
  induction ls with
  | nil => exact fun h _ => ⟨rfl, rfl, fun l => ⟨fun _ => ⟨rfl, rfl⟩, fun hm => absurd hm List.not_mem_nil⟩⟩
  | cons k ls ih =>
    intro h hnd
    obtain ⟨hk, hnd⟩ := List.nodup_cons.mp hnd
    obtain ⟨hlast, hstay, hchange, htimer, hpose⟩ := sampleLine_lines h levels k
    obtain ⟨ht, hp, hls⟩ := ih (h.sampleLine levels k) hnd
    refine ⟨ht.trans htimer, hp.trans hpose, fun l => ⟨fun hl => ?_, fun hl => ?_⟩⟩
    · have hne : l ≠ k := fun he => hl (he ▸ List.mem_cons_self ..)
      obtain ⟨ha, hb, -⟩ := sampleLine_other h levels hne
      obtain ⟨hl1, hl2⟩ := (hls l).1 fun hm => hl (List.mem_cons_of_mem _ hm)
      exact ⟨hl1.trans hb, hl2.trans ha⟩
    · by_cases he : l = k
      · subst he
        obtain ⟨hl1, hl2⟩ := (hls l).1 hk
        have hget (b : Bool) (p : PerLine Bool) : (p.set l b).get l = b := by rw [perLine_get_set, if_pos rfl]
        exact ⟨hl1.trans (by rw [hlast, hget]), fun hs => hl2.trans (by rw [hstay hs]),
          fun hs => hl2.trans (by rw [hchange hs, hget])⟩
      · obtain ⟨ha, -, hiff⟩ := sampleLine_other h levels he
        obtain ⟨h1, h2, h3⟩ := (hls l).2 ((List.mem_cons.mp hl).resolve_left he)
        have hsame : ((h.sampleLine levels k).samples levels).get l = (h.samples levels).get l := by
          rw [samples_get, samples_get]
          simp
        rw [hsame] at h1 h3
        exact ⟨h1, fun hs => (h2 (hiff.mpr hs)).trans ha, fun hs => h3 (mt hiff.mp hs)⟩

/-- Samples with which no line changes are remembered, and nothing more. -/
theorem sampleLines_stay (levels : PerLine Bool) (ls : List Line) :
    ∀ h : Hub, ls.Nodup → (∀ l ∈ ls, h.lineStays levels l) →
      ∃ last, ls.foldl (Hub.sampleLine levels) h = { h with lines.lastSample := last } := by
  induction ls with
  | nil => exact fun h _ _ => ⟨h.lines.lastSample, rfl⟩
  | cons k ls ih =>
    intro h hnd hs
    obtain ⟨hk, hnd⟩ := List.nodup_cons.mp hnd
    obtain ⟨last, hlast⟩ := ih (h.sampleLine levels k) hnd fun l hl =>
      (sampleLine_other h levels (fun he : l = k => hk (he ▸ hl))).2.2.mpr (hs l (List.mem_cons_of_mem _ hl))
    refine ⟨last, hlast.trans ?_⟩
    rw [sampleLine_stays (hs k (List.mem_cons_self ..))]

/-- Where one of the lines changes, its change is all that the samples do. -/
theorem sampleLines_one (levels : PerLine Bool) {pre post : List Line} {l : Line} (h : Hub)
    (hnd : (pre ++ l :: post).Nodup) (hl : ¬ h.lineStays levels l)
    (hs : ∀ k, k ≠ l → h.lineStays levels k) :
    ∃ before after,
      (pre ++ l :: post).foldl (Hub.sampleLine levels) h =
        { Hub.lineChanged l ((h.samples levels).get l)
          { h with
            lines.lastSample := before
            lines.asserted := h.lines.asserted.set l ((h.samples levels).get l) } with
          lines.lastSample := after } := by
  obtain ⟨hpre, hrest, hdis⟩ := List.nodup_append.mp hnd
  obtain ⟨hlpost, hpost⟩ := List.nodup_cons.mp hrest
  have hlpre : l ∉ pre := fun hm => hdis l hm l (List.mem_cons_self ..) rfl
  obtain ⟨p, hp⟩ := sampleLines_stay levels pre h hpre fun k hk => hs k (fun he => hlpre (he ▸ hk))
  obtain ⟨-, -, hkeep⟩ := sampleLines_lines levels pre h hpre
  obtain ⟨g, hg⟩ : ∃ g, g = { h with lines.lastSample := p } := ⟨_, rfl⟩
  rw [hp, ← hg] at hkeep
  have hiff (k : Line) (hk : k ∉ pre) : g.lineStays levels k ↔ h.lineStays levels k :=
    lineStays_congr (by rw [hg]) ((hkeep k).1 hk).2 ((hkeep k).1 hk).1
  have hchange := sampleLine_changes (mt (hiff l hlpre).mp hl)
  obtain ⟨q, hq⟩ := sampleLines_stay levels post (g.sampleLine levels l) hpost fun k hk => by
    have hne : k ≠ l := fun he => hlpost (he ▸ hk)
    have hkpre : k ∉ pre := fun hm => hdis k hm k (List.mem_cons_of_mem _ hk) rfl
    exact (sampleLine_other g levels hne).2.2.mpr ((hiff k hkpre).mpr (hs k hne))
  refine ⟨g.lines.lastSample.set l ((g.samples levels).get l), q, ?_⟩
  rw [List.foldl_append, hp, ← hg, List.foldl_cons, hq, hchange, hg]
  rfl

end Sys2Proof.Machine
end
section
/-!
The line samples: bumps, wheel drops and releases (R38 to R42).
-/

namespace Sys2Proof.Machine

section
variable {h : Hub}

/-! ## A bump (R38) -/

theorem forward_motion (hf : h.forward = true) : h.permit.state = .moving ∨ h.permit.state = .probing := by
  unfold Hub.forward at hf
  cases hs : h.permit.state <;> simp [hs] at hf ⊢

/-- The hub with a bump's record offered. -/
def Hub.bumpPosted (h : Hub) (side : Side) : Hub :=
  h.post .bump .lineMonitor
    ((if h.tracking then h.pose.bumperTile h.limits.radius side else none).elim [] fun t => [.bump side t])

theorem bumpAssert_eq (side : Side) :
    h.bumpAssert side =
      if (h.bumpPosted side).forward then (h.bumpPosted side).trigger .bump else h.bumpPosted side := rfl

theorem bumpAssert_permit (side : Side) :
    (h.forward = true → (h.bumpAssert side).permit.state = .stopping ∧ (h.bumpAssert side).permit.lastStop = some .bump
      ∧ (h.bumpAssert side).permit.active = none ∧ (h.bumpAssert side).planHas .stopIssued = true)
    ∧ (h.forward = false → (h.bumpAssert side).permit = h.permit) := by
  have hp : (h.bumpPosted side).permit = h.permit := by simp [Hub.bumpPosted]
  have hforward : (h.bumpPosted side).forward = h.forward := by rw [Hub.forward, Hub.forward, hp]
  rw [bumpAssert_eq, hforward]
  refine ⟨fun hf => ?_, fun hf => by rw [if_neg (by simp [hf]), hp]⟩
  rw [if_pos hf, Hub.trigger_in_motion _ .bump (by rw [hp]; exact forward_motion hf) nofun nofun]
  exact ⟨by simp, by simp, by simp, Hub.stopSequence_issued ..⟩

/-- The record of a line's assertion: one item at the tile, in TRACKING and where there is one. -/
theorem linePost_queue (kind : EvidenceKind) (tile : Option Tile) (item : Tile → Item) :
    (∀ t, h.UpdaterWaits → h.queue.count + 1 ≤ 40 → h.queue.bytes + 14 ≤ 640 → h.tracking = true → tile = some t →
      (h.post kind .lineMonitor ((if h.tracking then tile else none).elim [] fun t => [item t])).queue.records =
        h.queue.records ++ [⟨kind, h.floor, h.time.ms, .lineMonitor, [item t]⟩])
    ∧ (h.tracking = false ∨ tile = none →
      h.post kind .lineMonitor ((if h.tracking then tile else none).elim [] fun t => [item t]) = h) := by
  refine ⟨?_, fun hno => ?_⟩
  · rintro t hw hc hb ht rfl
    have hl : h.odo.pose ≠ .lifted := by
      have : h.odo.pose = .tracking := by simpa [Hub.tracking] using ht
      simp [this]
    rw [if_pos ht]
    exact (post_waits hw kind .lineMonitor [item t]).2.2 hl hc hb
  · have hnone : (if h.tracking then tile else none) = none := by
      rcases hno with hno | rfl
      · simp [hno]
      · simp
    rw [hnone]
    rfl

theorem bumpAssert_queue (side : Side) : (h.bumpAssert side).queue = (h.bumpPosted side).queue := by
  rw [bumpAssert_eq]
  split <;> simp

/-! ## A wheel drop (R34, R40) -/

/-- A wheel drop's stop: WHEEL_DROP, unless the block it ended has stopped the motion by CLIFF_SEEN. -/
theorem drop_permit :
    let g := h.endBlockEarly.trigger .wheelDrop
    (h.permit.state = .moving ∨ h.permit.state = .probing →
      g.permit.state = .stopping ∧ g.permit.active = none ∧ g.planHas .stopIssued = true
      ∧ (h.scanner.block.k ≠ 0 ∧ h.cliffSeen h.scanner.block = true → g.permit.lastStop = some .cliffSeen)
      ∧ (¬ (h.scanner.block.k ≠ 0 ∧ h.cliffSeen h.scanner.block = true) → g.permit.lastStop = some .wheelDrop))
    ∧ (h.permit.state ≠ .moving → h.permit.state ≠ .probing →
      g.permit.state = h.permit.state ∧ g.permit.lastStop = h.permit.lastStop) := by
  intro g
  obtain ⟨hseen, hunseen⟩ := blockEnd_permit (h := h)
  have hkept (hn : ¬ (h.scanner.block.k ≠ 0 ∧ h.cliffSeen h.scanner.block = true)) :
      h.endBlockEarly.permit = h.permit := by
    unfold Hub.endBlockEarly
    split
    · simp
    · next hk => exact hunseen (by simpa [hk] using hn)
  refine ⟨fun hm => ?_, fun hnm hnp => ?_⟩
  · by_cases hedge : h.scanner.block.k ≠ 0 ∧ h.cliffSeen h.scanner.block = true
    · obtain ⟨hstate, hactive, hlast, hissued⟩ := hseen hedge.2
      have hg : g = h.blockEnd := by
        have he : h.endBlockEarly = h.blockEnd := if_neg hedge.1
        exact (congrArg (Hub.trigger .wheelDrop) he).trans (Hub.trigger_at_rest _ _ (.inl hstate) nofun nofun)
      rw [hg]
      exact ⟨hstate, hactive, hissued, fun _ => hlast, fun hn => absurd hedge hn⟩
    · have hg : g = h.endBlockEarly.stopSequence .wheelDrop :=
        Hub.trigger_in_motion _ _ (by rw [hkept hedge]; exact hm) nofun nofun
      rw [hg]
      exact ⟨by simp, by simp, Hub.stopSequence_issued .., fun hy => absurd hy hedge, fun _ => by simp⟩
  · have hnot : ¬ (h.scanner.block.k ≠ 0 ∧ h.cliffSeen h.scanner.block = true) := by
      rintro ⟨-, hc⟩
      rw [cliffSeen_iff] at hc
      exact hc.elim (fun hc => hnm hc.1) fun hc => hnp hc.1
    rw [← hkept hnot] at hnm hnp ⊢
    cases hs : h.endBlockEarly.permit.state with
    | moving => exact absurd hs hnm
    | probing => exact absurd hs hnp
    | still =>
      have hg : g = h.endBlockEarly.markStale := by
        change h.endBlockEarly.trigger .wheelDrop = _
        simp [Hub.trigger, hs]
      obtain ⟨c, hc⟩ := Hub.markStale_permit h.endBlockEarly
      rw [hg, hc]
      exact ⟨hs, rfl⟩
    | stopping =>
      rw [show g = h.endBlockEarly from Hub.trigger_at_rest _ _ (.inl hs) nofun nofun]
      exact ⟨hs, rfl⟩
    | inhibited =>
      rw [show g = h.endBlockEarly from Hub.trigger_at_rest _ _ (.inr hs) nofun nofun]
      exact ⟨hs, rfl⟩

/-- The records of a block ended early follow those that wait, and a block without scans or without posting has none. -/
theorem endBlockEarly_queue :
    (h.UpdaterWaits → ∃ rest, h.endBlockEarly.queue.records = h.queue.records ++ rest
      ∧ (h.scanner.block.k = 0 ∨ h.scanner.block.posting = false → rest = []))
    ∧ (h.scanner.block.k = 0 ∨ h.scanner.block.posting = false → h.endBlockEarly.queue = h.queue) := by
  have hnone (hb : h.scanner.block.k = 0 ∨ h.scanner.block.posting = false) : h.endBlockEarly.queue = h.queue := by
    unfold Hub.endBlockEarly
    split
    · simp
    · next hk => exact (blockEnd_unposted (hb.resolve_left hk)).1
  refine ⟨fun hw => ?_, hnone⟩
  by_cases hb : h.scanner.block.k = 0 ∨ h.scanner.block.posting = false
  · exact ⟨[], by simp [hnone hb], fun _ => rfl⟩
  · obtain ⟨rest, hrest⟩ := blockPosted_queue hw
    refine ⟨rest, ?_, fun hy => absurd hy hb⟩
    rw [Hub.endBlockEarly, if_neg (fun hk => hb (.inl hk)), blockEnd_queue, hrest]

theorem endBlockEarly_fresh : h.endBlockEarly.scanner.block.k = 0 := by
  unfold Hub.endBlockEarly
  split
  · unfold Hub.boundary
    rfl
  · rw [blockEnd_scanner.1]
    rfl

/-- The hub with a wheel drop's record offered. -/
def Hub.dropPosted (h : Hub) (side : Side) : Hub :=
  h.post .wheelDrop .lineMonitor
    ((if h.tracking then h.pose.contactTile h.sensors.wheelBase side else none).elim [] fun t => [.wheelDrop side t])

theorem dropAssert_eq (side : Side) :
    h.dropAssert side = (((h.dropPosted side).endBlockEarly.trigger .wheelDrop).cancelPassOver).timingAssert := rfl

theorem timingAssert_planHas (f : PlanFlag) : h.timingAssert.planHas f = h.planHas f := planHas_congr (by simp) f

theorem cancelPassOver_planHas (f : PlanFlag) : h.cancelPassOver.planHas f = h.planHas f := planHas_congr (by simp) f

/-- The timing at an assertion (R41, R42). -/
theorem timingAssert_timing :
    (h.odo.pose = .lifted → h.timingAssert.lines.setDown = none ∧ h.timingAssert.lines.lift = h.lines.lift)
    ∧ (h.odo.pose ≠ .lifted → h.timingAssert.lines.setDown = h.lines.setDown
      ∧ h.timingAssert.lines.lift =
          if h.lines.asserted.wdpL && h.lines.asserted.wdpR then some ⟨h.time.ms, 1000⟩ else h.lines.lift) := by
  refine ⟨fun hl => ?_, fun hl => ?_⟩
  · rw [Hub.timingAssert, if_pos hl]
    exact ⟨rfl, rfl⟩
  · rw [Hub.timingAssert, if_neg hl]
    split <;> exact ⟨rfl, rfl⟩

/-- The timing at a release (R41, R42). -/
theorem timingRelease_timing :
    (h.odo.pose ≠ .lifted → h.timingRelease.lines.lift = none ∧ h.timingRelease.lines.setDown = h.lines.setDown)
    ∧ (h.odo.pose = .lifted → h.timingRelease.lines.lift = h.lines.lift
      ∧ h.timingRelease.lines.setDown =
          if h.lines.asserted.wdpL || h.lines.asserted.wdpR then h.lines.setDown else some ⟨h.time.ms, 500⟩) := by
  refine ⟨fun hl => ?_, fun hl => ?_⟩
  · rw [Hub.timingRelease, if_neg hl]
    exact ⟨rfl, rfl⟩
  · rw [Hub.timingRelease, if_pos hl]
    split <;> exact ⟨rfl, rfl⟩

end

end Sys2Proof.Machine
end
section
/-!
The sample of the lines, settled.
-/

namespace Sys2Proof.Machine

/-- The line samples' hub once the timer is reloaded. -/
theorem lineSample_due {h : Hub} (hd : h.lines.timer.due h.time.ms = true) (levels : PerLine Bool) :
    h.lineSample levels = [Line.bmpL, .bmpR, .wdpL, .wdpR].foldl (Hub.sampleLine levels)
      { h with lines.timer := h.lines.timer.reload } := if_pos hd

theorem mem_lines (l : Line) : l ∈ [Line.bmpL, .bmpR, .wdpL, .wdpR] := by cases l <;> simp

theorem lines_nodup : [Line.bmpL, .bmpR, .wdpL, .wdpR].Nodup := by decide

/-- The hub in which a line's change has its effect. -/
def Hub.lineTurned (h : Hub) (l : Line) (now : Bool) (before : PerLine Bool) : Hub :=
  { h with
    lines.timer := h.lines.timer.reload
    lines.lastSample := before
    lines.asserted := h.lines.asserted.set l now }

theorem lineSample_one {h : Hub} (hd : h.lines.timer.due h.time.ms = true) {levels : PerLine Bool} {l : Line}
    (hl : ¬ h.lineStays levels l) (hs : ∀ k, k ≠ l → h.lineStays levels k) :
    ∃ before after, h.lineSample levels =
      { (h.lineTurned l ((h.samples levels).get l) before).lineChanged l ((h.samples levels).get l) with
        lines.lastSample := after } := by
  rw [lineSample_due hd]
  obtain ⟨pre, post, hsplit⟩ := List.append_of_mem (mem_lines l)
  rw [hsplit]
  exact sampleLines_one levels (h := { h with lines.timer := h.lines.timer.reload }) (hsplit ▸ lines_nodup) hl hs

/-- The lines and the untouched parts after any sample. -/
theorem lineSample_lines {h : Hub} (hd : h.lines.timer.due h.time.ms = true) (levels : PerLine Bool) :
    (h.lineSample levels).lines.lastSample = h.samples levels
    ∧ (h.lineSample levels).lines.timer = h.lines.timer.reload ∧ (h.lineSample levels).odo.pose = h.odo.pose
    ∧ ∀ l, (h.lineStays levels l → (h.lineSample levels).lines.asserted.get l = h.lines.asserted.get l)
      ∧ (¬ h.lineStays levels l → (h.lineSample levels).lines.asserted.get l = (h.samples levels).get l) := by
  rw [lineSample_due hd]
  obtain ⟨ht, hp, hls⟩ := sampleLines_lines levels [Line.bmpL, .bmpR, .wdpL, .wdpR]
    { h with lines.timer := h.lines.timer.reload } lines_nodup
  exact ⟨perLine_ext fun l => ((hls l).2 (mem_lines l)).1, ht, hp, fun l => ((hls l).2 (mem_lines l)).2⟩

/-- A sample with which no line changes is remembered, and the timer reloaded. -/
theorem lineSample_stays {h : Hub} (hd : h.lines.timer.due h.time.ms = true) {levels : PerLine Bool}
    (hs : ∀ l, h.lineStays levels l) :
    h.lineSample levels = { h with lines.timer := h.lines.timer.reload, lines.lastSample := h.samples levels } := by
  have hlast := (lineSample_lines hd levels).1
  rw [lineSample_due hd] at hlast ⊢
  obtain ⟨last, he⟩ := sampleLines_stay levels [Line.bmpL, .bmpR, .wdpL, .wdpR]
    { h with lines.timer := h.lines.timer.reload } lines_nodup fun l _ => hs l
  rw [he] at hlast ⊢
  rw [← show last = h.samples levels from hlast]

/-- Room for one more record of one item while the Map Updater waits. -/
def Hub.roomForOne (h : Hub) : Prop := h.UpdaterWaits ∧ h.queue.count + 1 ≤ 40 ∧ h.queue.bytes + 14 ≤ 640

/-- The records of a wheel drop: its own, then those of the block it ends. -/
theorem dropAssert_queue {h : Hub} (side : Side) :
    (∀ t, h.roomForOne → h.tracking = true → h.pose.contactTile h.sensors.wheelBase side = some t →
      ∃ rest, (h.dropAssert side).queue.records =
          h.queue.records ++ ⟨.wheelDrop, h.floor, h.time.ms, .lineMonitor, [.wheelDrop side t]⟩ :: rest
        ∧ (h.scanner.block.k = 0 ∨ h.scanner.block.posting = false → rest = []))
    ∧ (h.tracking = false ∨ h.pose.contactTile h.sensors.wheelBase side = none →
      h.scanner.block.k = 0 ∨ h.scanner.block.posting = false → (h.dropAssert side).queue = h.queue) := by
  obtain ⟨hpost, hnone⟩ := linePost_queue (h := h) .wheelDrop (h.pose.contactTile h.sensors.wheelBase side)
    (Item.wheelDrop side)
  have hqueue : (h.dropAssert side).queue = (h.dropPosted side).endBlockEarly.queue := by
    rw [dropAssert_eq]
    simp
  have hscanner : (h.dropPosted side).scanner = h.scanner := by simp [Hub.dropPosted]
  obtain ⟨hrest, hsame⟩ := endBlockEarly_queue (h := h.dropPosted side)
  rw [hscanner] at hrest hsame
  rw [hqueue]
  refine ⟨fun t hroom ht htile => ?_, fun hno hb => ?_⟩
  · obtain ⟨hw, hc, hb⟩ := hroom
    obtain ⟨rest, hrecords, hr⟩ := hrest (post_waits hw ..).1
    have hown : (h.dropPosted side).queue.records = _ := hpost t hw hc hb ht htile
    exact ⟨rest, by rw [hrecords, hown, List.append_assoc]; rfl, hr⟩
  · exact (hsame hb).trans (congrArg Hub.queue (hnone hno))

/-- A wheel drop's stop, its fresh block and its cancelled pass-over. -/
theorem dropAssert_stop {h : Hub} (side : Side) :
    let g := h.dropAssert side
    let edge := h.scanner.block.k ≠ 0 ∧ h.cliffSeen h.scanner.block = true
    g.odo.left.noted = none ∧ g.odo.right.noted = none ∧ g.scanner.block.k = 0
    ∧ (h.permit.state = .moving ∨ h.permit.state = .probing →
      g.permit.state = .stopping ∧ g.permit.active = none ∧ g.planHas .stopIssued = true
      ∧ (edge → g.permit.lastStop = some .cliffSeen) ∧ (¬ edge → g.permit.lastStop = some .wheelDrop))
    ∧ (h.permit.state ≠ .moving → h.permit.state ≠ .probing →
      g.permit.state = h.permit.state ∧ g.permit.lastStop = h.permit.lastStop) := by
  have hscanner : (h.dropPosted side).scanner = h.scanner := by simp [Hub.dropPosted]
  have hpermit : (h.dropPosted side).permit = h.permit := by simp [Hub.dropPosted]
  have hstop := drop_permit (h := h.dropPosted side)
  dsimp only at hstop
  rw [hscanner, hpermit, cliffSeen_congr hpermit] at hstop
  have hk := endBlockEarly_fresh (h := h.dropPosted side)
  dsimp only
  rw [dropAssert_eq]
  simp only [timingAssert_planHas, cancelPassOver_planHas, Hub.timingAssert_frame, Hub.cancelPassOver_frame,
    Hub.trigger_frame]
  exact ⟨rfl, rfl, hk, hstop⟩

/-- The timing after a wheel drop. -/
theorem dropAssert_timing {h : Hub} (side : Side) :
    let g := h.dropAssert side
    (h.odo.pose = .lifted → g.lines.setDown = none ∧ g.lines.lift = h.lines.lift)
    ∧ (h.odo.pose ≠ .lifted → g.lines.setDown = h.lines.setDown
      ∧ g.lines.lift =
          if h.lines.asserted.wdpL && h.lines.asserted.wdpR then some ⟨h.time.ms, 1000⟩ else h.lines.lift) := by
  obtain ⟨g, hg⟩ : ∃ g, g = ((h.dropPosted side).endBlockEarly.trigger .wheelDrop).cancelPassOver := ⟨_, rfl⟩
  have hkeep : g.lines = h.lines ∧ g.time = h.time ∧ g.odo.pose = h.odo.pose := by
    rw [hg]
    simp [Hub.dropPosted, Hub.cancelPassOver]
  have htime := timingAssert_timing (h := g)
  rw [hkeep.1, hkeep.2.1, hkeep.2.2] at htime
  dsimp only
  rw [dropAssert_eq, ← hg]
  exact htime

/-- A line that changes to a sample was the other way. -/
theorem asserted_of_changes {h : Hub} {levels : PerLine Bool} {l : Line} (hl : ¬ h.lineStays levels l) :
    h.lines.asserted.get l = !(h.samples levels).get l := by
  have hne : (h.samples levels).get l ≠ h.lines.asserted.get l := fun he => hl (.inl he)
  revert hne
  cases (h.samples levels).get l <;> cases h.lines.asserted.get l <;> simp

/-- The effects of a wheel-drop line's assertion (R34, R40 to R42). -/
theorem lineTurned_drop {h : Hub} {l : Line} {side : Side} (hside : (l, side) = (.wdpL, .left) ∨ (l, side) = (.wdpR, .right))
    (hlow : h.lines.asserted.get l = false) (before : PerLine Bool) :
    let g := (h.lineTurned l true before).lineChanged l true
    let b := h.scanner.block
    let edge := b.k ≠ 0 ∧ h.cliffSeen b = true
    g.odo.left.noted = none ∧ g.odo.right.noted = none ∧ g.scanner.block.k = 0
    ∧ (h.permit.state = .moving ∨ h.permit.state = .probing →
      g.permit.state = .stopping ∧ g.permit.active = none ∧ g.planHas .stopIssued = true
      ∧ (edge → g.permit.lastStop = some .cliffSeen) ∧ (¬ edge → g.permit.lastStop = some .wheelDrop))
    ∧ (h.permit.state ≠ .moving → h.permit.state ≠ .probing →
      g.permit.state = h.permit.state ∧ g.permit.lastStop = h.permit.lastStop)
    ∧ (∀ t, h.roomForOne → h.tracking = true → h.pose.contactTile h.sensors.wheelBase side = some t →
      ∃ rest, g.queue.records =
          h.queue.records ++ ⟨.wheelDrop, h.floor, h.time.ms, .lineMonitor, [.wheelDrop side t]⟩ :: rest
        ∧ (b.k = 0 ∨ b.posting = false → rest = []))
    ∧ (h.tracking = false ∨ h.pose.contactTile h.sensors.wheelBase side = none →
      b.k = 0 ∨ b.posting = false → g.queue = h.queue)
    ∧ (h.odo.pose = .lifted → g.lines.setDown = none ∧ g.lines.lift = h.lines.lift)
    ∧ (h.odo.pose ≠ .lifted → g.lines.setDown = h.lines.setDown
      ∧ g.lines.lift =
          if h.lines.asserted.wdpL || h.lines.asserted.wdpR then some ⟨h.time.ms, 1000⟩ else h.lines.lift) := by
  obtain ⟨g, hg⟩ : ∃ g, g = h.lineTurned l true before := ⟨_, rfl⟩
  have hdrop : (h.lineTurned l true before).lineChanged l true = g.dropAssert side := by
    rcases hside with hside | hside <;> cases hside <;> rw [hg] <;> rfl
  have hboth : (g.lines.asserted.wdpL && g.lines.asserted.wdpR) = (h.lines.asserted.wdpL || h.lines.asserted.wdpR) := by
    rcases hside with hside | hside <;> cases hside
    all_goals
      rw [hg]
      simp_all [Hub.lineTurned, PerLine.set, PerLine.get]
  obtain ⟨hleft, hright, hk, hmotion, hrest⟩ := dropAssert_stop (h := g) side
  obtain ⟨hrecords, hnone⟩ := dropAssert_queue (h := g) side
  obtain ⟨hlifted, hlower⟩ := dropAssert_timing (h := g) side
  rw [hboth] at hlower
  dsimp only
  rw [hdrop]
  rw [hg] at hmotion hrest hrecords hnone hlifted hlower hleft hright hk ⊢
  exact ⟨hleft, hright, hk, hmotion, hrest, fun t hroom => hrecords t hroom, hnone, hlifted, hlower⟩

/-- The effects of a bump line's assertion (R38). -/
theorem lineTurned_bump {h : Hub} {l : Line} {side : Side} (hside : (l, side) = (.bmpL, .left) ∨ (l, side) = (.bmpR, .right))
    (before : PerLine Bool) :
    let g := (h.lineTurned l true before).lineChanged l true
    (h.forward = true → g.permit.state = .stopping ∧ g.permit.lastStop = some .bump ∧ g.permit.active = none
      ∧ g.planHas .stopIssued = true)
    ∧ (h.forward = false → g.permit = h.permit)
    ∧ (∀ t, h.roomForOne → h.tracking = true → h.pose.bumperTile h.limits.radius side = some t →
      g.queue.records = h.queue.records ++ [⟨.bump, h.floor, h.time.ms, .lineMonitor, [.bump side t]⟩])
    ∧ (h.tracking = false ∨ h.pose.bumperTile h.limits.radius side = none → g.queue = h.queue)
    ∧ g.lines.lift = h.lines.lift ∧ g.lines.setDown = h.lines.setDown ∧ g.odo = h.odo ∧ g.scanner = h.scanner := by
  obtain ⟨g, hg⟩ : ∃ g, g = h.lineTurned l true before := ⟨_, rfl⟩
  have hbump : (h.lineTurned l true before).lineChanged l true = g.bumpAssert side := by
    rcases hside with hside | hside <;> cases hside <;> rw [hg] <;> rfl
  obtain ⟨hforward, hstill⟩ := bumpAssert_permit (h := g) side
  obtain ⟨hpost, hnone⟩ := linePost_queue (h := g) .bump (g.pose.bumperTile g.limits.radius side) (Item.bump side)
  have hrecords (t : Tile) (hroom : g.roomForOne) (ht : g.tracking = true)
      (htile : g.pose.bumperTile g.limits.radius side = some t) : (g.bumpAssert side).queue.records = _ :=
    (congrArg EvidenceQueue.records (bumpAssert_queue side)).trans (hpost t hroom.1 hroom.2.1 hroom.2.2 ht htile)
  have hsame (hno : g.tracking = false ∨ g.pose.bumperTile g.limits.radius side = none) :
      (g.bumpAssert side).queue = g.queue := (bumpAssert_queue side).trans (congrArg Hub.queue (hnone hno))
  dsimp only
  rw [hbump]
  rw [hg] at hforward hstill hrecords hsame ⊢
  exact ⟨hforward, hstill, fun t hroom => hrecords t hroom, hsame, by simp [Hub.lineTurned], by simp [Hub.lineTurned],
    by simp [Hub.lineTurned], by simp [Hub.lineTurned]⟩

/-- The effects of a line's release (R41, R42). -/
theorem lineTurned_release {h : Hub} {l : Line} (hhigh : h.lines.asserted.get l = true) (before : PerLine Bool) :
    let g := (h.lineTurned l false before).lineChanged l false
    g.permit = h.permit ∧ g.queue = h.queue ∧ g.odo = h.odo ∧ g.scanner = h.scanner
    ∧ (l = .bmpL ∨ l = .bmpR → g.lines.lift = h.lines.lift ∧ g.lines.setDown = h.lines.setDown)
    ∧ (l = .wdpL ∨ l = .wdpR → h.odo.pose ≠ .lifted → g.lines.lift = none ∧ g.lines.setDown = h.lines.setDown)
    ∧ (l = .wdpL ∨ l = .wdpR → h.odo.pose = .lifted → g.lines.lift = h.lines.lift
      ∧ g.lines.setDown =
          if h.lines.asserted.wdpL && h.lines.asserted.wdpR then h.lines.setDown else some ⟨h.time.ms, 500⟩) := by
  obtain ⟨g, hg⟩ : ∃ g, g = h.lineTurned l false before := ⟨_, rfl⟩
  obtain ⟨hlower, hlifted⟩ := timingRelease_timing (h := g)
  have hbump (hb : l = .bmpL ∨ l = .bmpR) : (h.lineTurned l false before).lineChanged l false = g := by
    rcases hb with rfl | rfl <;> rw [hg] <;> rfl
  have hdrop (hw : l = .wdpL ∨ l = .wdpR) : (h.lineTurned l false before).lineChanged l false = g.timingRelease := by
    rcases hw with rfl | rfl <;> rw [hg] <;> rfl
  have hboth (hw : l = .wdpL ∨ l = .wdpR) :
      (g.lines.asserted.wdpL || g.lines.asserted.wdpR) = (h.lines.asserted.wdpL && h.lines.asserted.wdpR) := by
    rcases hw with rfl | rfl
    all_goals
      rw [hg]
      simp_all [Hub.lineTurned, PerLine.set, PerLine.get]
  dsimp only
  refine ⟨?_, ?_, ?_, ?_, fun hb => ?_, fun hw hn => ?_, fun hw hy => ?_⟩
  iterate 4 · cases l <;> simp [Hub.lineChanged, Hub.lineTurned]
  · rw [hbump hb, hg]
    exact ⟨rfl, rfl⟩
  · rw [hdrop hw]
    rw [hg] at hlower ⊢
    exact hlower hn
  · rw [hdrop hw]
    rw [hboth hw] at hlifted
    rw [hg] at hlifted ⊢
    exact hlifted hy

/-- Settles O54: the samples are deglitched, and a line's change has the effects of its kind. -/
theorem lineSampleDeglitchesTheLines : Obligations.LineSampleDeglitchesTheLines := by
  intro s levels hr hd now stays room
  have hrun := runs_of_run (i := .lineSample levels) (s := s) (f := Hub.lineSample levels) rfl hr
  obtain ⟨hlast, htimer, hpose, hasserted⟩ := lineSample_lines hd levels
  refine ⟨⟨_, hrun, hlast, htimer, hasserted, by simp, by simp, by simp, by simp, hpose, by simp, by simp, by simp⟩,
    fun hs => ?_, fun l hl hs => ?_⟩
  · rwa [lineSample_stays hd hs] at hrun
  · obtain ⟨before, after, hone⟩ := lineSample_one hd hl hs
    have hwas : s.hub.lines.asserted.get l = !now.get l := asserted_of_changes hl
    rw [hone] at hrun
    refine ⟨_, hrun, fun side hside hnow => ?_, fun side hside hnow => ?_, fun hnow => ?_⟩
    · intro b fire fl fr edge
      have hedge : (s.hub.scanner.block.k ≠ 0 ∧ s.hub.cliffSeen s.hub.scanner.block = true) ↔ edge := by
        rw [cliffSeen_iff]
        exact Iff.rfl
      have hdrop := lineTurned_drop hside (hwas.trans (by rw [hnow]; rfl)) before
      simp only [hedge] at hdrop
      rw [show (s.hub.samples levels).get l = true from hnow]
      exact hdrop
    · rw [show (s.hub.samples levels).get l = true from hnow]
      exact lineTurned_bump hside before
    · rw [show (s.hub.samples levels).get l = false from hnow]
      exact lineTurned_release (hwas.trans (by rw [hnow]; rfl)) before

end Sys2Proof.Machine
end
section
/-!
An ask's ticks: what an ask keeps of the pose update it makes, and the travel along an axis (R72 to R74, R88).
-/

namespace Sys2Proof.Machine

section
variable {h : Hub}

/-! ## The flags after a record is offered -/

theorem testBacklog_power : h.testBacklog.att.powerFlags = h.att.powerFlags := by
  unfold Hub.testBacklog
  dsimp only
  split <;> simp

theorem beginItems_att (fl : Floor) (l : List Item) : ∀ h : Hub, (Hub.beginItems fl l h).1.att = h.att := by
  induction l with
  | nil => exact fun _ => rfl
  | cons i rest ih =>
    intro h
    unfold Hub.beginItems
    split
    · rfl
    · dsimp only
      repeat' split
      all_goals simp [ih]

theorem takeRecords_power (l : List Record) : ∀ h : Hub, (h.takeRecords l).att.powerFlags = h.att.powerFlags := by
  induction l with
  | nil => exact fun _ => rfl
  | cons r rest ih =>
    intro h
    unfold Hub.takeRecords
    dsimp only
    split
    · rw [beginItems_att]
    · rw [ih, Hub.dropHead, testBacklog_power]
      exact congrArg Attention.powerFlags (beginItems_att ..)

/-- A record offered clears no flag, and sets none of the Power Unit's. -/
theorem post_flags (kind : EvidenceKind) (source : Source) (items : List Item) :
    (∀ f, h.planHas f = true → (h.post kind source items).planHas f = true)
    ∧ ∀ f, (h.post kind source items).powerHas f = h.powerHas f := by
  unfold Hub.post Hub.offer
  split
  · exact ⟨fun f hf => hf, fun f => rfl⟩
  · split
    · exact ⟨fun f hf => hf, fun f => rfl⟩
    · split
      · refine ⟨fun f hf => kickUpdater_planHas ((Hub.testBacklog_worked _).flags f hf), fun f => powerHas_congr ?_ f⟩
        unfold Hub.kickUpdater
        split
        · exact testBacklog_power
        · rw [takeRecords_power, testBacklog_power]
      · exact ⟨fun f hf => planHas_setPlan_of (h := { h with queue.lost := sat16 h.queue.lost }) hf _, fun f => rfl⟩

theorem trackWheels_flags :
    (∀ f, h.planHas f = true → h.trackWheels.planHas f = true) ∧ ∀ f, h.trackWheels.powerHas f = h.powerHas f := by
  obtain ⟨hplan, hpower⟩ := post_flags (h := ((h.trackWheel .left).1.trackWheel .right).1) .passOver .odometryUnit
    ((h.trackWheel .left).2 ++ ((h.trackWheel .left).1.trackWheel .right).2)
  refine ⟨fun f hf => hplan f ((planHas_congr (by simp) f).trans hf), fun f => (hpower f).trans (powerHas_congr (by simp) f)⟩

/-! ## What an ask keeps of its pose update (R72, R88) -/

theorem startCheck_flags (a : AskFrame) :
    (h.startCheck a).att.planFlags = h.att.planFlags ∧ (h.startCheck a).att.powerFlags = h.att.powerFlags := by
  have hconclude (c : Check) (g : Hub) : (Hub.concludeCheck c g).att.planFlags = g.att.planFlags
      ∧ (Hub.concludeCheck c g).att.powerFlags = g.att.powerFlags := by
    unfold Hub.concludeCheck
    dsimp only
    split
    · simp
    · simp [Hub.grant]
  unfold Hub.startCheck Hub.settleCheck
  split
  · exact ⟨rfl, rfl⟩
  · split
    · dsimp only
      split
      · exact ⟨rfl, rfl⟩
      · exact hconclude _ _
    · exact hconclude _ _

/-- After its ticks an ask leaves the pose, the route, the trail, the return, the queue, the holds and the flags, and
in STOPPING the permit state. -/
structure Hub.Asked (t h : Hub) : Prop where
  odo : h.odo = t.odo
  route : h.route = t.route
  trail : h.trail = t.trail
  dock : h.dock = t.dock
  queue : h.queue = t.queue
  holds : h.permit.holds = t.permit.holds
  plan : ∀ f, h.planHas f = t.planHas f
  power : ∀ f, h.powerHas f = t.powerHas f
  stopping : t.permit.state = .stopping → h.permit.state = .stopping ∧ h.permit.lastStop = t.permit.lastStop

theorem ask_asked {a : AskFrame} (ht : h.tracking = true) (hl : askTicksLegal a = true) :
    (h.frameTaken.applyTicks a.leftCount a.rightCount).Asked (h.ask a) := by
  have htake : h.frameTaken.takeTicks a = h.frameTaken.applyTicks a.leftCount a.rightCount := by
    have htrack : h.frameTaken.tracking = true := by simpa [Hub.tracking] using ht
    simp [Hub.takeTicks, htrack, hl]
  rw [← htake]
  have habandon : (h.frameTaken.takeTicks a).abandonCheck .superseded = h.asked a := rfl
  have hpower : (h.asked a).att.powerFlags = (h.frameTaken.takeTicks a).att.powerFlags := by
    unfold Hub.asked Hub.abandonCheck
    split <;> simp
  have hbase : (h.frameTaken.takeTicks a).Asked (h.asked a) := by
    refine ⟨?_, ?_, ?_, ?_, ?_, ?_, fun f => planHas_congr (by rw [← habandon]; simp) f, fun f => powerHas_congr hpower f, ?_⟩
    all_goals simp [← habandon]
  have hgo (g : Hub) (ho : g.odo = (h.asked a).odo) (hro : g.route = (h.asked a).route) (htr : g.trail = (h.asked a).trail)
      (hd : g.dock = (h.asked a).dock) (hq : g.queue = (h.asked a).queue) (hh : g.permit.holds = (h.asked a).permit.holds)
      (hp : g.att.planFlags = (h.asked a).att.planFlags) (hw : g.att.powerFlags = (h.asked a).att.powerFlags)
      (hs : (h.asked a).permit.state = .stopping → g.permit = (h.asked a).permit) :
      (h.frameTaken.takeTicks a).Asked g := by
    refine ⟨ho.trans hbase.odo, hro.trans hbase.route, htr.trans hbase.trail, hd.trans hbase.dock, hq.trans hbase.queue,
      hh.trans hbase.holds, fun f => (planHas_congr hp f).trans (hbase.plan f),
      fun f => (powerHas_congr hw f).trans (hbase.power f), fun hst => ?_⟩
    rw [hs (hbase.stopping hst).1]
    exact hbase.stopping hst
  cases hr : (h.asked a).askRefusal a with
  | some r =>
    rw [Hub.ask_refused hr]
    apply hgo
    all_goals simp
  | none =>
    rw [Hub.ask_passed hr]
    have hmove : (h.asked a).permit.state ≠ .stopping := by
      intro hst
      unfold Hub.askRefusal at hr
      rw [hst] at hr
      split at hr <;> cases hr
    obtain ⟨hplan, hpow⟩ := startCheck_flags (h := h.asked a) a
    exact hgo _ (by simp) (by simp) (by simp) (by simp) (by simp) (by simp) hplan hpow fun hst => absurd hst hmove

end

/-! ## Travel along an axis (R73, R74) -/

theorem roundDiv_scale (n : Int) (d : Nat) {k : Nat} (hk : 0 < k) : roundDiv (n * k) (d * k) = roundDiv n d := by
  have hk' : (0 : Int) < k := by exact_mod_cast hk
  have hsign : 0 ≤ n * k ↔ 0 ≤ n := ⟨fun hn => nonneg_of_mul_nonneg_left hn hk', fun hn => mul_nonneg hn hk'.le⟩
  have hdiv (m : Int) : (2 * (m * k) + ((d * k : Nat) : Int)) / (2 * ((d * k : Nat) : Int)) = (2 * m + d) / (2 * d) := by
    rw [← Int.mul_ediv_mul_of_pos_left (2 * m + d) (2 * d) hk']
    push_cast
    ring_nf
  unfold roundDiv
  simp only [hsign]
  split
  · exact hdiv n
  · rw [← neg_mul, hdiv (-n)]

theorem roundDiv_zero (d : Nat) : roundDiv 0 d = 0 := by
  rw [roundDiv, if_pos le_rfl, mul_zero, zero_add]
  rcases Nat.eq_zero_or_pos d with rfl | hd
  · rfl
  · exact Int.ediv_eq_zero_of_lt (by omega) (by omega)

theorem roundDiv_neg (n : Int) (d : Nat) : roundDiv (-n) d = -roundDiv n d := by
  rcases lt_trichotomy n 0 with hn | rfl | hn
  · rw [roundDiv, roundDiv, if_pos (by omega), if_neg (by omega), neg_neg]
  · rw [neg_zero, roundDiv_zero, neg_zero]
  · rw [roundDiv, roundDiv, if_neg (by omega), if_pos (by omega), neg_neg]

theorem fixOne_pos : 0 < fixOne := by
  unfold fixOne
  exact Nat.two_pow_pos 160

/-- No turn is the unit of the angle nothing. -/
theorem ratioUnit_zero (den : Nat) : ratioUnit 0 den = ⟨fixOne, 0⟩ := by
  have hunit : radianUnit 0 = ⟨fixOne, 0⟩ := by decide +kernel
  unfold ratioUnit
  simp [hunit]

theorem headingUnit_axes :
    headingUnit 0 = ⟨fixOne, 0⟩ ∧ headingUnit 16384 = ⟨0, fixOne⟩ ∧ headingUnit 32768 = ⟨-fixOne, 0⟩
    ∧ headingUnit 49152 = ⟨0, -fixOne⟩ := by
  decide +kernel

/-- No turn added leaves an axis. -/
theorem add_nothing (c s : Int) :
    Unit2.add ⟨c * fixOne, s * fixOne⟩ ⟨fixOne, 0⟩ = ⟨c * fixOne, s * fixOne⟩ := by
  have hone : (fixOne : Int) ≠ 0 := by exact_mod_cast fixOne_pos.ne'
  simp [Unit2.add, Int.mul_ediv_cancel _ hone]

/-- Equal ticks move the pose along an axis, and do not turn it (R73, R74). -/
theorem movedPose_axis (h : Hub) (n c s : Int) {heading : Nat} (hh : h.odo.heading = heading) (hlt : heading < 65536)
    (hu : headingUnit heading = ⟨c * fixOne, s * fixOne⟩) :
    let v := 2 * n * h.sensors.tickLength * slipFactor h.odo.slip * 1000
    h.movedPose n n = ⟨limit32 (h.odo.x + roundDiv (v * c) 131072), limit32 (h.odo.y + roundDiv (v * s) 131072), heading⟩ := by
  intro v
  have hv : (n + n) * ((h.sensors.tickLength : Int) * slipFactor h.odo.slip) * 1000 = v := by
    simp only [v]
    ring
  have hpart (e : Int) : roundDiv (v * (e * fixOne)) (131072 * fixOne) = roundDiv (v * e) 131072 := by
    rw [← mul_assoc, roundDiv_scale _ _ fixOne_pos]
  unfold Hub.movedPose
  simp only [sub_self, zero_mul, roundDiv_zero, ratioUnit_zero, hh, hu, add_nothing, hv, hpart, add_zero]
  congr 1
  omega

end Sys2Proof.Machine
end
section
/-!
What a pose update sets off: arrivals, the trail, the return, the lookups and the wheels (R70, R75, R83, R84, R127,
R137, R139, R145, R146).
-/

namespace Sys2Proof.Machine

section
variable {h : Hub}

/-! ## Arrivals (R127, R128) -/

/-- The route once its head is reached. -/
def Route.passed (r : Route) (rest : List Waypoint) : Route :=
  { r with waypoints := rest, advances := (r.advances + 1) % 65536 }

theorem arrive_reached {w : Waypoint} (hw : h.within (mmPoint w.x w.y) w.radius = true) (rest : List Waypoint) :
    (w.stopAt = true → Hub.arrive (w :: rest) h = Hub.noteRouteEmpty rest ((h.advanceRoute rest).placeHold .route))
    ∧ (w.stopAt = false → Hub.arrive (w :: rest) h = Hub.arrive rest ((h.advanceRoute rest).noteRouteEmpty rest)) := by
  refine ⟨fun hs => ?_, fun hs => ?_⟩
  · rw [Hub.arrive, if_pos hw]
    simp [hs]
  · rw [Hub.arrive, if_pos hw]
    simp [hs]

theorem arrive_away {l : List Waypoint} (hl : ∀ v ∈ l.head?, h.within (mmPoint v.x v.y) v.radius = false) :
    Hub.arrive l h = h := by
  cases l with
  | nil => rfl
  | cons v rest =>
    rw [Hub.arrive, if_neg]
    simp [hl v (by simp)]

theorem noteRouteEmpty_flags (rest : List Waypoint) :
    (∀ f, h.planHas f = true → (h.noteRouteEmpty rest).planHas f = true)
    ∧ (rest = [] → (h.noteRouteEmpty rest).planHas .routeEmpty = true) := by
  unfold Hub.noteRouteEmpty
  split
  · exact ⟨fun f hf => planHas_setPlan_of hf _, fun _ => Hub.planHas_setPlan_self ..⟩
  · next he => exact ⟨fun f hf => hf, fun hn => absurd (by simp [hn]) he⟩

theorem advanceRoute_parts (rest : List Waypoint) :
    (h.advanceRoute rest).route = h.route.passed rest ∧ (h.advanceRoute rest).planHas .routeAdvanced = true
    ∧ (h.advanceRoute rest).permit = h.permit := ⟨rfl, Hub.planHas_setPlan_self .., rfl⟩

/-- An arrival at a head with STOP_AT. -/
theorem arrive_stop {w : Waypoint} (hw : h.within (mmPoint w.x w.y) w.radius = true) (hs : w.stopAt = true)
    (rest : List Waypoint) :
    let g := Hub.arrive (w :: rest) h
    g.route = h.route.passed rest ∧ g.planHas .routeAdvanced = true ∧ (rest = [] → g.planHas .routeEmpty = true)
    ∧ g.permit.holds = { h.permit.holds with route := true }
    ∧ (h.permit.holds.route = false → h.permit.state = .moving ∨ h.permit.state = .probing →
      g.permit.state = .stopping ∧ g.permit.lastStop = some .hold ∧ g.planHas .stopIssued = true) := by
  intro g
  have hg : g = Hub.noteRouteEmpty rest ((h.advanceRoute rest).placeHold .route) := (arrive_reached hw rest).1 hs
  obtain ⟨hroute, hflag, hpermit⟩ := advanceRoute_parts (h := h) rest
  obtain ⟨hkeep, hempty⟩ := noteRouteEmpty_flags (h := (h.advanceRoute rest).placeHold .route) rest
  have hnote : g.permit = ((h.advanceRoute rest).placeHold .route).permit := by rw [hg, noteRouteEmpty_permit]
  refine ⟨?_, ?_, fun he => hg ▸ hempty he, ?_, fun hn hm => ?_⟩
  · rw [hg, Hub.noteRouteEmpty]
    split <;> simp [hroute]
  · rw [hg]
    exact hkeep _ (planHas_placeHold hflag _)
  · rw [hnote, Hub.placeHold_holds, hpermit]
    rfl
  · have hstop := Hub.placeHold_motion (h := h.advanceRoute rest) .route hn hm
    have hissued : ((h.advanceRoute rest).placeHold .route).planHas .stopIssued = true := by
      rw [hstop]
      exact Hub.stopSequence_issued ..
    rw [hnote, hg]
    refine ⟨?_, ?_, hkeep _ hissued⟩
    · rw [hstop]
      simp
    · rw [hstop]
      simp

/-- An arrival at a head without STOP_AT, the next one away. -/
theorem arrive_pass {w : Waypoint} (hw : h.within (mmPoint w.x w.y) w.radius = true) (hs : w.stopAt = false)
    {rest : List Waypoint} (hr : ∀ v ∈ rest.head?, h.within (mmPoint v.x v.y) v.radius = false) :
    let g := Hub.arrive (w :: rest) h
    g.route = h.route.passed rest ∧ g.planHas .routeAdvanced = true ∧ (rest = [] → g.planHas .routeEmpty = true)
    ∧ g.permit.holds = h.permit.holds := by
  intro g
  obtain ⟨hroute, hflag, hpermit⟩ := advanceRoute_parts (h := h) rest
  obtain ⟨hkeep, hempty⟩ := noteRouteEmpty_flags (h := h.advanceRoute rest) rest
  have hodo : ((h.advanceRoute rest).noteRouteEmpty rest).odo = h.odo := by
    unfold Hub.noteRouteEmpty
    split <;> rfl
  have hg : g = (h.advanceRoute rest).noteRouteEmpty rest := by
    refine ((arrive_reached hw rest).2 hs).trans (arrive_away fun v hv => ?_)
    rw [Hub.within, Hub.pose, hodo]
    exact hr v hv
  rw [hg]
  refine ⟨?_, hkeep _ hflag, hempty, ?_⟩
  · unfold Hub.noteRouteEmpty
    split <;> exact hroute
  · rw [noteRouteEmpty_permit, hpermit]

/-! ## The trail in IDLE (R137, R139) -/

theorem dropLast_four {α : Type} (l : List α) : l.dropLast.dropLast.dropLast.dropLast = l.take (l.length - 4) := by
  simp only [List.dropLast_eq_take, List.take_take, List.length_take]
  congr 1
  omega

/-- The trail is pruned at the oldest near crumb that is not among the four newest, and at none else. -/
theorem prunedTrail_cases :
    (∀ i c, h.trail.crumbs[i]? = some c → i + 4 < h.trail.crumbs.length → h.nearCrumb c = true →
      (∀ j b, h.trail.crumbs[j]? = some b → j < i → h.nearCrumb b = false) →
      h.prunedTrail = some (h.trail.crumbs.take (i + 1)))
    ∧ ((∀ i c, h.trail.crumbs[i]? = some c → i + 4 < h.trail.crumbs.length → h.nearCrumb c = false) →
      h.prunedTrail = none) := by
  unfold Hub.prunedTrail
  rw [dropLast_four]
  refine ⟨fun i c hc hi hn hold => ?_, fun hfar => ?_⟩
  · have hfind : (h.trail.crumbs.take (h.trail.crumbs.length - 4)).findIdx? h.nearCrumb = some i := by
      rw [List.findIdx?_eq_some_iff_getElem]
      obtain ⟨hlt, rfl⟩ := List.getElem?_eq_some_iff.mp hc
      refine ⟨by rw [List.length_take]; omega, by simpa using hn, fun j hj => ?_⟩
      have hjlt : j < h.trail.crumbs.length := by omega
      simpa using hold j _ (List.getElem?_eq_getElem hjlt) hj
    rw [hfind]
    rfl
  · have hfind : (h.trail.crumbs.take (h.trail.crumbs.length - 4)).findIdx? h.nearCrumb = none := by
      rw [List.findIdx?_eq_none_iff]
      intro c hc
      obtain ⟨i, hi, rfl⟩ := List.getElem_of_mem hc
      rw [List.length_take] at hi
      have hilt : i < h.trail.crumbs.length := by omega
      simpa using hfar i _ (List.getElem?_eq_getElem hilt) (by omega)
    rw [hfind]
    rfl

/-- The push test at an empty trail or 400 mm or more from the newest crumb, and nearer (R137). -/
theorem pushTest_cases (ht : h.tracking = true) (hs : h.dock.state = .idle) :
    ((∀ c ∈ h.trail.crumbs.getLast?, 400000 ^ 2 ≤ h.pose.distSq c.point) → h.pushTest = h.pushCrumb)
    ∧ ∀ c ∈ h.trail.crumbs.getLast?, h.pose.distSq c.point < 400000 ^ 2 → h.pushTest = h := by
  unfold Hub.pushTest
  rw [if_pos (by simp [ht, hs])]
  cases hl : h.trail.crumbs.getLast? with
  | none => exact ⟨fun _ => rfl, fun c hc => absurd hc (by simp)⟩
  | some c =>
    refine ⟨fun hfar => if_pos (hfar c rfl), fun b hb hnear => ?_⟩
    cases hb
    exact if_neg (by omega)

theorem trailUpdate_idle (ht : h.tracking = true) (hs : h.dock.state = .idle) :
    h.trailUpdate = match h.prunedTrail with
      | some crumbs => { h with trail.crumbs := crumbs }
      | none => h.pushTest := if_pos (by simp [ht, hs])

theorem trailUpdate_returning (hs : h.dock.state ≠ .idle) : h.trailUpdate = h := if_neg (by simp [hs])

/-! ## The return (R145, R146) -/

theorem dockUpdate_idle (hs : h.dock.state = .idle) : h.dockUpdate = h := by
  unfold Hub.dockUpdate
  rw [hs]

theorem dockUpdate_approach (hs : h.dock.state = .approach) : h.dockUpdate = h.approachTests := by
  unfold Hub.dockUpdate
  rw [hs]

/-- The hub with the trail's near crumbs removed from the newest on. -/
def Hub.trailKept (h : Hub) : Hub :=
  { h with trail.crumbs := (h.trail.crumbs.reverse.dropWhile h.nearCrumb).reverse }

theorem dockUpdate_trailing (hs : h.dock.state = .trail) :
    h.dockUpdate = if h.trailKept.trail.crumbs.isEmpty then h.trailKept.trailDone else h.trailKept := by
  unfold Hub.dockUpdate
  rw [hs]
  rfl

/-- A trail that has become empty hands the return on, with its flags. -/
theorem trailDone_flags (hs : h.dock.state = .trail) :
    h.trailDone.planHas .returnChanged = true ∧ h.trailDone.powerHas .returnChanged = true
    ∧ (h.dockUsable = false → h.trailDone.dock.state = .docking)
    ∧ (h.dockUsable = true → h.trailDone.dock.state = .approach ∨ h.trailDone.dock.state = .docking)
    ∧ h.trailDone.dock.record = h.dock.record := by
  unfold Hub.trailDone
  cases hu : h.dockUsable with
  | false =>
    obtain ⟨hplan, hpower⟩ := h.setReturn_flags .docking (by simp [hs])
    exact ⟨hplan, hpower, fun _ => by simp, nofun, by simp⟩
  | true =>
    obtain ⟨hplan, hpower⟩ := h.setReturn_flags .approach (by simp [hs])
    obtain ⟨hplan', hpower'⟩ := (h.setReturn .approach).approachTests_flags hplan hpower
    refine ⟨hplan', hpower', nofun, fun _ => ?_, by simp⟩
    rcases (h.setReturn .approach).approachTests_state with he | ⟨-, he⟩
    · exact .inl (he.trans (by simp))
    · exact .inr he

/-! ## The lookups of the wheels and of the centre (R75, R83, R84) -/

/-- Discarding the results of some lookups marks those and leaves the others. -/
theorem mem_discarding {test : LookupFor → Bool} {l : List Lookup} {k : Lookup} (hk : k ∈ l) :
    (test k.what = true → { k with discard := true } ∈ discarding test l) ∧ (test k.what = false → k ∈ discarding test l) := by
  exact ⟨fun ht => List.mem_map.mpr ⟨k, hk, if_pos ht⟩, fun ht => List.mem_map.mpr ⟨k, hk, if_neg (by simp [ht])⟩⟩

theorem startCentreLookup_lookups :
    (∀ k ∈ h.odo.lookups, k.what ≠ .centre → k ∈ h.startCentreLookup.odo.lookups)
    ∧ (∀ t, h.pose.centreTile = some t → (∀ l ∈ h.odo.lookups, l.what ≠ .centre) →
      ⟨.centre, t, false, none⟩ ∈ h.startCentreLookup.odo.lookups
      ∧ h.startCentreLookup.odo.centreAgain = h.odo.centreAgain)
    ∧ (∀ t l, h.pose.centreTile = some t → l ∈ h.odo.lookups → l.what = .centre →
      { l with discard := true } ∈ h.startCentreLookup.odo.lookups ∧ h.startCentreLookup.odo.centreAgain = true) := by
  unfold Hub.startCentreLookup
  cases ht : h.pose.centreTile with
  | none => exact ⟨fun k hk _ => hk, nofun, nofun⟩
  | some tile =>
    dsimp only
    by_cases hany : (h.odo.lookups.any fun l => decide (l.what = .centre)) = true
    · rw [if_pos hany]
      refine ⟨fun k hk hne => ?_, fun t _ hno => ?_, fun t l _ hl hc => ?_⟩
      · exact (mem_discarding (test := fun w => decide (w = LookupFor.centre)) hk).2 (decide_eq_false hne)
      · obtain ⟨l, hl, hc⟩ := List.any_eq_true.mp hany
        exact absurd (of_decide_eq_true hc) (hno l hl)
      · exact ⟨(mem_discarding (test := fun w => decide (w = LookupFor.centre)) hl).1 (decide_eq_true hc), rfl⟩
    · rw [if_neg hany]
      refine ⟨fun k hk _ => List.mem_append_left _ hk, fun t ht' _ => ?_, fun t l _ hl hc => ?_⟩
      · cases ht'
        exact ⟨List.mem_append_right _ (List.mem_singleton_self _), rfl⟩
      · exact absurd (List.any_eq_true.mpr ⟨l, hl, by simp [hc]⟩) hany

/-- The lookups once a wheel's contact tile has changed. -/
def Hub.trackedLookups (h : Hub) (side : Side) : List Lookup :=
  let old := discarding (fun k => decide (k = .wheel side)) h.odo.lookups
  match h.pose.contactTile h.sensors.wheelBase side with
  | some tile => if h.dropped side then old else old ++ [⟨.wheel side, tile, false, none⟩]
  | none => old

theorem trackWheel_cases (side : Side) :
    let t := h.pose.contactTile h.sensors.wheelBase side
    (t = (h.odo.wheel side).contact → h.trackWheel side = (h, []))
    ∧ (t ≠ (h.odo.wheel side).contact → h.trackWheel side =
      ({ h with odo := { (h.odo.setWheel side ⟨t, none⟩) with lookups := h.trackedLookups side } },
        ((h.odo.wheel side).noted.map (Item.passOver side)).toList)) := by
  intro t
  refine ⟨fun hc => if_pos hc, fun hc => (if_neg hc).trans ?_⟩
  cases (h.odo.wheel side).noted <;> rfl

theorem trackedLookups_mem (side : Side) :
    (∀ k ∈ discarding (fun k => decide (k = .wheel side)) h.odo.lookups, k ∈ h.trackedLookups side)
    ∧ ∀ tile, h.pose.contactTile h.sensors.wheelBase side = some tile → h.dropped side = false →
      ⟨.wheel side, tile, false, none⟩ ∈ h.trackedLookups side := by
  unfold Hub.trackedLookups
  cases h.pose.contactTile h.sensors.wheelBase side with
  | none => exact ⟨fun k hk => hk, nofun⟩
  | some t =>
    cases hd : h.dropped side with
    | true => exact ⟨fun k hk => hk, nofun⟩
    | false =>
      refine ⟨fun k hk => List.mem_append_left _ hk, fun tile ht _ => ?_⟩
      cases ht
      exact List.mem_append_right _ (List.mem_singleton_self _)

/-- What tracking one wheel makes of the lookups. -/
theorem trackWheel_lookups (side : Side) :
    let t := h.pose.contactTile h.sensors.wheelBase side
    let g := (h.trackWheel side).1
    (∀ k ∈ h.odo.lookups, k.what ≠ .wheel side → k ∈ g.odo.lookups)
    ∧ g.odo.centreAgain = h.odo.centreAgain
    ∧ (t ≠ (h.odo.wheel side).contact →
      (∀ tile, t = some tile → h.dropped side = false → ⟨.wheel side, tile, false, none⟩ ∈ g.odo.lookups)
      ∧ ∀ l ∈ h.odo.lookups, l.what = .wheel side → { l with discard := true } ∈ g.odo.lookups) := by
  intro t g
  obtain ⟨hsame, hchanged⟩ := trackWheel_cases (h := h) side
  obtain ⟨hold, hnew⟩ := trackedLookups_mem (h := h) side
  by_cases hc : t = (h.odo.wheel side).contact
  · have hg : g = h := congrArg Prod.fst (hsame hc)
    rw [hg]
    exact ⟨fun k hk _ => hk, rfl, fun hn => absurd hc hn⟩
  · have hlookups : g.odo.lookups = h.trackedLookups side := by rw [show g = _ from congrArg Prod.fst (hchanged hc)]
    have hagain : g.odo.centreAgain = h.odo.centreAgain := by
      rw [show g = _ from congrArg Prod.fst (hchanged hc)]
      cases side <;> rfl
    rw [hlookups]
    exact ⟨fun k hk hne => hold _ ((mem_discarding hk).2 (by simp [hne])), hagain, fun _ => ⟨hnew,
      fun l hl hw => hold _ ((mem_discarding hl).1 (by simp [hw]))⟩⟩

/-- A wheel's track and its PASS_OVER item, and the other wheel's track, after it is tracked. -/
theorem trackWheel_wheel (side : Side) :
    let t := h.pose.contactTile h.sensors.wheelBase side
    (h.trackWheel side).1.odo.wheel side =
        (if t = (h.odo.wheel side).contact then h.odo.wheel side else ⟨t, none⟩)
    ∧ (∀ other, other ≠ side → (h.trackWheel side).1.odo.wheel other = h.odo.wheel other)
    ∧ (h.trackWheel side).2 =
        if t = (h.odo.wheel side).contact then [] else ((h.odo.wheel side).noted.map (Item.passOver side)).toList := by
  intro t
  obtain ⟨hsame, hchanged⟩ := trackWheel_cases (h := h) side
  by_cases hc : t = (h.odo.wheel side).contact
  · rw [hsame hc, if_pos hc, if_pos hc]
    exact ⟨rfl, fun _ _ => rfl, rfl⟩
  · rw [hchanged hc, if_neg hc, if_neg hc]
    refine ⟨by cases side <;> rfl, fun other ho => ?_, rfl⟩
    cases side <;> cases other
    case left.left | right.right => exact absurd rfl ho
    all_goals rfl

end

end Sys2Proof.Machine
end
section
/-!
The ticks of an ASK, settled.
-/

namespace Sys2Proof.Machine

section
variable {h : Hub}

/-! ## The hub whose pose is updated -/

/-- The hub at the pose an ask's ticks move it to, the permit's travel added (R73, R87). -/
def Hub.ticked (h : Hub) (a : AskFrame) : Hub :=
  { h.frameTaken.loadPose (h.movedPose a.leftCount a.rightCount) with
    permit.active := h.permit.active.map (PermitRecord.travel (h.ticksTravel a.leftCount a.rightCount)) }

theorem ticked_odo (a : AskFrame) :
    let p := h.movedPose a.leftCount a.rightCount
    (h.ticked a).odo = { h.odo with x := p.x, y := p.y, heading := p.heading } := rfl

theorem ticked_keeps (a : AskFrame) :
    (h.ticked a).route = h.route ∧ (h.ticked a).trail = h.trail ∧ (h.ticked a).dock = h.dock
    ∧ (h.ticked a).queue = h.queue ∧ (h.ticked a).updater = h.updater ∧ (h.ticked a).store = h.store
    ∧ (h.ticked a).sensors = h.sensors ∧ (h.ticked a).lines = h.lines ∧ (h.ticked a).time = h.time
    ∧ (h.ticked a).beacon = h.beacon ∧ (h.ticked a).permit.holds = h.permit.holds
    ∧ (h.ticked a).permit.state = h.permit.state := by
  simp [Hub.ticked]

theorem applyTicks_ticked (a : AskFrame) :
    let p := h.movedPose a.leftCount a.rightCount
    ((inRange p.x && inRange p.y) = true →
      h.frameTaken.applyTicks a.leftCount a.rightCount = (h.ticked a).poseUpdated)
    ∧ ((inRange p.x && inRange p.y) = false →
      h.frameTaken.applyTicks a.leftCount a.rightCount
        = Hub.enterLost .range { h.ticked a with odo.rangeSet := true }) := by
  intro p
  refine ⟨fun hin => ?_, fun hout => ?_⟩
  · exact if_pos hin
  · exact if_neg fun hy => Bool.false_ne_true (hout.symm.trans hy)

/-- An ask in TRACKING with legal ticks, its pose in the valid range. -/
theorem ask_inRange {s : State} {a : AskFrame} (hr : s.hub.inReset = false) (hx : s.hub.drive.rx.readyFor .ask = true)
    (ht : s.hub.tracking = true) (hl : askTicksLegal a = true)
    (hin : (inRange (s.hub.movedPose a.leftCount a.rightCount).x && inRange (s.hub.movedPose a.leftCount a.rightCount).y)
      = true) :
    ∃ h : Hub, Runs (.ask a) s h ∧ (s.hub.ticked a).poseUpdated.Asked h :=
  ⟨_, runs_ask a hr hx, (applyTicks_ticked a).1 hin ▸ ask_asked ht hl⟩

/-! ## What follows a pose update, stage by stage (log 13) -/

/-- The hub once the arrivals, the trail and the return have followed a pose update. -/
def Hub.followed (h : Hub) : Hub := (Hub.arrive h.route.waypoints h).trailUpdate.dockUpdate

theorem poseUpdated_followed : h.poseUpdated = h.followed.startCentreLookup.trackWheels := rfl

theorem poseUpdated_arrived :
    h.poseUpdated.route = (Hub.arrive h.route.waypoints h).route
    ∧ h.poseUpdated.permit = (Hub.arrive h.route.waypoints h).permit
    ∧ ∀ f, (Hub.arrive h.route.waypoints h).planHas f = true → h.poseUpdated.planHas f = true := by
  refine ⟨by simp [Hub.poseUpdated], by simp [Hub.poseUpdated], fun f hf => ?_⟩
  have htrail : (Hub.arrive h.route.waypoints h).trailUpdate.planHas f = true := (planHas_congr (by simp) f).trans hf
  exact trackWheels_flags.1 f ((planHas_congr (by simp) f).trans (dockUpdate_planHas htrail))

theorem poseUpdated_returned :
    h.poseUpdated.trail = h.followed.trail ∧ h.poseUpdated.dock = h.followed.dock
    ∧ (∀ f, h.followed.planHas f = true → h.poseUpdated.planHas f = true)
    ∧ ∀ f, h.followed.powerHas f = true → h.poseUpdated.powerHas f = true := by
  rw [poseUpdated_followed]
  refine ⟨by simp, by simp, fun f hf => ?_, fun f hf => ?_⟩
  · exact trackWheels_flags.1 f ((planHas_congr (by simp) f).trans hf)
  · exact (trackWheels_flags.2 f).trans ((powerHas_congr (by simp) f).trans hf)

theorem followed_keeps :
    h.followed.odo = h.odo ∧ h.followed.sensors = h.sensors ∧ h.followed.lines = h.lines ∧ h.followed.queue = h.queue
    ∧ h.followed.updater = h.updater ∧ h.followed.store = h.store ∧ h.followed.time = h.time := by
  simp [Hub.followed]

/-! ## The trail and the return at a pose update -/

theorem arrived_keeps :
    let g := Hub.arrive h.route.waypoints h
    g.odo = h.odo ∧ g.trail = h.trail ∧ g.dock = h.dock ∧ g.beacon = h.beacon ∧ g.time = h.time := by
  simp

/-- What the trail, the dock and their tests read is untouched by the arrivals. -/
theorem arrived_reads :
    let g := Hub.arrive h.route.waypoints h
    g.tracking = h.tracking ∧ g.pose = h.pose ∧ g.nearCrumb = h.nearCrumb ∧ g.dockUsable = h.dockUsable
    ∧ g.freshOf .centre = h.freshOf .centre ∧ g.floor = h.floor := by
  intro g
  obtain ⟨hodo, -, hdock, hbeacon, -⟩ := arrived_keeps (h := h)
  refine ⟨by rw [Hub.tracking, hodo]; rfl, by rw [Hub.pose, hodo]; rfl, funext fun c => ?_, ?_, ?_, by rw [Hub.floor, hodo, Hub.floor]⟩
  · rw [Hub.nearCrumb, Hub.within, Hub.pose, hodo]
    rfl
  · rw [Hub.dockUsable, hdock, Hub.floor, hodo]
    rfl
  · rw [Hub.freshOf, hbeacon]
    rfl

/-- In IDLE the trail is pruned, or else the push test is made (R137, R139). -/
theorem followed_idle (ht : h.tracking = true) (hs : h.dock.state = .idle) :
    let old := h.trail.crumbs
    h.followed.dock = h.dock
    ∧ (∀ i c, old[i]? = some c → i + 4 < old.length → h.nearCrumb c = true →
      (∀ j b, old[j]? = some b → j < i → h.nearCrumb b = false) →
      h.followed.trail = { h.trail with crumbs := old.take (i + 1) })
    ∧ ((∀ i c, old[i]? = some c → i + 4 < old.length → h.nearCrumb c = false) →
      ((∀ c ∈ old.getLast?, 400000 ^ 2 ≤ h.pose.distSq c.point) →
        h.followed.trail.crumbs =
            (if old.length < 128 then old else thinned old)
              ++ [⟨worldMm h.odo.x, worldMm h.odo.y, h.odo.heading, h.odo.floor, h.trail.pushCounter⟩]
        ∧ h.followed.trail.pushCounter = (h.trail.pushCounter + 1) % 65536)
      ∧ ∀ c ∈ old.getLast?, h.pose.distSq c.point < 400000 ^ 2 → h.followed.trail = h.trail) := by
  intro old
  obtain ⟨g, hg⟩ : ∃ g, g = Hub.arrive h.route.waypoints h := ⟨_, rfl⟩
  obtain ⟨hodo, htrail, hdock, -, -⟩ := arrived_keeps (h := h)
  obtain ⟨htrack, hpose, hnear, -, -, -⟩ := arrived_reads (h := h)
  rw [← hg] at hodo htrail hdock htrack hpose hnear
  have hgs : g.dock.state = .idle := by rw [hdock, hs]
  have hgt : g.tracking = true := htrack.trans ht
  have hfollowed : h.followed = g.trailUpdate := by
    rw [Hub.followed, ← hg]
    exact dockUpdate_idle (by simpa using hgs)
  have hupdate := trailUpdate_idle hgt hgs
  obtain ⟨hpruned, hnone⟩ := prunedTrail_cases (h := g)
  obtain ⟨hpush, hstay⟩ := pushTest_cases hgt hgs
  rw [htrail, hnear] at hpruned hnone
  rw [htrail, hpose] at hpush hstay
  rw [hfollowed]
  refine ⟨by simp [hdock], fun i c hc hi hn hold => ?_, fun hfar => ⟨fun hlast => ?_, fun c hc hclose => ?_⟩⟩
  · rw [hupdate, hpruned i c hc hi hn hold]
    dsimp only
    rw [htrail]
  · have hcrumb : g.trailUpdate = g.pushCrumb := by
      rw [hupdate, hnone hfar]
      exact hpush hlast
    rw [hcrumb, Hub.pushCrumb, htrail, hodo, Hub.floor, hodo]
    refine ⟨?_, rfl⟩
    by_cases hlen : h.trail.crumbs.length < 128
    · simp only [old, if_pos hlen, if_neg (Nat.not_le.mpr hlen)]
    · simp only [old, if_neg hlen, if_pos (Nat.not_lt.mp hlen)]
  · have hsame : g.trailUpdate = g := by
      rw [hupdate, hnone hfar]
      exact hstay c hc hclose
    rw [hsame, htrail]

/-- In TRAIL the near crumbs leave from the newest on, and an empty trail hands the return on (R145). -/
theorem followed_trail (hs : h.dock.state = .trail) :
    let kept := (h.trail.crumbs.reverse.dropWhile h.nearCrumb).reverse
    h.followed.trail = { h.trail with crumbs := kept } ∧ h.followed.dock.record = h.dock.record
    ∧ (kept ≠ [] → h.followed.dock = h.dock)
    ∧ (kept = [] → h.followed.planHas .returnChanged = true ∧ h.followed.powerHas .returnChanged = true
      ∧ (h.dockUsable = false → h.followed.dock.state = .docking)
      ∧ (h.dockUsable = true → h.followed.dock.state = .approach ∨ h.followed.dock.state = .docking)) := by
  intro kept
  obtain ⟨g, hg⟩ : ∃ g, g = Hub.arrive h.route.waypoints h := ⟨_, rfl⟩
  obtain ⟨hodo, htrail, hdock, -, -⟩ := arrived_keeps (h := h)
  obtain ⟨-, -, hnear, husable, -, -⟩ := arrived_reads (h := h)
  rw [← hg] at hodo htrail hdock hnear husable
  have hgs : g.dock.state = .trail := by rw [hdock, hs]
  have hkept : g.trailKept.trail = { h.trail with crumbs := kept } := by
    simp only [Hub.trailKept, htrail, hnear, kept]
  have hfollowed : h.followed = if kept.isEmpty then g.trailKept.trailDone else g.trailKept := by
    rw [Hub.followed, ← hg, trailUpdate_returning (by simp [hgs]), dockUpdate_trailing hgs, hkept]
  obtain ⟨hplan, hpower, hdocking, hreturn, hrecord⟩ := trailDone_flags (h := g.trailKept) hgs
  have hgu : g.trailKept.dockUsable = h.dockUsable := husable
  rw [hgu] at hdocking hreturn
  rw [hfollowed]
  cases hk : kept with
  | nil =>
    rw [hk] at hkept
    refine ⟨?_, hrecord.trans (by rw [← hdock]; rfl), fun hn => absurd rfl hn, fun _ => ⟨hplan, hpower, hdocking, hreturn⟩⟩
    rw [← hkept]
    simp
  | cons c rest =>
    rw [hk] at hkept
    exact ⟨hkept, congrArg (·.record) hdock, fun _ => hdock, nofun⟩

/-- In APPROACH the approach point reached makes it DOCKING (R146). -/
theorem followed_approach (ht : h.tracking = true) (hs : h.dock.state = .approach) (hu : h.dockUsable = true) :
    h.followed.trail = h.trail
    ∧ (h.pose.distSq h.dock.record.approach ≤ 150000 ^ 2 →
      h.followed.dock.state = .docking ∧ h.followed.planHas .returnChanged = true
      ∧ h.followed.powerHas .returnChanged = true)
    ∧ (150000 ^ 2 < h.pose.distSq h.dock.record.approach → h.freshOf .centre = false → h.followed.dock = h.dock) := by
  obtain ⟨g, hg⟩ : ∃ g, g = Hub.arrive h.route.waypoints h := ⟨_, rfl⟩
  obtain ⟨hodo, htrail, hdock, -, -⟩ := arrived_keeps (h := h)
  obtain ⟨htrack, hpose, -, husable, hfresh, -⟩ := arrived_reads (h := h)
  rw [← hg] at hodo htrail hdock htrack hpose husable hfresh
  have hgs : g.dock.state = .approach := by rw [hdock, hs]
  have hfollowed : h.followed = g.approachTests := by
    rw [Hub.followed, ← hg, trailUpdate_returning (by simp [hgs]), dockUpdate_approach hgs]
  have hwithin : g.within g.dock.record.approach 150 = decide (h.pose.distSq h.dock.record.approach ≤ 150000 ^ 2) := by
    rw [Hub.within, hpose, hdock]
    rfl
  rw [hfollowed]
  refine ⟨by simp [htrail], fun hnear => ?_, fun hfar hno => ?_⟩
  · have hend : g.approachEnds := .inr (.inl ⟨htrack.trans ht, by rw [hwithin]; exact decide_eq_true hnear⟩)
    obtain ⟨hplan, hpower⟩ := g.setReturn_flags .docking (by simp [hgs])
    rw [Hub.approachTests_ends g hgs hend]
    exact ⟨by simp, hplan, hpower⟩
  · rw [Hub.approachTests_stays g (.inr ?_), hdock]
    rintro (hbad | ⟨-, hclose⟩ | hyes)
    · rw [husable, hu] at hbad
      cases hbad
    · rw [hwithin] at hclose
      exact absurd (of_decide_eq_true hclose) (by omega)
    · rw [hfresh, hno] at hyes
      cases hyes

end

end Sys2Proof.Machine
end
section
/-!
Both wheels and the centre at a pose update, and the ticks of an ASK settled.
-/

namespace Sys2Proof.Machine

section
variable {h : Hub}

/-- A wheel's contact tile at the pose held (R83). -/
def Hub.contactNow (h : Hub) (side : Side) : Option Tile := h.pose.contactTile h.sensors.wheelBase side

/-- The PASS_OVER item a wheel makes at a pose update (R84). -/
def Hub.passOverItem (h : Hub) (side : Side) : List Item :=
  if h.contactNow side = (h.odo.wheel side).contact then []
  else ((h.odo.wheel side).noted.map (Item.passOver side)).toList

/-- What tracking the left wheel leaves for the right one to read. -/
theorem trackLeft_reads :
    let g := (h.trackWheel .left).1
    g.contactNow = h.contactNow ∧ g.dropped = h.dropped ∧ g.odo.wheel .right = h.odo.wheel .right := by
  intro g
  have hpose : g.pose = h.pose := by simp [g, Hub.pose]
  have hlines : g.lines = h.lines := by simp [g]
  refine ⟨funext fun side => ?_, funext fun side => ?_, (trackWheel_wheel .left).2.1 .right nofun⟩
  · rw [Hub.contactNow, hpose]
    simp [g, Hub.contactNow]
  · cases side <;> simp [Hub.dropped, hlines]

theorem trackWheels_tracks (side : Side) :
    h.trackWheels.odo.wheel side =
      if h.contactNow side = (h.odo.wheel side).contact then h.odo.wheel side else ⟨h.contactNow side, none⟩ := by
  have hodo : h.trackWheels.odo = ((h.trackWheel .left).1.trackWheel .right).1.odo := by simp [Hub.trackWheels]
  obtain ⟨hcontact, -, hright⟩ := trackLeft_reads (h := h)
  rw [hodo]
  cases side with
  | left => exact ((trackWheel_wheel .right).2.1 .left nofun).trans (trackWheel_wheel .left).1
  | right =>
    have hown := (trackWheel_wheel (h := (h.trackWheel .left).1) .right).1
    rw [hright] at hown
    rwa [show Pose.contactTile _ _ Side.right = h.contactNow .right from congrFun hcontact .right] at hown

/-- The lookups after both wheels: those of other kinds stay, and a changed wheel's are discarded and followed (R83,
R84; log 35). -/
theorem trackWheels_lookups :
    (∀ k ∈ h.odo.lookups, k.what = .centre → k ∈ h.trackWheels.odo.lookups)
    ∧ h.trackWheels.odo.centreAgain = h.odo.centreAgain
    ∧ ∀ side, h.contactNow side ≠ (h.odo.wheel side).contact →
      (∀ t, h.contactNow side = some t → h.dropped side = false →
        ⟨.wheel side, t, false, none⟩ ∈ h.trackWheels.odo.lookups)
      ∧ ∀ l ∈ h.odo.lookups, l.what = .wheel side → { l with discard := true } ∈ h.trackWheels.odo.lookups := by
  have hodo : h.trackWheels.odo = ((h.trackWheel .left).1.trackWheel .right).1.odo := by simp [Hub.trackWheels]
  obtain ⟨hcontact, hdropped, hright⟩ := trackLeft_reads (h := h)
  obtain ⟨hkeep, hagain, hleft⟩ := trackWheel_lookups (h := h) .left
  obtain ⟨hkeep', hagain', hchange⟩ := trackWheel_lookups (h := (h.trackWheel .left).1) .right
  rw [hright, hdropped, show Pose.contactTile _ _ Side.right = h.contactNow .right from congrFun hcontact .right] at hchange
  rw [hodo]
  refine ⟨fun k hk hc => hkeep' k (hkeep k hk (by rw [hc]; nofun)) (by rw [hc]; nofun), hagain'.trans hagain,
    fun side hne => ?_⟩
  cases side with
  | left =>
    obtain ⟨hnew, hold⟩ := hleft hne
    exact ⟨fun t ht hd => hkeep' _ (hnew t ht hd) nofun,
      fun l hl hw => hkeep' _ (hold l hl hw) (by rw [show l.what = .wheel .left from hw]; nofun)⟩
  | right =>
    obtain ⟨hnew, hold⟩ := hchange hne
    exact ⟨hnew, fun l hl hw => hold l (hkeep l hl (by rw [hw]; nofun)) hw⟩

/-- Both wheels' items make one record, the left item first (R84). -/
theorem trackWheels_queue :
    let items := h.passOverItem .left ++ h.passOverItem .right
    (items = [] → h.trackWheels.queue = h.queue)
    ∧ (items ≠ [] → h.UpdaterWaits → h.odo.pose ≠ .lifted → h.queue.count + 1 ≤ 40 →
      h.queue.bytes + 8 + 6 * items.length ≤ 640 →
      h.trackWheels.queue.records = h.queue.records ++ [⟨.passOver, h.floor, h.time.ms, .odometryUnit, items⟩]) := by
  intro items
  obtain ⟨hcontact, -, hright⟩ := trackLeft_reads (h := h)
  obtain ⟨g, hg⟩ : ∃ g, g = ((h.trackWheel .left).1.trackWheel .right).1 := ⟨_, rfl⟩
  have hleft : (h.trackWheel .left).2 = h.passOverItem .left := (trackWheel_wheel .left).2.2
  have hown := (trackWheel_wheel (h := (h.trackWheel .left).1) .right).2.2
  rw [hright, show Pose.contactTile _ _ Side.right = h.contactNow .right from congrFun hcontact .right] at hown
  have htrack : h.trackWheels = g.post .passOver .odometryUnit items := by
    rw [hg]
    exact congrArg₂ (fun l r => ((h.trackWheel .left).1.trackWheel .right).1.post .passOver .odometryUnit (l ++ r)) hleft hown
  have hq : g.queue = h.queue := by simp [hg]
  rw [htrack]
  refine ⟨fun he => by rw [he, post_none, hq], fun hne hw hl hc hb => ?_⟩
  have hgw : g.UpdaterWaits := hw.congr (by simp [hg]) (by simp [hg])
  have hfit := (post_waits hgw .passOver .odometryUnit items).2.2 (by simpa [hg] using hl) (by rwa [hq]) (by rw [hq]; omega)
  rw [hfit, hq, Hub.posted, if_neg (by simpa using hne)]
  simp [hg, Hub.floor]

/-! ## The whole pose update -/

/-- What tracking reads is untouched by what comes before it in a pose update. -/
theorem lookedUp_reads :
    let g := h.followed.startCentreLookup
    g.contactNow = h.contactNow ∧ g.dropped = h.dropped ∧ g.odo.wheel = h.odo.wheel ∧ g.queue = h.queue
    ∧ g.updater = h.updater ∧ g.store = h.store ∧ g.odo.pose = h.odo.pose ∧ g.floor = h.floor ∧ g.time = h.time := by
  intro g
  obtain ⟨hodo, hsensors, hlines, hqueue, hupdater, hstore, htime⟩ := followed_keeps (h := h)
  have hpose : g.pose = h.pose := by simp [g, Hub.pose, hodo]
  have hsens : g.sensors = h.sensors := by simp [g, hsensors]
  have hline : g.lines = h.lines := by simp [g, hlines]
  refine ⟨funext fun side => by rw [Hub.contactNow, hpose, hsens, Hub.contactNow], funext fun side => ?_,
    funext fun side => ?_, by simp [g, hqueue], by simp [g, hupdater], by simp [g, hstore], by simp [g, hodo],
    by simp [g, Hub.floor, hodo], by simp [g, htime]⟩
  · cases side <;> simp [Hub.dropped, hline]
  · cases side <;> simp [g, Odometry.wheel, hodo]

theorem poseUpdated_tracks (side : Side) :
    h.poseUpdated.odo.wheel side =
      if h.contactNow side = (h.odo.wheel side).contact then h.odo.wheel side else ⟨h.contactNow side, none⟩ := by
  obtain ⟨hcontact, -, hwheel, -⟩ := lookedUp_reads (h := h)
  rw [poseUpdated_followed, trackWheels_tracks, hcontact, hwheel]

theorem poseUpdated_lookups :
    (∀ t, h.pose.centreTile = some t → (∀ l ∈ h.odo.lookups, l.what ≠ .centre) →
      ⟨.centre, t, false, none⟩ ∈ h.poseUpdated.odo.lookups ∧ h.poseUpdated.odo.centreAgain = h.odo.centreAgain)
    ∧ (∀ t l, h.pose.centreTile = some t → l ∈ h.odo.lookups → l.what = .centre →
      { l with discard := true } ∈ h.poseUpdated.odo.lookups ∧ h.poseUpdated.odo.centreAgain = true)
    ∧ ∀ side, h.contactNow side ≠ (h.odo.wheel side).contact →
      (∀ t, h.contactNow side = some t → h.dropped side = false →
        ⟨.wheel side, t, false, none⟩ ∈ h.poseUpdated.odo.lookups)
      ∧ ∀ l ∈ h.odo.lookups, l.what = .wheel side → { l with discard := true } ∈ h.poseUpdated.odo.lookups := by
  obtain ⟨hodo, -⟩ := followed_keeps (h := h)
  obtain ⟨hcontact, hdropped, hwheel, -⟩ := lookedUp_reads (h := h)
  obtain ⟨hkeep, hnew, hagain⟩ := startCentreLookup_lookups (h := h.followed)
  obtain ⟨hcentre, hsame, htrack⟩ := trackWheels_lookups (h := h.followed.startCentreLookup)
  rw [Hub.pose, hodo] at hnew hagain
  rw [hodo] at hkeep
  rw [hcontact, hdropped, hwheel] at htrack
  rw [poseUpdated_followed]
  refine ⟨fun t ht hno => ?_, fun t l ht hl hc => ?_, fun side hne => ?_⟩
  · obtain ⟨hmem, ha⟩ := hnew t ht hno
    exact ⟨hcentre _ hmem rfl, hsame.trans ha⟩
  · obtain ⟨hmem, ha⟩ := hagain t l ht hl hc
    exact ⟨hcentre _ hmem hc, hsame.trans ha⟩
  · obtain ⟨hlook, hold⟩ := htrack side hne
    exact ⟨hlook, fun l hl hw => hold l (hkeep l hl (by rw [hw]; nofun)) hw⟩

theorem poseUpdated_queue :
    let items := h.passOverItem .left ++ h.passOverItem .right
    (items = [] → h.poseUpdated.queue = h.queue)
    ∧ (items ≠ [] → h.UpdaterWaits → h.odo.pose ≠ .lifted → h.queue.count + 1 ≤ 40 →
      h.queue.bytes + 8 + 6 * items.length ≤ 640 →
      h.poseUpdated.queue.records = h.queue.records ++ [⟨.passOver, h.floor, h.time.ms, .odometryUnit, items⟩]) := by
  obtain ⟨hcontact, -, hwheel, hqueue, hupdater, hstore, hpose, hfloor, htime⟩ := lookedUp_reads (h := h)
  have hitem : h.followed.startCentreLookup.passOverItem = h.passOverItem :=
    funext fun side => by rw [Hub.passOverItem, hcontact, hwheel, Hub.passOverItem]
  obtain ⟨hnone, hsome⟩ := trackWheels_queue (h := h.followed.startCentreLookup)
  rw [hitem, hqueue] at hnone hsome
  rw [hpose, hfloor, htime] at hsome
  exact ⟨hnone, fun hne hw => hsome hne (hw.congr hupdater hstore)⟩

end

end Sys2Proof.Machine
end
section
/-!
The ticks of an ASK, settled.
-/

namespace Sys2Proof.Machine

/-- Equal ticks along each of the four axes (R73, R74). -/
theorem movedPose_axes (h : Hub) (n : Int) :
    let d := roundDiv (2 * n * h.sensors.tickLength * slipFactor h.odo.slip * 1000) 131072
    (h.odo.heading = 0 → h.movedPose n n = ⟨limit32 (h.odo.x + d), limit32 h.odo.y, 0⟩)
    ∧ (h.odo.heading = 16384 → h.movedPose n n = ⟨limit32 h.odo.x, limit32 (h.odo.y + d), 16384⟩)
    ∧ (h.odo.heading = 32768 → h.movedPose n n = ⟨limit32 (h.odo.x - d), limit32 h.odo.y, 32768⟩)
    ∧ (h.odo.heading = 49152 → h.movedPose n n = ⟨limit32 h.odo.x, limit32 (h.odo.y - d), 49152⟩) := by
  obtain ⟨heast, hnorth, hwest, hsouth⟩ := headingUnit_axes
  refine ⟨fun hh => ?_, fun hh => ?_, fun hh => ?_, fun hh => ?_⟩
  · simpa [roundDiv_zero] using movedPose_axis h n 1 0 hh (by omega) (by simpa using heast)
  · simpa [roundDiv_zero] using movedPose_axis h n 0 1 hh (by omega) (by simpa using hnorth)
  · simpa [roundDiv_zero, roundDiv_neg, sub_eq_add_neg] using movedPose_axis h n (-1) 0 hh (by omega) (by simpa using hwest)
  · simpa [roundDiv_zero, roundDiv_neg, sub_eq_add_neg] using movedPose_axis h n 0 (-1) hh (by omega) (by simpa using hsouth)

/-- The pose after an ask's ticks, in and out of the valid range. -/
theorem applyTicks_pose {h : Hub} (a : AskFrame) :
    let p := h.movedPose a.leftCount a.rightCount
    let g := h.frameTaken.applyTicks a.leftCount a.rightCount
    (g.odo.x = p.x ∧ g.odo.y = p.y ∧ g.odo.heading = p.heading)
    ∧ ((inRange p.x && inRange p.y) = false →
      g.odo.pose = .lost .range ∧ g.odo.rangeSet = true ∧ g.planHas .poseLost = true
      ∧ g.route = h.route ∧ g.trail = h.trail ∧ g.dock = h.dock)
    ∧ ((inRange p.x && inRange p.y) = true → g = (h.ticked a).poseUpdated) := by
  intro p g
  obtain ⟨hin, hout⟩ := applyTicks_ticked (h := h) a
  obtain ⟨hroute, htrail, hdock, -⟩ := ticked_keeps (h := h) a
  refine ⟨?_, fun hr => ?_, hin⟩
  · cases hr : inRange p.x && inRange p.y with
    | true =>
      simp only [g, hin hr, Hub.poseUpdated_odo]
      exact ⟨rfl, rfl, rfl⟩
    | false =>
      simp only [g, hout hr, Hub.enterLost, Hub.setPlan, Hub.poseEntry_odo]
      exact ⟨rfl, rfl, rfl⟩
  · simp only [g, hout hr, Hub.enterLost_frame]
    refine ⟨?_, ?_, Hub.planHas_setPlan_self .., hroute, htrail, hdock⟩
    · simp only [Hub.enterLost, Hub.setPlan, Hub.poseEntry_odo]
    · simp only [Hub.enterLost, Hub.setPlan, Hub.poseEntry_odo]

/-- Settles O11: the pose moves by the ticks, and its update sets off the arrivals, the trail, the return, the lookups
and the wheels. -/
theorem askTicksMoveThePose : Obligations.AskTicksMoveThePose := by
  refine ⟨?_, ?_, ?_, ?_⟩
  · intro s a hr hx ht hl p
    have hasked := ask_asked ht hl
    obtain ⟨⟨hpx, hpy, hph⟩, hout, hin⟩ := applyTicks_pose (h := s.hub) a
    have hx' : (s.hub.ask a).odo.x = p.x := by rw [hasked.odo, hpx]
    have hy' : (s.hub.ask a).odo.y = p.y := by rw [hasked.odo, hpy]
    have hh' : (s.hub.ask a).odo.heading = p.heading := by rw [hasked.odo, hph]
    refine ⟨_, runs_ask a hr hx, hx', hy', hh', by simp, fun n hleft hright => ?_, fun hbad => ?_, fun hgood => ?_⟩
    · have hpose : (s.hub.ask a).pose = s.hub.movedPose n n := by
        rw [Hub.pose, hx', hy', hh']
        simp only [p, hleft, hright]
      rw [hpose]
      exact movedPose_axes s.hub n
    · obtain ⟨hlost, hset, hflag, hroute, htrail, hdock⟩ := hout hbad
      exact ⟨by rw [hasked.odo, hlost], by rw [hasked.odo, hset], (hasked.plan _).trans hflag, hasked.route.trans hroute,
        hasked.trail.trans htrail, hasked.dock.trans hdock⟩
    · rw [hasked.odo, hin hgood]
      simp only [Hub.poseUpdated_odo]
      exact ⟨of_decide_eq_true ht, rfl, rfl, fun side => poseUpdated_tracks (h := s.hub.ticked a) side⟩
  · intro s a hr hx ht hl p hgood reached
    obtain ⟨h, hrun, hasked⟩ := ask_inRange hr hx ht hl hgood
    obtain ⟨hroute, -, -, -, -, -, -, -, -, -, hholds, hstate⟩ := ticked_keeps (h := s.hub) a
    obtain ⟨haroute, hapermit, haflags⟩ := poseUpdated_arrived (h := s.hub.ticked a)
    have hwithin (w : Waypoint) : (s.hub.ticked a).within (mmPoint w.x w.y) w.radius = true ↔ reached w := by
      rw [Hub.within, decide_eq_true_iff]
      push_cast
      exact Iff.rfl
    have haway (w : Waypoint) (hn : ¬ reached w) : (s.hub.ticked a).within (mmPoint w.x w.y) w.radius = false :=
      Bool.eq_false_iff.mpr (mt (hwithin w).mp hn)
    rw [hroute] at haroute hapermit haflags
    refine ⟨h, hrun, fun hw => ?_, fun w rest hw hn => ?_, fun w rest hw hy hs => ?_, fun w rest hw hy hs hrest => ?_⟩
    · rw [hasked.route, haroute, hw]
      exact hroute
    · have hstay : Hub.arrive (w :: rest) (s.hub.ticked a) = s.hub.ticked a :=
        arrive_away fun v hv => by
          cases hv
          exact haway w hn
      rw [hw, hstay] at haroute hapermit
      rw [hasked.route, haroute, hasked.holds, hapermit]
      exact ⟨hroute, hholds⟩
    · obtain ⟨hpassed, hadv, hempty, hhold, hstop⟩ := arrive_stop ((hwithin w).mpr hy) hs rest
      rw [hw] at haroute hapermit haflags
      rw [hroute] at hpassed
      rw [hholds] at hhold hstop
      rw [hstate] at hstop
      refine ⟨hasked.route.trans (haroute.trans hpassed), (hasked.plan _).trans (haflags _ hadv),
        fun he => (hasked.plan _).trans (haflags _ (hempty he)), ?_, fun hno hm => ?_⟩
      · rw [hasked.holds, hapermit, hhold]
      · obtain ⟨hst, hlast, hissued⟩ := hstop hno hm
        obtain ⟨hst', hlast'⟩ := hasked.stopping (by rw [hapermit, hst])
        exact ⟨hst', by rw [hlast', hapermit, hlast], (hasked.plan _).trans (haflags _ hissued)⟩
    · obtain ⟨hpassed, hadv, hempty, hhold⟩ := arrive_pass ((hwithin w).mpr hy) hs fun v hv => haway v (hrest v hv)
      rw [hw] at haroute hapermit haflags
      rw [hroute] at hpassed
      rw [hholds] at hhold
      refine ⟨hasked.route.trans (haroute.trans hpassed), (hasked.plan _).trans (haflags _ hadv),
        fun he => (hasked.plan _).trans (haflags _ (hempty he)), ?_⟩
      rw [hasked.holds, hapermit, hhold]
  · intro s a hr hx ht hl p hgood near old
    obtain ⟨h, hrun, hasked⟩ := ask_inRange hr hx ht hl hgood
    obtain ⟨htrail, hdock, hplan, hpower⟩ := poseUpdated_returned (h := s.hub.ticked a)
    obtain ⟨-, hkt, hkd, -, -, -, -, -, -, hkb, -, -⟩ := ticked_keeps (h := s.hub) a
    have hnear : (s.hub.ticked a).nearCrumb = near := rfl
    have huse : (s.hub.ticked a).dockUsable = s.hub.dockUsable := by
      rw [Hub.dockUsable, hkd]
      rfl
    have hfresh : (s.hub.ticked a).freshOf .centre = s.hub.freshOf .centre := by
      rw [Hub.freshOf, hkb]
      rfl
    rw [← hasked.trail] at htrail
    rw [← hasked.dock] at hdock
    refine ⟨h, hrun, fun hs => ?_, fun hs => ?_, fun hs hu => ?_⟩
    · obtain ⟨hd, hprune, hpush⟩ := followed_idle (h := s.hub.ticked a) ht (by rw [hkd, hs])
      rw [← htrail, hkt, hnear] at hprune hpush
      rw [← hdock, hkd] at hd
      exact ⟨hd, hprune, hpush⟩
    · obtain ⟨hk, hrec, hstay, hdone⟩ := followed_trail (h := s.hub.ticked a) (by rw [hkd, hs])
      rw [hkt, hnear, ← htrail] at hk
      rw [hkd, ← hdock] at hrec
      rw [hkt, hnear, hkd, ← hdock] at hstay
      rw [hkt, hnear, huse, ← hdock] at hdone
      refine ⟨hk, hrec, hstay, fun hnone => ?_⟩
      obtain ⟨hp, hq, hdocking, happroach⟩ := hdone hnone
      exact ⟨(hasked.plan _).trans (hplan _ hp), (hasked.power _).trans (hpower _ hq), hdocking, happroach⟩
    · obtain ⟨hk, hnearby, hfar⟩ := followed_approach (h := s.hub.ticked a) ht (by rw [hkd, hs]) (huse.trans hu)
      rw [← htrail, hkt] at hk
      rw [hkd, ← hdock] at hnearby hfar
      rw [hfresh] at hfar
      refine ⟨hk, fun hd => ?_, hfar⟩
      obtain ⟨hst, hp, hq⟩ := hnearby hd
      exact ⟨hst, (hasked.plan _).trans (hplan _ hp), (hasked.power _).trans (hpower _ hq)⟩
  · intro s a hr hx ht hl p hgood leaves item items
    obtain ⟨h, hrun, hasked⟩ := ask_inRange hr hx ht hl hgood
    obtain ⟨hnew, hagain, hwheels⟩ := poseUpdated_lookups (h := s.hub.ticked a)
    obtain ⟨hnone, hsome⟩ := poseUpdated_queue (h := s.hub.ticked a)
    rw [← hasked.odo] at hnew hagain hwheels
    rw [← hasked.queue] at hnone hsome
    have hlifted : (s.hub.ticked a).odo.pose ≠ .lifted := by
      have htrack : s.hub.odo.pose = .tracking := of_decide_eq_true ht
      rw [show (s.hub.ticked a).odo.pose = s.hub.odo.pose from rfl, htrack]
      nofun
    refine ⟨h, hrun, fun side t hne => (hwheels side hne).1 t, fun side hne => (hwheels side hne).2, hnew, hagain,
      hnone, fun hne hw hc hb => hsome hne hw hlifted hc hb⟩

end Sys2Proof.Machine
end
